-- ==== Sys2Proof/Word.lean ====
section
/-! DEFINITION. The plain data types of the RK-716's links and tables: bytes, two-byte fields, cycle numbers,
headset IDs, and the numbers of ports, records, lanes and translate classes (00_scope.md section 4). -/

namespace Sys2Proof

/-- One byte of a frame, packet or table; bit 0 is the least significant (00_scope.md 4.4). -/
abbrev Byte := BitVec 8

/-- A two-byte field; the most significant byte is sent first (00_scope.md 4.4). -/
abbrev Half := BitVec 16

/-- A cycle number, 0 to 65535, which wraps (00_scope.md 4.1). -/
abbrev CycleNo := BitVec 16

/-- A headset ID: check nibble and five digits of serial (00_scope.md 4.3). -/
abbrev HeadsetId := BitVec 24

/-- An antenna link port, and the antenna behind it, 0 to 23 (00_scope.md 4.4). -/
abbrev PortId := Fin 24

/-- A roaming record's index, 0 to 191 (R2). -/
abbrev RecordIx := Fin 192

/-- A matrix lane, 0 to 63 (00_scope.md 4.4). -/
abbrev LaneId := Fin 64

/-- A translate class, 0 to 3 (R158). -/
abbrev ClassId := Fin 4

/-- A level, 0 to 127, in half-dB above the noise floor (00_scope.md 4.2, R158). -/
abbrev Level := Fin 128

/-- A voice block or lane block: 64 bytes (Table 5-2, Table 12-4). -/
abbrev Block := Vector Byte 64

/-- The block of 64 zero bytes (R89, R92). -/
def zeroBlock : Block := Vector.replicate 64 0

end Sys2Proof
end

