-- ==== Sys2Proof/Config.lean ====
section
/-! DEFINITION. The fixed sizes and constants of the part. The spec leaves no VALUE open, so there is no free value
here (INVENTORY.md, "What the manual leaves open"). -/

namespace Sys2Proof.Config

/-- Air slots the part holds per antenna (R42, R64). -/
def maxLoad : Nat := 12

/-- Entries of a candidate list (R3). -/
def maxCandidates : Nat := 4

/-- Orders in a port's order queue (R118). -/
def maxOrders : Nat := 16

/-- Orders one downlink frame carries (R121). -/
def ordersPerFrame : Nat := 3

/-- Voice records in a downlink assembly (R98). -/
def maxVoice : Nat := 12

/-- Entries of the Registration Queue (R70). -/
def maxRegistrations : Nat := 16

/-- Entries of the Deny List (R76). -/
def maxDenials : Nat := 8

/-- Events in the Event Queue (R165). -/
def maxEvents : Nat := 32

/-- Responses in a lane's Response Queue (R140). -/
def maxResponses : Nat := 16

/-- Bytes of responses in one upstream control block (R144). -/
def responseBytes : Nat := 60

/-- The longest response payload (R144, Table 12-5). -/
def maxResponsePayload : Nat := 54

/-- Where every counter saturates (R169). -/
def counterMax : Nat := 65535

/-- The longest freeze (R50, R51). -/
def maxFreeze : Nat := 15000

/-- The longest missing count (Table 6-1). -/
def maxMissing : Nat := 250

/-- Bytes of a matrix frame: 3 of header, 16 of lane status, 64 blocks of 64 (Table 12-4). -/
def matrixFrameBytes : Nat := 4115

/-- Bytes of a control block (R133). -/
def controlBlockBytes : Nat := 64

/-- The longest command payload that fits a control block: 4 bytes of header and 2 of CRC stand with it (R136). -/
def maxCommandPayload : Nat := 58

/-- Vendor code (R148). -/
def vendorCode : Byte := 0x46

/-- Part code (R148). -/
def partCode : Half := 0x0716

/-- Revision (R148). -/
def revision : Byte := 1

end Sys2Proof.Config
end

