-- ==== Sys2Proof/Syntax.lean ====
section
/-! DEFINITION. The commands of the RK-716: one constructor of `Instr` for each row of spec/opcode_table.json, with
the operands the row's event brings. A row that is a command packet starts where its packet has passed R135 and R136:
it carries its origin and its payload as received (logs 9 and 10). -/

namespace Sys2Proof

/-- The two control lanes: lane 63 is the primary, lane 62 the secondary (R131). -/
inductive CtlLane where
  | primary
  | secondary
  deriving DecidableEq, Repr

/-- Where a command packet comes from: its lane, its tag, and whether its header was Corrected (R135, R139). -/
structure Origin where
  lane : CtlLane
  tag : Byte
  corrected : Bool
  deriving DecidableEq, Repr

/-- The order of events the spec leaves open at one cycle start. `transmitFirst`: the upstream transmit is taken before
the close left pending (R95); a renumbering does not read it, since R128 puts that close first. `writesFirst`: the hold
writes still waiting at the transmit are taken before it (R95). `commandsFirst`: the arrival that makes the cycle start
is distributed and parsed before the transmit (R144). See logs 7 and 8. -/
structure StartOrder where
  transmitFirst : Bool
  writesFirst : Bool
  commandsFirst : Bool
  deriving DecidableEq, Repr

/-- The commands. The docstring of each names its row of spec/opcode_table.json. -/
inductive Instr where
  /-- POWER_ON_RESET (R123). -/
  | powerOnReset
  /-- DOWNSTREAM_ARRIVAL (R96): a matrix frame's bytes, `after` whole sixteenths after the latest cycle start. -/
  | downstreamArrival (after : Nat) (order : StartOrder) (frame : List Byte)
  /-- LOCAL_CYCLE_START (R127). -/
  | localCycleStart (order : StartOrder)
  /-- HOLDOVER_WATCH_EXPIRY (R126). -/
  | holdoverWatchExpiry (order : StartOrder)
  /-- FREEZE_EXPIRED (R53). -/
  | freezeExpired
  /-- REGISTRATION_AGE_OUT (R74). -/
  | registrationAgeOut
  /-- DENY_LISTING_EXPIRY (R76). -/
  | denyListingExpiry (id : HeadsetId)
  /-- DOWNLINK_SEND (R121), at one port. -/
  | downlinkSend (port : PortId)
  /-- CYCLE_CLOSE (R8). -/
  | cycleClose
  /-- LINK_LOST (R20). -/
  | linkLost (rd : RecordIx)
  /-- HOLD_WRITE (R90). -/
  | holdWrite
  /-- BRIDGE_TIMEOUT (R60). -/
  | bridgeTimeout (rd : RecordIx)
  /-- ATTACH_TIMEOUT (R16). -/
  | attachTimeout (rd : RecordIx)
  /-- HEADSET_DROPPED (R21). -/
  | headsetDropped (rd : RecordIx)
  /-- BAR_TIMER_EXPIRY (R17). -/
  | barTimerExpiry (rd : RecordIx) (antenna : PortId)
  /-- PORT_ISOLATED (R116). -/
  | portIsolated (port : PortId)
  /-- REGISTRATION_INTAKE (R71). -/
  | registrationIntake
  /-- UPLINK_FRAME (R108): the bytes of one uplink frame at a port. -/
  | uplinkFrame (port : PortId) (bytes : List Byte)
  /-- ECHO (R145). -/
  | echo (o : Origin) (payload : List Byte)
  /-- IDENTIFY (R148). -/
  | identify (o : Origin) (payload : List Byte)
  /-- READ_STATUS (R149). -/
  | readStatus (o : Origin) (payload : List Byte)
  /-- CONFIGURE (R151). -/
  | configure (o : Origin) (payload : List Byte)
  /-- READ_PARAMETERS (R154). -/
  | readParameters (o : Origin) (payload : List Byte)
  /-- SET_PARTITION (R79). -/
  | setPartition (o : Origin) (payload : List Byte)
  /-- RESTART (R155). -/
  | restart (o : Origin) (payload : List Byte)
  /-- CLEAR_SHED (R146). -/
  | clearShed (o : Origin) (payload : List Byte)
  /-- COUNTER_EXCHANGE_ADD (R170). -/
  | counterExchangeAdd (o : Origin) (payload : List Byte)
  /-- ACTIVATE (R106): Port Control with action 0. -/
  | activate (o : Origin) (port cls : Byte)
  /-- MAKE_DORMANT (R106): Port Control with action 1. -/
  | makeDormant (o : Origin) (port cls : Byte)
  /-- TURN_OFF (R107): Port Control with action 2. -/
  | turnOff (o : Origin) (port cls : Byte)
  /-- PORT_RESET (R107): Port Control with action 3. -/
  | portReset (o : Origin) (port cls : Byte)
  /-- SET_CLASS (R106): Port Control with action 4. -/
  | setClass (o : Origin) (port cls : Byte)
  /-- LOAD_TRANSLATE (R159). -/
  | loadTranslate (o : Origin) (payload : List Byte)
  /-- READ_TRANSLATE (R160). -/
  | readTranslate (o : Origin) (payload : List Byte)
  /-- SET_WINDOW (R162). -/
  | setWindow (o : Origin) (payload : List Byte)
  /-- WRITE_WINDOW (R163). -/
  | writeWindow (o : Origin) (payload : List Byte)
  /-- READ_WINDOW (R164). -/
  | readWindow (o : Origin) (payload : List Byte)
  /-- FETCH_REGISTRATIONS (R75). -/
  | fetchRegistrations (o : Origin) (payload : List Byte)
  /-- ADMIT (R81). -/
  | admitHeadset (o : Origin) (payload : List Byte)
  /-- DENY (R77). -/
  | deny (o : Origin) (payload : List Byte)
  /-- RELEASE (R25). -/
  | release (o : Origin) (payload : List Byte)
  /-- READ_RECORD (R26). -/
  | readRecord (o : Origin) (payload : List Byte)
  /-- FORCE_HANDOFF (R67). -/
  | forceHandoff (o : Origin) (payload : List Byte)
  /-- FREEZE_ON (R51): Freeze with action 1. -/
  | freezeOn (o : Origin) (duration : Half)
  /-- FREEZE_OFF (R51): Freeze with action 0; its duration is not read (R172). -/
  | freezeOff (o : Origin) (duration : Half)
  /-- FETCH_EVENTS (R168). -/
  | fetchEvents (o : Origin) (payload : List Byte)
  deriving DecidableEq, Repr

/-- The payload bytes of a row that is a command packet, as Table 12-7 lays them out. -/
def Instr.packetPayload : Instr → Option (List Byte)
  | .powerOnReset => none
  | .downstreamArrival _ _ _ => none
  | .localCycleStart _ => none
  | .holdoverWatchExpiry _ => none
  | .freezeExpired => none
  | .registrationAgeOut => none
  | .denyListingExpiry _ => none
  | .downlinkSend _ => none
  | .cycleClose => none
  | .linkLost _ => none
  | .holdWrite => none
  | .bridgeTimeout _ => none
  | .attachTimeout _ => none
  | .headsetDropped _ => none
  | .barTimerExpiry _ _ => none
  | .portIsolated _ => none
  | .registrationIntake => none
  | .uplinkFrame _ _ => none
  | .echo _ p => some p
  | .identify _ p => some p
  | .readStatus _ p => some p
  | .configure _ p => some p
  | .readParameters _ p => some p
  | .setPartition _ p => some p
  | .restart _ p => some p
  | .clearShed _ p => some p
  | .counterExchangeAdd _ p => some p
  | .activate _ port cls => some [port, 0, cls]
  | .makeDormant _ port cls => some [port, 1, cls]
  | .turnOff _ port cls => some [port, 2, cls]
  | .portReset _ port cls => some [port, 3, cls]
  | .setClass _ port cls => some [port, 4, cls]
  | .loadTranslate _ p => some p
  | .readTranslate _ p => some p
  | .setWindow _ p => some p
  | .writeWindow _ p => some p
  | .readWindow _ p => some p
  | .fetchRegistrations _ p => some p
  | .admitHeadset _ p => some p
  | .deny _ p => some p
  | .release _ p => some p
  | .readRecord _ p => some p
  | .forceHandoff _ p => some p
  | .freezeOn _ d => some [1, (d >>> 8).setWidth 8, d.setWidth 8]
  | .freezeOff _ d => some [0, (d >>> 8).setWidth 8, d.setWidth 8]
  | .fetchEvents _ p => some p

end Sys2Proof
end

