-- ==== Sys2Proof/Decode.lean ====
section
/-! DEFINITION. The decoder over the opcode table's bits. spec/opcode_table.json gives NO row any bits ("fields": []
in each, and no mask), so no word spells a command: the decoder answers none on every word. The bytes of command
packets are read by the parser of the control lanes (Machine/Parser.lean), which is part of DOWNSTREAM_ARRIVAL. -/

namespace Sys2Proof

/-- The command that a word spells by the table's bits: none, since no row of the table has bits. -/
def decodeTableWord (_nbits _w : Nat) : Option Instr := none

end Sys2Proof
end

