-- ==== Sys2Proof/Machine/State.lean ====
section
/-! DEFINITION. The state of the RK-716 as plain data: everything the spec gives the part, block by block (00_scope.md
Table 1), the events it has placed and not yet taken, and the queue of waiting commands. INVENTORY.md lists each field
with its rule and its reset value. -/

namespace Sys2Proof.Machine

/-- Why the model stops. -/
inductive Fault where
  /-- Raised by DOWNSTREAM_ARRIVAL when its bytes are not the 4115 bytes of a matrix frame: Table 12-4 gives no other
  frame, so the spec says nothing of it. Safe: the model stops where the hardware never gets (log 18). -/
  | notAMatrixFrame
  deriving DecidableEq, Repr

/-- Why the model has no meaning for a command. -/
inductive Refusal where
  /-- Raised by an arm of `exec` whose command has no meaning yet. Safe. No arm is left so. -/
  | notModelled (mnemonic : String)
  deriving DecidableEq, Repr

/-! ### Antenna Link Ports (Chapter 6) -/

/-- The state of a port (R104). -/
inductive PortState where
  | off
  | dormant
  | active
  | isolated
  deriving DecidableEq, Repr

/-- The state an ISOLATED port goes back to (Table 6-1). -/
inductive ReturnState where
  | dormant
  | active
  deriving DecidableEq, Repr

/-- The three condition flags of an antenna unit (Table 12-1). -/
structure ConditionFlags where
  rfOverload : Bool
  backupPower : Bool
  referenceLost : Bool
  deriving DecidableEq, Repr

/-- No condition flag set. -/
def ConditionFlags.clear : ConditionFlags := ⟨false, false, false⟩

/-- The kinds of burst a held frame keeps; a Voice burst has a block (R103, R112). -/
inductive BurstKind where
  | voice (block : Block)
  | monitor
  | register
  deriving DecidableEq, Repr

/-- A burst as a port holds it: the level stands in place of the raw code (R27). -/
structure Burst where
  id : HeadsetId
  level : Level
  damaged : Bool
  kind : BurstKind
  deriving DecidableEq, Repr

/-- A held frame: its air cycle and its bursts in the order they stood (R103). -/
structure HeldFrame where
  cycle : CycleNo
  bursts : List Burst
  deriving DecidableEq, Repr

/-- The three orders to an antenna unit (R118). -/
inductive OrderKind where
  | acquire
  | drop
  | deny
  deriving DecidableEq, Repr

/-- An order in a port's queue (R118). -/
structure Order where
  kind : OrderKind
  id : HeadsetId
  deriving DecidableEq, Repr

/-- A Voice record of a downlink assembly: it carries the lane it came from (R97). -/
structure VoiceRecord where
  id : HeadsetId
  lane : LaneId
  block : Block
  deriving DecidableEq, Repr

/-- One Antenna Link Port (Table 6-1). `voice` and `allCall` are the downlink assembly. -/
structure Port where
  state : PortState
  returnState : ReturnState
  cls : ClassId
  gathering : CycleNo
  gatherSlot : Option HeldFrame
  earlySlot : Option HeldFrame
  flags : ConditionFlags
  missing : Nat
  settling : Bool
  orders : List Order
  voice : List VoiceRecord
  allCall : Option Block
  counters : Vector Nat 7
  deriving DecidableEq, Repr

/-- A port's values after power-on reset (Table 6-1). -/
def Port.powerOn : Port where
  state := .off
  returnState := .dormant
  cls := 0
  gathering := 0
  gatherSlot := none
  earlySlot := none
  flags := .clear
  missing := 0
  settling := false
  orders := []
  voice := []
  allCall := none
  counters := Vector.replicate 7 0

/-! ### Quality Translator and Neighbour Matrix (Chapter 10) -/

/-- The relation of an ordered pair of antennas (R44). -/
inductive Relation where
  | normal
  | preferred
  | barred
  deriving DecidableEq, Repr

/-- An entry of the Neighbour Matrix; the offset is a signed four-bit value (R161). -/
structure Neighbour where
  relation : Relation
  offset : BitVec 4
  deriving DecidableEq, Repr

/-- The order in which a window's cells are visited (R162). -/
inductive OrderMode where
  | rowMajor
  | columnMajor
  | mirrored
  deriving DecidableEq, Repr

/-- The window of the Neighbour Matrix, its order mode and its pointer (R162). -/
structure Window where
  rs : Fin 24
  re : Fin 24
  cs : Fin 24
  ce : Fin 24
  mode : OrderMode
  row : Fin 24
  col : Fin 24
  deriving DecidableEq, Repr

/-! ### Roaming Engine (Chapters 1 to 3) -/

/-- The state of a roaming record (Table 1-4). -/
inductive RecordState where
  | free
  | searching
  | attaching
  | active
  | bridging
  deriving DecidableEq, Repr

/-- Why a bridge was started (Table 1-1). -/
inductive BridgeKind where
  | automatic
  | rescue
  | forced
  deriving DecidableEq, Repr

/-- A candidate entry (Table 1-2). Pinned is derived (R4). -/
structure Candidate where
  antenna : PortId
  q : Nat
  absent : Nat
  bar : Nat
  deriving DecidableEq, Repr

/-- A roaming record (Table 1-1). `timer` is the bridge timer, called the attach timer in ATTACHING. -/
structure Record where
  state : RecordState
  id : Option HeadsetId
  lane : Option LaneId
  serving : Option PortId
  target : Option PortId
  accepted : Bool
  kind : Option BridgeKind
  timer : Nat
  dwellTarget : Option PortId
  dwellCount : Nat
  deferred : Bool
  miss : Nat
  orphan : Nat
  cands : List Candidate
  deriving DecidableEq, Repr

/-- The FREE values of a record (R2). -/
def Record.free : Record where
  state := .free
  id := none
  lane := none
  serving := none
  target := none
  accepted := false
  kind := none
  timer := 0
  dwellTarget := none
  dwellCount := 0
  deferred := false
  miss := 0
  orphan := 0
  cands := []

/-- The freeze state (R50). -/
structure Freeze where
  active : Bool
  remaining : Nat
  requested : Bool
  deriving DecidableEq, Repr

/-- No freeze and no request (R50). -/
def Freeze.clear : Freeze := ⟨false, 0, false⟩

/-- A hold-write request handed to the Matrix Link Interface (R88). -/
structure HoldRequest where
  lane : LaneId
  index : RecordIx
  id : HeadsetId
  block : Block
  deriving DecidableEq, Repr

/-- The close a cycle start has scheduled: the cycle it closes and the time it is due, in sixteenths (R6, R124). -/
structure CloseDue where
  cycle : CycleNo
  due : Nat
  deriving DecidableEq, Repr

/-! ### Admission Unit (Chapter 4) -/

/-- An entry of the Registration Queue (Table 4-1). -/
structure Registration where
  id : HeadsetId
  antenna : PortId
  level : Level
  firstHeard : CycleNo
  lastHeard : CycleNo
  deriving DecidableEq, Repr

/-- An entry of the Deny List (R76). -/
structure Denial where
  id : HeadsetId
  remaining : Nat
  deriving DecidableEq, Repr

/-- The lane partition: sizes of the fixed, pool and control regions (R78). -/
structure Partition where
  fixed : Nat
  pool : Nat
  control : Nat
  deriving DecidableEq, Repr

/-- A Register burst handed to the registration intake: the port, the ID and the level (R71). -/
structure Heard where
  port : PortId
  id : HeadsetId
  level : Level
  deriving DecidableEq, Repr

/-- A registration intake that a close has handed over: its cycle and its bursts (R71). -/
structure Intake where
  cycle : CycleNo
  heard : List Heard
  deriving DecidableEq, Repr

/-! ### Matrix Link Interface (Chapter 5) -/

/-- A lane hold (Table 5-2). -/
structure Hold where
  block : Block
  fresh : Bool
  conceal : Nat
  deriving DecidableEq, Repr

/-- A silent hold under a Conceal Limit (R89). -/
def Hold.silent (limit : Nat) : Hold := ⟨zeroBlock, false, limit⟩

/-! ### Control Lane Interface (Chapter 8) -/

/-- A queued response: its length, check byte and CRC follow from these (R140, R144, log 17). -/
structure Response where
  code : Byte
  tag : Byte
  payload : List Byte
  deriving DecidableEq, Repr

/-- The state of one control lane (Table 8-1). -/
structure ControlLane where
  queue : List Response
  hold : Bool
  shed : Bool
  shedTag : Byte
  deriving DecidableEq, Repr

/-- A control lane's values after power-on reset (Table 8-1). -/
def ControlLane.empty : ControlLane := ⟨[], false, false, 0⟩

/-! ### Event Queue (Chapter 11) -/

/-- The classes of event (00_scope.md 4.6). -/
inductive EventClass where
  | info
  | notice
  | warning
  | alarm
  deriving DecidableEq, Repr

/-- The kinds of event, in the order of Table 11-2. -/
inductive EventKind where
  | powerOn
  | restartDone
  | registrationPending
  | registrationFull
  | headsetAttached
  | attachFailed
  | rescueStarted
  | handoffDone
  | handoffFailed
  | linkLost
  | headsetDropped
  | freezeExpired
  | freezeRequested
  | portCondition
  | orderLost
  | portIsolated
  | portRecovered
  | clockHoldover
  | clockRestored
  | cycleRenumbered
  deriving DecidableEq, Repr

/-- An event (Table 11-1). -/
structure Event where
  cls : EventClass
  kind : EventKind
  cycle : CycleNo
  port : Option PortId
  id : Option HeadsetId
  lane : Option LaneId
  detail : Byte
  deriving DecidableEq, Repr

/-! ### Cycle Timer (Chapter 7) and Parameter Set (Chapter 9) -/

/-- The clock states, Local, Follow and Holdover (R123). -/
inductive ClockState where
  | follow
  | holdover
  | localClock
  deriving DecidableEq, Repr

/-- The Cycle Timer; times are in sixteenths of a cycle from the release of reset (R123, logs 2 and 3). -/
structure Timer where
  clock : ClockState
  cycle : CycleNo
  lastStart : Nat
  lastArrival : Nat
  deriving DecidableEq, Repr

/-- Secondary Authority (Table 9-3). -/
inductive Authority where
  | noAuthority
  | freezeOnly
  | full
  deriving DecidableEq, Repr

/-- Clock Source (Table 9-3). -/
inductive ClockSource where
  | follow
  | localSource
  deriving DecidableEq, Repr

/-- The 22 parameters (Table 9-3), in number order. `allCall` is the All-Call lane of the Lane Map too (log 11). -/
structure Params where
  smoothingShift : Nat
  hysteresisMargin : Nat
  dwell : Nat
  rescueThreshold : Nat
  bridgeLimit : Nat
  attachLimit : Nat
  missLimit : Nat
  lostHold : Nat
  reacquireLevel : Nat
  candidateStale : Nat
  barTime : Nat
  damagePenalty : Nat
  concealLimit : Nat
  gatherDelay : Nat
  linkTimeout : Nat
  registrationAge : Nat
  denyHold : Nat
  holdTrigger : Nat
  infoEvents : Bool
  authority : Authority
  clockSource : ClockSource
  allCall : Option LaneId
  deriving DecidableEq, Repr

/-- Every parameter at its default (Table 9-3). -/
def Params.default : Params where
  smoothingShift := 3
  hysteresisMargin := 8
  dwell := 4
  rescueThreshold := 6
  bridgeLimit := 25
  attachLimit := 50
  missLimit := 50
  lostHold := 2500
  reacquireLevel := 30
  candidateStale := 12
  barTime := 125
  damagePenalty := 12
  concealLimit := 3
  gatherDelay := 10
  linkTimeout := 25
  registrationAge := 250
  denyHold := 1250
  holdTrigger := 12
  infoEvents := false
  authority := .noAuthority
  clockSource := .follow
  allCall := none

/-! ### The whole part -/

/-- The state of the part, the events it has placed and not yet taken, and the queue of waiting commands. -/
structure State where
  pending : List Instr
  ports : Vector Port 24
  tables : Vector (Vector Level 256) 4
  matrix : Vector (Vector Neighbour 24) 24
  window : Window
  records : Vector Record 192
  loads : Vector Nat 24
  freeze : Freeze
  roamCounters : Vector Nat 4
  registrations : List Registration
  fullReported : Bool
  denials : List Denial
  partition : Partition
  bindings : Vector (Option RecordIx) 64
  cursor : Nat
  holds : Vector Hold 64
  laneCounters : Vector (Vector Nat 4) 64
  primary : ControlLane
  secondary : ControlLane
  parsedControl : Nat
  ctlCounters : Vector Nat 5
  events : List Event
  lostEvents : Bool
  timer : Timer
  params : Params
  pendingClose : Option CloseDue
  sendDue : Vector Bool 24
  holdRequests : List HoldRequest
  intakes : List Intake
  isolationDue : Vector Bool 24
  upstreamOut : List Byte
  downlinkOut : Vector (List Byte) 24
  deriving DecidableEq, Repr

/-- A translate table after power-on reset: entry i holds i/2 rounded down (R158). -/
def powerOnTable : Vector Level 256 :=
  ⟨⟨(List.finRange 256).map fun i => (⟨i.val / 2, by omega⟩ : Level)⟩, by simp⟩

/-- A Neighbour Matrix entry after power-on reset (R161). -/
def Neighbour.powerOn : Neighbour := ⟨.normal, 0⟩

/-- The event the queue holds after power-on reset (R165). -/
def powerOnEvent : Event := ⟨.notice, .powerOn, 0, none, none, none, 0⟩

/-- Every block at its power-on values, before the first cycle start (R2, R50, R64, R69, R70, R76, R78, R89, R101,
R103, R123, R131, R147, R150, R158, R161, R162, R165). -/
def State.powerOn : State where
  pending := []
  ports := Vector.replicate 24 Port.powerOn
  tables := Vector.replicate 4 powerOnTable
  matrix := Vector.replicate 24 (Vector.replicate 24 Neighbour.powerOn)
  window := ⟨0, 23, 0, 23, .rowMajor, 0, 0⟩
  records := Vector.replicate 192 Record.free
  loads := Vector.replicate 24 0
  freeze := Freeze.clear
  roamCounters := Vector.replicate 4 0
  registrations := []
  fullReported := false
  denials := []
  partition := ⟨0, 63, 1⟩
  bindings := Vector.replicate 64 none
  cursor := 0
  holds := Vector.replicate 64 (Hold.silent 3)
  laneCounters := Vector.replicate 64 (Vector.replicate 4 0)
  primary := ControlLane.empty
  secondary := ControlLane.empty
  parsedControl := 1
  ctlCounters := Vector.replicate 5 0
  events := [powerOnEvent]
  lostEvents := false
  timer := ⟨.holdover, 0, 0, 0⟩
  params := Params.default
  pendingClose := none
  sendDue := Vector.replicate 24 false
  holdRequests := []
  intakes := []
  isolationDue := Vector.replicate 24 false
  upstreamOut := []
  downlinkOut := Vector.replicate 24 []

/-- The upstream matrix frame of the first cycle start: cycle 0, Holdover, C 1, lane 63 Fresh with a control header
that shows Attention, Holdover and one event of class Notice, every other lane Idle (R92, R143, R165). -/
def firstUpstream : List Byte :=
  [0, 0, 0x01] ++ List.replicate 15 0 ++ [0x40] ++ List.replicate 4032 0 ++ [0x24, 0x05, 0, 0] ++ List.replicate 60 0

/-- The part right after reset: its power-on values and what the first cycle start, made at once on the release of the
reset input, has done: it scheduled the close for cycle 65535, placed the downlink sends and sent an upstream frame
(R123, log 4). POWER_ON_RESET brings exactly this (`Obligations.PowerOnResetBringsReset`). -/
def State.reset : State :=
  { State.powerOn with
    pendingClose := some ⟨65535, 10⟩
    sendDue := Vector.replicate 24 true
    upstreamOut := firstUpstream }

end Sys2Proof.Machine
end

