-- ==== Sys2Proof/Machine/Flags.lean ====
section
/-! DEFINITION. The codes and flag bytes of the spec: state codes, kinds, reasons, classes, condition flags, neighbour
entries and status bits, as Chapter 12 lays them out. -/

namespace Sys2Proof.Machine

/-- A Bool as bit 0 of a byte. -/
def bit (b : Bool) : Byte := if b then 1 else 0

/-- A number as one byte (its low eight bits). -/
def byteOf (n : Nat) : Byte := BitVec.ofNat 8 n

/-- The code of a port state (12.4). -/
def PortState.code : PortState → Byte
  | .off => 0
  | .dormant => 1
  | .active => 2
  | .isolated => 3

/-- The port state a return state names (R117). -/
def ReturnState.state : ReturnState → PortState
  | .dormant => .dormant
  | .active => .active

/-- The code of a record state (12.4). -/
def RecordState.code : RecordState → Byte
  | .free => 0
  | .searching => 1
  | .attaching => 2
  | .active => 3
  | .bridging => 4

/-- Bridge kind as Read Record reports it; 0 is absent (Table 12-8). -/
def bridgeKindCode : Option BridgeKind → Byte
  | none => 0
  | some .automatic => 1
  | some .rescue => 2
  | some .forced => 3

/-- The kinds of a Handoff Done: the three bridge kinds, and Promoted (12.5). -/
inductive DoneKind where
  | bridge (k : BridgeKind)
  | promoted
  deriving DecidableEq, Repr

/-- The code of a Handoff Done's kind (12.5). -/
def DoneKind.code : DoneKind → Byte
  | .bridge .automatic => 0
  | .bridge .rescue => 1
  | .bridge .forced => 2
  | .promoted => 3

/-- The class of a Handoff Done: Info for Automatic, Notice for the others (R59, Table 11-2). -/
def DoneKind.cls : DoneKind → EventClass
  | .bridge .automatic => .info
  | .bridge .rescue => .notice
  | .bridge .forced => .notice
  | .promoted => .notice

/-- The detail byte of a Handoff Done: former serving antenna in bits 0-4, kind in bits 5-6 (12.5). -/
def handoffDoneDetail (k : DoneKind) (former : PortId) : Byte := byteOf former.val ||| (k.code <<< 5)

/-- Why an attach or a bridge failed (12.5). -/
inductive FailReason where
  | noSlot
  | timeout
  | targetDown
  deriving DecidableEq, Repr

/-- The code of a failure reason (12.5). -/
def FailReason.code : FailReason → Byte
  | .noSlot => 1
  | .timeout => 2
  | .targetDown => 3

/-- The code of an order's kind in an Order Lost event (12.5); an Acquire is never discarded (R119). -/
def OrderKind.code : OrderKind → Byte
  | .acquire => 1
  | .drop => 2
  | .deny => 3

/-- The kind byte of an order in a downlink frame (Table 12-3). -/
def OrderKind.recordByte : OrderKind → Byte
  | .acquire => 0x13
  | .drop => 0x14
  | .deny => 0x15

/-- Rank and code of an event class (00_scope.md 4.6, Table 12-9). -/
def EventClass.rank : EventClass → Nat
  | .info => 0
  | .notice => 1
  | .warning => 2
  | .alarm => 3

/-- The number of an event kind, in the order of Table 11-2 from 0x01 (12.5). -/
def EventKind.code : EventKind → Byte
  | .powerOn => 0x01
  | .restartDone => 0x02
  | .registrationPending => 0x03
  | .registrationFull => 0x04
  | .headsetAttached => 0x05
  | .attachFailed => 0x06
  | .rescueStarted => 0x07
  | .handoffDone => 0x08
  | .handoffFailed => 0x09
  | .linkLost => 0x0A
  | .headsetDropped => 0x0B
  | .freezeExpired => 0x0C
  | .freezeRequested => 0x0D
  | .portCondition => 0x0E
  | .orderLost => 0x0F
  | .portIsolated => 0x10
  | .portRecovered => 0x11
  | .clockHoldover => 0x12
  | .clockRestored => 0x13
  | .cycleRenumbered => 0x14

/-- The code of a clock state in headers, flags and Read Status (12.2). -/
def ClockState.code : ClockState → Byte
  | .follow => 0
  | .holdover => 1
  | .localClock => 2

/-- The condition flags of an uplink frame's flags byte; bits 3-7 are ignored (Table 12-1, R172). -/
def ConditionFlags.ofByte (b : Byte) : ConditionFlags := ⟨b.getLsbD 0, b.getLsbD 1, b.getLsbD 2⟩

/-- The condition flags in the bit positions of the uplink frame (12.5). -/
def ConditionFlags.byte (f : ConditionFlags) : Byte :=
  bit f.rfOverload ||| (bit f.backupPower <<< 1) ||| (bit f.referenceLost <<< 2)

/-- The byte Read Status gives for a port: state in bits 0-1, return state ACTIVE in bit 2, flags in bits 4-6
(Table 12-7). -/
def portStatusByte (p : Port) : Byte :=
  p.state.code ||| (bit (p.returnState = .active) <<< 2) ||| (p.flags.byte <<< 4)

/-- The flags byte of Read Status: freeze active, Freeze Request, Lost-Events (Table 12-7). -/
def statusFlags (f : Freeze) (lost : Bool) : Byte :=
  bit f.active ||| (bit f.requested <<< 1) ||| (bit lost <<< 2)

/-- The flags byte of a Freeze response: active, Freeze Request (Table 12-7). -/
def freezeFlags (f : Freeze) : Byte := bit f.active ||| (bit f.requested <<< 1)

/-- The relation code of a neighbour entry; code 3 is stored as Barred (R161). -/
def Relation.ofCode : BitVec 2 → Relation
  | 0 => .normal
  | 1 => .preferred
  | _ => .barred

/-- The relation code as read back: 0, 1 or 2 (R161). -/
def Relation.code : Relation → Byte
  | .normal => 0
  | .preferred => 1
  | .barred => 2

/-- A written neighbour byte: relation in bits 0-1, offset in bits 4-7, bits 2-3 ignored (R161). -/
def Neighbour.ofByte (b : Byte) : Neighbour := ⟨Relation.ofCode (b.extractLsb' 0 2), b.extractLsb' 4 4⟩

/-- A neighbour entry as read: bits 2-3 at 0 (R161). -/
def Neighbour.byte (n : Neighbour) : Byte := n.relation.code ||| (n.offset.setWidth 8 <<< 4)

/-- The offset as a number from -8 to 7 (R161). -/
def Neighbour.offsetInt (n : Neighbour) : Int := n.offset.toInt

/-- The window mode of a mode code; codes above 2 name none (R162). -/
def OrderMode.ofByte (b : Byte) : Option OrderMode :=
  if b = 0 then some .rowMajor else if b = 1 then some .columnMajor else if b = 2 then some .mirrored else none

/-- The reasons of a refused command or a parse error (Table 9-2). -/
inductive Reason where
  | unknownCommand
  | truncated
  | headerBroken
  | badLength
  | checksum
  | notPermitted
  | badArgument
  | badIdentifier
  | badWindow
  | notFound
  | duplicate
  | busy
  | full
  | notEligible
  | noLane
  | tableFull
  deriving DecidableEq, Repr

/-- The numbers of the reasons (12.3). -/
def Reason.code : Reason → Byte
  | .unknownCommand => 1
  | .truncated => 2
  | .headerBroken => 3
  | .badLength => 4
  | .checksum => 5
  | .notPermitted => 6
  | .badArgument => 7
  | .badIdentifier => 8
  | .badWindow => 9
  | .notFound => 10
  | .duplicate => 11
  | .busy => 12
  | .full => 13
  | .notEligible => 14
  | .noLane => 15
  | .tableFull => 16

/-- The statuses of an upstream lane (12.2). -/
inductive LaneStatus where
  | idle
  | fresh
  | concealed
  | silence
  deriving DecidableEq, Repr

/-- The two-bit code of an upstream lane status (12.2). -/
def LaneStatus.code : LaneStatus → Byte
  | .idle => 0
  | .fresh => 1
  | .concealed => 2
  | .silence => 3

/-- The counters of the Roaming Engine (Table 11-3, group 0). -/
inductive RoamCounter where
  | handoffsDone
  | handoffsFailed
  | rescues
  | attaches
  deriving DecidableEq, Repr

/-- Index in group 0 (Table 11-3). -/
def RoamCounter.index : RoamCounter → Fin 4
  | .handoffsDone => 0
  | .handoffsFailed => 1
  | .rescues => 2
  | .attaches => 3

/-- The counters of the Control Lane Interface (Table 11-3, group 1). -/
inductive CtlCounter where
  | headerCorrections
  | headerFailures
  | checksumFailures
  | shedPrimary
  | shedSecondary
  deriving DecidableEq, Repr

/-- Index in group 1 (Table 11-3). -/
def CtlCounter.index : CtlCounter → Fin 5
  | .headerCorrections => 0
  | .headerFailures => 1
  | .checksumFailures => 2
  | .shedPrimary => 3
  | .shedSecondary => 4

/-- The counter Commands Shed of a lane (R147). -/
def shedCounter : CtlLane → CtlCounter
  | .primary => .shedPrimary
  | .secondary => .shedSecondary

/-- The counters of a port (Table 11-3, group 2). -/
inductive PortCounter where
  | frameErrors
  | late
  | misaligned
  | overruns
  | idErrors
  | damagedBursts
  | orderDrops
  deriving DecidableEq, Repr

/-- The k of a port counter (Table 11-3). -/
def PortCounter.index : PortCounter → Fin 7
  | .frameErrors => 0
  | .late => 1
  | .misaligned => 2
  | .overruns => 3
  | .idErrors => 4
  | .damagedBursts => 5
  | .orderDrops => 6

/-- The counters of a lane (Table 11-3, group 3). -/
inductive LaneCounter where
  | concealedBlocks
  | silenceBlocks
  | uplinkOverwrites
  | downlinkOverwrites
  deriving DecidableEq, Repr

/-- The k of a lane counter (Table 11-3). -/
def LaneCounter.index : LaneCounter → Fin 4
  | .concealedBlocks => 0
  | .silenceBlocks => 1
  | .uplinkOverwrites => 2
  | .downlinkOverwrites => 3

/-- The code of Secondary Authority (Table 9-3). -/
def Authority.code : Authority → Nat
  | .noAuthority => 0
  | .freezeOnly => 1
  | .full => 2

/-- The code of Clock Source (Table 9-3). -/
def ClockSource.code : ClockSource → Nat
  | .follow => 0
  | .localSource => 1

end Sys2Proof.Machine
end

