-- ==== Sys2Proof/Machine/Operands.lean ====
section
/-! DEFINITION. The operand forms: how fields stand in bytes, which headset IDs are canonical, the selectors of
commands, and the two checks that guard packets and frames, the header check code (R134, R135) and the CRC-16 (R137). -/

namespace Sys2Proof.Machine

/-! ### Multi-byte fields, most significant byte first (00_scope.md 4.4) -/

/-- Two bytes as a field. -/
def half (hi lo : Byte) : Half := hi ++ lo

/-- Three bytes as a headset ID. -/
def id24 (a b c : Byte) : HeadsetId := a ++ b ++ c

/-- A two-byte field as sent. -/
def halfBytes (h : Half) : List Byte := [h.extractLsb' 8 8, h.extractLsb' 0 8]

/-- A headset ID as sent. -/
def idBytes (x : HeadsetId) : List Byte := [x.extractLsb' 16 8, x.extractLsb' 8 8, x.extractLsb' 0 8]

/-- A number as a two-byte field. -/
def natBytes (n : Nat) : List Byte := halfBytes (BitVec.ofNat 16 n)

/-- A headset ID that may be absent: 0x000000 when absent (Chapter 12). -/
def idBytes? (x : Option HeadsetId) : List Byte := idBytes (x.getD 0)

/-- A port that may be absent: 0xFF when absent (Chapter 12). -/
def portByte? : Option PortId → Byte
  | none => 0xFF
  | some p => byteOf p.val

/-- A lane that may be absent: 0xFF when absent (Chapter 12). -/
def laneByte? : Option LaneId → Byte
  | none => 0xFF
  | some n => byteOf n.val

/-- The delta of a Counter Exchange-Add: a signed value of four bytes (R170). -/
def signed32 (a b c d : Byte) : Int := (a ++ b ++ c ++ d : BitVec 32).toInt

/-- A byte that names a port, if it does (R106). -/
def portOf (b : Byte) : Option PortId := if h : b.toNat < 24 then some ⟨b.toNat, h⟩ else none

/-- A byte that names a translate class, if it does (R159). -/
def classOf (b : Byte) : Option ClassId := if h : b.toNat < 4 then some ⟨b.toNat, h⟩ else none

/-- A number that names a lane, if it does. -/
def laneOf (n : Nat) : Option LaneId := if h : n < 64 then some ⟨n, h⟩ else none

/-- A byte as a level: above 127 it is stored as 127 (R159). -/
def levelOf (b : Byte) : Level := ⟨min b.toNat 127, by omega⟩

/-! ### Headset IDs (00_scope.md 4.3) -/

/-- Hexadecimal digit k of an ID, digit 0 the lowest. -/
def idDigit (x : HeadsetId) (k : Nat) : BitVec 4 := x.extractLsb' (4 * k) 4

/-- The serial: the five lower digits. -/
def serial (x : HeadsetId) : BitVec 20 := x.extractLsb' 0 20

/-- An ID is canonical when its check nibble is the exclusive-OR of the serial's digits and the serial is neither
0x00000 nor 0xFFFFF (00_scope.md 4.3). -/
def canonical (x : HeadsetId) : Bool :=
  idDigit x 5 = (idDigit x 0 ^^^ idDigit x 1 ^^^ idDigit x 2 ^^^ idDigit x 3 ^^^ idDigit x 4) ∧
    serial x ≠ 0 ∧ serial x ≠ 0xFFFFF

/-- The All-Call ID (00_scope.md 4.3). -/
def allCallId : HeadsetId := 0xFFFFFF

/-! ### Selectors (R5, 12.4) -/

/-- A selector: a record index, or a headset ID. -/
inductive Selector where
  | index (n : Nat)
  | id (x : HeadsetId)
  deriving DecidableEq, Repr

/-- A selector of four bytes; a kind other than 0 and 1 is none (12.4, R172). -/
def Selector.ofBytes (kind a b c : Byte) : Option Selector :=
  if kind = 0 then some (.index (id24 a b c).toNat)
  else if kind = 1 then some (.id (id24 a b c))
  else none

/-! ### The header check code (R134, R135) -/

/-- The positions of the 24 data bits, in index order (Table 8-2). -/
def positions : List Nat :=
  [3, 5, 6, 7, 9, 10, 11, 12, 13, 14, 15, 17, 18, 19, 20, 21, 22, 23, 24, 25, 26, 27, 28, 29]

/-- Data bit i of a header: index 8 × byte + bit (R134). -/
def dataBit (b0 b1 b2 : Byte) (i : Nat) : Bool :=
  if i < 8 then b0.getLsbD i else if i < 16 then b1.getLsbD (i - 8) else b2.getLsbD (i - 16)

/-- The 24 data bits with their positions. -/
def dataPositions (b0 b1 b2 : Byte) : List (Bool × Nat) := (List.range 24).map (dataBit b0 b1 b2) |>.zip positions

/-- Check bits 0 to 4: the exclusive-OR of the positions of the data bits that are 1 (R134). -/
def checkLow (b0 b1 b2 : Byte) : Nat :=
  (dataPositions b0 b1 b2).foldl (fun acc x => if x.1 then acc ^^^ x.2 else acc) 0

/-- How many of the lowest n bits of a byte are ones. -/
def ones (n : Nat) (b : Byte) : Nat := ((List.range n).filter fun i => b.getLsbD i).length

/-- The check byte of three data bytes; check bit 5 makes the thirty bits even, bits 6 and 7 are 0 (R134). -/
def checkByte (b0 b1 b2 : Byte) : Byte :=
  let low := byteOf (checkLow b0 b1 b2)
  let n := ones 8 b0 + ones 8 b1 + ones 8 b2 + ones 5 low
  low ||| (bit (n % 2 = 1) <<< 5)

/-- What the header check says: Broken, or the code, tag and length to use and whether they were Corrected (R135). -/
inductive HeaderCheck where
  | broken
  | use (code tag length : Byte) (corrected : Bool)
  deriving DecidableEq, Repr

/-- A byte with bit i inverted. -/
def flipBit (b : Byte) (i : Nat) : Byte := b ^^^ ((1 : Byte) <<< i)

/-- The header check of four bytes as received (R135). -/
def checkHeader (b0 b1 b2 chk : Byte) : HeaderCheck :=
  let s := checkLow b0 b1 b2 ^^^ (chk &&& 0x1F).toNat
  let p := (ones 8 b0 + ones 8 b1 + ones 8 b2 + ones 6 chk) % 2
  if chk.getLsbD 6 || chk.getLsbD 7 then .broken
  else if p = 0 then (if s = 0 then .use b0 b1 b2 false else .broken)
  else if s = 0 ∨ s = 1 ∨ s = 2 ∨ s = 4 ∨ s = 8 ∨ s = 16 then .use b0 b1 b2 true
  else
    match positions.findIdx? (· = s) with
    | none => .broken
    | some i =>
      if i < 8 then .use (flipBit b0 i) b1 b2 true
      else if i < 16 then .use b0 (flipBit b1 (i - 8)) b2 true
      else .use b0 b1 (flipBit b2 (i - 16)) true

/-! ### The CRC-16 (R137) -/

/-- One bit of the CRC: shift the register left and add the polynomial when the bit leaving differs from the bit fed. -/
def crcBit (r : Half) (fed : Bool) : Half :=
  if (r.getLsbD 15) != fed then (r <<< 1) ^^^ 0x1021 else r <<< 1

/-- One byte of the CRC, most significant bit first. -/
def crcByte (r : Half) (b : Byte) : Half :=
  [7, 6, 5, 4, 3, 2, 1, 0].foldl (fun r i => crcBit r (b.getLsbD i)) r

/-- The CRC-16 of a run of bytes: polynomial x^16 + x^12 + x^5 + 1, from all ones, no final exclusive-OR (R137). -/
def crc16 (bytes : List Byte) : Half := bytes.foldl crcByte 0xFFFF

/-- A block of a frame: 64 bytes from a run of bytes (a run of exactly 64 where it is used). -/
def blockOf (l : List Byte) : Block :=
  ⟨⟨(l ++ List.replicate 64 0).take 64⟩, by simp⟩

end Sys2Proof.Machine
end

