-- ==== Sys2Proof/Machine/Ops.lean ====
section
/-! DEFINITION. The named operations every command is built from: reading and writing one port, record, load, lane
or control lane; counters; posting an event; requesting an order at a port; returning a lane; freeing a record. -/

namespace Sys2Proof.Machine

/-- The outcome of a command. -/
abbrev Out := Host.Outcome State Fault Refusal

/-! ### One element of a vector -/

/-- Replace element i of a vector. -/
def vset {α : Type} {n : Nat} (v : Vector α n) (i : Fin n) (x : α) : Vector α n := v.set i.val x i.isLt

/-- Apply a function to every element of a vector. -/
def vmap {α β : Type} {n : Nat} (f : α → β) (v : Vector α n) : Vector β n :=
  ⟨⟨v.toArray.toList.map f⟩, by simp⟩

/-- The vector whose element i is f i. -/
def vofFn {α : Type} {n : Nat} (f : Fin n → α) : Vector α n :=
  ⟨⟨(List.finRange n).map f⟩, by simp⟩

/-! ### Reading and writing one element of the state -/

/-- Port p. -/
def State.port (s : State) (p : PortId) : Port := s.ports.get p

/-- Replace port p. -/
def State.setPort (s : State) (p : PortId) (x : Port) : State := { s with ports := vset s.ports p x }

/-- Change port p. -/
def State.modPort (s : State) (p : PortId) (f : Port → Port) : State := s.setPort p (f (s.port p))

/-- Roaming record r. -/
def State.record (s : State) (r : RecordIx) : Record := s.records.get r

/-- Replace record r. -/
def State.setRecord (s : State) (r : RecordIx) (x : Record) : State := { s with records := vset s.records r x }

/-- Change record r. -/
def State.modRecord (s : State) (r : RecordIx) (f : Record → Record) : State := s.setRecord r (f (s.record r))

/-- The load of port p (R64). -/
def State.load (s : State) (p : PortId) : Nat := s.loads.get p

/-- Set the load of port p. -/
def State.setLoad (s : State) (p : PortId) (n : Nat) : State := { s with loads := vset s.loads p n }

/-- Raise the load of port p by 1 (Table 3-2). -/
def State.raiseLoad (s : State) (p : PortId) : State := s.setLoad p (s.load p + 1)

/-- Lower the load of port p by 1 (Table 3-2). -/
def State.lowerLoad (s : State) (p : PortId) : State := s.setLoad p (s.load p - 1)

/-- The hold of lane n (R89). -/
def State.holdOf (s : State) (n : LaneId) : Hold := s.holds.get n

/-- Replace the hold of lane n. -/
def State.setHold (s : State) (n : LaneId) (h : Hold) : State := { s with holds := vset s.holds n h }

/-- The binding of lane n (R78). -/
def State.binding (s : State) (n : LaneId) : Option RecordIx := s.bindings.get n

/-- Set the binding of lane n. -/
def State.setBinding (s : State) (n : LaneId) (r : Option RecordIx) : State :=
  { s with bindings := vset s.bindings n r }

/-- The state of a control lane (R131). -/
def State.lane (s : State) : CtlLane → ControlLane
  | .primary => s.primary
  | .secondary => s.secondary

/-- Replace the state of a control lane. -/
def State.setLane (s : State) : CtlLane → ControlLane → State
  | .primary, c => { s with primary := c }
  | .secondary, c => { s with secondary := c }

/-! ### Counters (R169) -/

/-- A counter raised by 1, saturating at 65535 (R169). -/
def satInc (n : Nat) : Nat := if n < Config.counterMax then n + 1 else n

/-- Increment a counter of the Roaming Engine. -/
def State.bumpRoam (s : State) (k : RoamCounter) : State :=
  { s with roamCounters := vset s.roamCounters k.index (satInc (s.roamCounters.get k.index)) }

/-- Increment a counter of the Control Lane Interface. -/
def State.bumpCtl (s : State) (k : CtlCounter) : State :=
  { s with ctlCounters := vset s.ctlCounters k.index (satInc (s.ctlCounters.get k.index)) }

/-- A port with one of its counters incremented. -/
def Port.bump (p : Port) (k : PortCounter) : Port :=
  { p with counters := vset p.counters k.index (satInc (p.counters.get k.index)) }

/-- Increment a counter of port p. -/
def State.bumpPort (s : State) (p : PortId) (k : PortCounter) : State := s.modPort p (·.bump k)

/-- Increment a counter of lane n. -/
def State.bumpLane (s : State) (n : LaneId) (k : LaneCounter) : State :=
  let c := s.laneCounters.get n
  { s with laneCounters := vset s.laneCounters n (vset c k.index (satInc (c.get k.index))) }

/-! ### Posting events (R166, R167) -/

/-- Place an event after every event of its own or a higher class (R166). -/
def placeEvent (e : Event) : List Event → List Event
  | [] => [e]
  | x :: xs => if x.cls.rank < e.cls.rank then e :: x :: xs else x :: placeEvent e xs

/-- Queue an event: the new queue, and whether an event was lost. At 32 events the newest of the lowest class, which
stands last, makes room for an event of a higher class; otherwise the new event is discarded (R166, R167). -/
def queueEvent (q : List Event) (e : Event) : List Event × Bool :=
  if q.length < Config.maxEvents then (placeEvent e q, false)
  else
    match q.getLast? with
    | none => (q, true)
    | some x => if x.cls.rank < e.cls.rank then (placeEvent e q.dropLast, true) else (q, true)

/-- Post an event: it carries the current cycle number, and an Info event is queued only while Info Events is on
(R123, R153, R166). -/
def State.post (s : State) (cls : EventClass) (kind : EventKind) (port : Option PortId) (id : Option HeadsetId)
    (lane : Option LaneId) (detail : Byte) : State :=
  if cls = .info ∧ s.params.infoEvents = false then s
  else
    let q := queueEvent s.events ⟨cls, kind, s.timer.cycle, port, id, lane, detail⟩
    { s with events := q.1, lostEvents := s.lostEvents || q.2 }

/-- Post an event of a roaming record: it carries the record's headset ID and lane (R10). -/
def State.postFor (s : State) (cls : EventClass) (kind : EventKind) (port : Option PortId) (rd : Record)
    (detail : Byte) : State :=
  s.post cls kind port rd.id rd.lane detail

/-! ### The order queue (R118 to R120) -/

/-- What a request to queue an order comes to (R118, R119). -/
inductive OrderOutcome where
  | queued
  | already
  | replaced
  | cancelled
  | refused
  | discarded
  deriving DecidableEq, Repr

/-- The outcome counts as taken by the port (R77, R119). -/
def OrderOutcome.taken : OrderOutcome → Bool
  | .queued => true
  | .already => true
  | .replaced => true
  | .cancelled => false
  | .refused => false
  | .discarded => false

/-- The outcome of an order that finds no place: an Acquire is refused, a Drop or Deny is discarded (R119, R120). -/
def noPlace : OrderKind → OrderOutcome
  | .acquire => .refused
  | .drop => .discarded
  | .deny => .discarded

/-- A request of kind k for ID x at a queue: the outcome and the new queue; the first case that applies decides
(R118, R119). -/
def takeOrder (q : List Order) (k : OrderKind) (x : HeadsetId) : OrderOutcome × List Order :=
  if k = .drop ∧ (⟨.acquire, x⟩ : Order) ∈ q then (.cancelled, q.filter (· ≠ ⟨.acquire, x⟩))
  else if k = .acquire ∧ (⟨.drop, x⟩ : Order) ∈ q then (.queued, q.filter (· ≠ ⟨.drop, x⟩) ++ [⟨.acquire, x⟩])
  else if (⟨k, x⟩ : Order) ∈ q then (.already, q)
  else if q.length < Config.maxOrders then (.queued, q ++ [⟨k, x⟩])
  else
    match q.findIdx? (·.id = x) with
    | some i => (.replaced, q.set i ⟨k, x⟩)
    | none => (noPlace k, q)

/-- Ask port p to queue an order. A port in OFF or ISOLATED queues nothing and counts nothing (R120); a Drop or Deny
discarded at a full queue counts Order Drops and posts Order Lost (R119). -/
def State.requestOrder (s : State) (p : PortId) (k : OrderKind) (x : HeadsetId) : OrderOutcome × State :=
  if (s.port p).state = .off ∨ (s.port p).state = .isolated then (noPlace k, s)
  else
    let t := takeOrder (s.port p).orders k x
    let s' := s.modPort p fun q => { q with orders := t.2 }
    if t.1 = .discarded then
      (t.1, (s'.bumpPort p .orderDrops).post .warning .orderLost (some p) (some x) none k.code)
    else (t.1, s')

/-- The headset ID of a record in use; every record but a FREE one has one (R1). -/
def Record.headset (rd : Record) : HeadsetId := rd.id.getD 0

/-- Queue a Drop for headset x at port p. -/
def State.dropAt (s : State) (p : PortId) (x : HeadsetId) : State := (s.requestOrder p .drop x).2

/-- Queue a Drop for headset x at a port that may be absent, and lower that port's load by 1. -/
def State.dropAndLower (s : State) (p : Option PortId) (x : HeadsetId) : State :=
  match p with
  | none => s
  | some p => (s.dropAt p x).lowerLoad p

/-! ### Records, lanes and candidates -/

/-- The record that is not FREE and holds an ID (R5, R13). -/
def State.findRecord (s : State) (x : HeadsetId) : Option RecordIx :=
  (List.finRange 192).find? fun r => (s.record r).state ≠ .free ∧ (s.record r).id = some x

/-- The FREE record of lowest index (R11). -/
def State.lowestFree (s : State) : Option RecordIx :=
  (List.finRange 192).find? fun r => (s.record r).state = .free

/-- Make the hold of lane n silent with the Conceal Limit in force (R91). -/
def State.silence (s : State) (n : LaneId) : State := s.setHold n (Hold.silent s.params.concealLimit)

/-- Return a lane: unbind it and make its hold silent (R84, R91). -/
def State.returnLane (s : State) (n : LaneId) : State := (s.setBinding n none).silence n

/-- Free record r: its lane is returned and it takes its FREE values (R22). -/
def State.freeRecord (s : State) (r : RecordIx) : State :=
  match (s.record r).lane with
  | none => s.setRecord r Record.free
  | some n => (s.returnLane n).setRecord r Record.free

/-- An antenna is pinned for a record while it is its serving or target antenna (R4). -/
def Record.pinned (rd : Record) (a : PortId) : Bool := rd.serving = some a ∨ rd.target = some a

/-- The candidate entry for an antenna. -/
def entryFor (cands : List Candidate) (a : PortId) : Option Candidate := cands.find? (·.antenna = a)

/-- Bar an antenna's entry for n closes (R63). -/
def barEntry (cands : List Candidate) (a : PortId) (n : Nat) : List Candidate :=
  cands.map fun c => if c.antenna = a then { c with bar := n } else c

end Sys2Proof.Machine
end

