-- ==== Sys2Proof/Machine/Control.lean ====
section
/-! DEFINITION. The control lanes (Chapter 8): responses, the Response Queue with Hold and Shed, authority, the service
of one command packet, the upstream control block; and the commands Echo and Clear Shed. -/

namespace Sys2Proof.Machine

/-! ### Responses -/

/-- Result codes (Table 12-5). -/
def resultDone (corrected : Bool) : Byte := if corrected then 0x02 else 0x01

/-- The result code Error with its reason (Table 12-5). -/
def resultError (why : Reason) : Byte := 0x40 + why.code

/-- The result code Tagless Error with its reason (Table 12-5). -/
def resultTagless (why : Reason) : Byte := 0x80 + why.code

/-- The four header bytes of a response: result code, tag, length, check byte (R144, R171). -/
def Response.header (x : Response) : List Byte :=
  let n := byteOf x.payload.length
  [x.code, x.tag, n, checkByte x.code x.tag n]

/-- A response as sent: its header, and for a payload its bytes and the CRC over both (R144, R171). -/
def Response.bytes (x : Response) : List Byte :=
  if x.payload = [] then x.header
  else x.header ++ x.payload ++ halfBytes (crc16 (x.header ++ x.payload))

/-- The bytes a response occupies (R144). -/
def Response.size (x : Response) : Nat := if x.payload = [] then 4 else 4 + x.payload.length + 2

/-! ### The Response Queue (R140 to R142) -/

/-- The lane's Response Queue has no room (R141). -/
def ControlLane.full (c : ControlLane) : Bool := Config.maxResponses ≤ c.queue.length

/-- Queue a response at the tail; Hold is set when the occupancy is then at or above the trigger (R140, R142). -/
def ControlLane.enqueue (c : ControlLane) (trigger : Nat) (x : Response) : ControlLane :=
  { c with queue := c.queue ++ [x], hold := c.hold || trigger ≤ c.queue.length + 1 }

/-- Queue a response on a lane. -/
def State.respond (s : State) (l : CtlLane) (x : Response) : State :=
  s.setLane l ((s.lane l).enqueue s.params.holdTrigger x)

/-- Shed: counted, and Shed with its tag set when it was clear (R141). -/
def State.shedOn (s : State) (l : CtlLane) (tag : Byte) : State :=
  let c := s.lane l
  (s.setLane l (if c.shed then c else { c with shed := true, shedTag := tag })).bumpCtl (shedCounter l)

/-- A parse error report: made when the queue has room, else shed with its tag (R139, R141). -/
def State.report (s : State) (l : CtlLane) (x : Response) : State :=
  if (s.lane l).full then s.shedOn l x.tag else s.respond l x

/-! ### Serving a command packet (R138, R139, R141) -/

/-- What a command answers: Done with a payload, or an error. -/
inductive Reply where
  | done (payload : List Byte)
  | error (why : Reason)
  deriving DecidableEq, Repr

/-- The response a reply makes for a packet's origin (R139). -/
def Reply.response (o : Origin) : Reply → Response
  | .done p => ⟨resultDone o.corrected, o.tag, p⟩
  | .error why => ⟨resultError why, o.tag, []⟩

/-- The rows of Table 8-3, and Freeze, which is taken from either lane (R52). -/
inductive Permission where
  | anyLane
  | fullOnly
  | primaryOnly
  deriving DecidableEq, Repr

/-- A command of a permission may be carried out from a lane under the Secondary Authority in force (Table 8-3). -/
def Permission.allows (p : Permission) (l : CtlLane) (a : Authority) : Bool :=
  match l, p with
  | .primary, _ => true
  | .secondary, .anyLane => true
  | .secondary, .fullOnly => a = .full
  | .secondary, .primaryOnly => false

/-- Serve one command packet: shed it when its lane's queue is full (R141); refuse it without authority (R138); else its
owner carries it out, and the response is queued in the state the owner has left (R139). -/
def serve (o : Origin) (p : Permission) (owner : State → Reply × State) (s : State) : State :=
  if (s.lane o.lane).full then s.shedOn o.lane o.tag
  else if p.allows o.lane s.params.authority then
    let x := owner s
    x.2.respond o.lane (x.1.response o)
  else s.respond o.lane ((Reply.error .notPermitted).response o)

/-- A reply that changes no state. -/
def answer (r : Reply) (s : State) : Reply × State := (r, s)

/-- Refuse with a reason; a refused command changes no state but the response it queues (R138). -/
def refuse (why : Reason) (s : State) : Reply × State := (.error why, s)

/-! ### The upstream control block (R143, R144) -/

/-- The responses one block carries, whole and in order, while their sizes stay within the room (R144): those taken,
and those left. -/
def takeResponses : Nat → List Response → List Response × List Response
  | _, [] => ([], [])
  | room, x :: xs =>
    if x.size ≤ room then
      let t := takeResponses (room - x.size) xs
      (x :: t.1, t.2)
    else ([], x :: xs)

/-- The highest class present in the Event Queue, 0 when it is empty (R143). -/
def highestClass (events : List Event) : Nat := events.foldl (fun m e => max m e.cls.rank) 0

/-- Byte 0 of the upstream control header (Table 12-6): Attention and the freeze state show on the primary alone. -/
def controlByte0 (s : State) (l : CtlLane) : Byte :=
  let c := s.lane l
  let own := bit c.hold ||| (bit c.shed <<< 1) ||| (s.timer.clock.code <<< 5)
  match l with
  | .primary =>
    own ||| (bit (s.events ≠ []) <<< 2) ||| (bit s.freeze.active <<< 3) ||| (bit s.freeze.requested <<< 4)
  | .secondary => own

/-- Byte 1 of the upstream control header: highest pending class and event count, on the primary alone (Table 12-6). -/
def controlByte1 (s : State) (l : CtlLane) : Byte :=
  match l with
  | .primary => byteOf (highestClass s.events) ||| (byteOf s.events.length <<< 2)
  | .secondary => 0

/-- The control block of a lane as bytes: header, the responses placed, 0x00 to the end (R143, R144, R171). -/
def controlBytes (s : State) (l : CtlLane) (placed : List Response) : List Byte :=
  let body := placed.flatMap Response.bytes
  [controlByte0 s l, controlByte1 s l, (s.lane l).shedTag, byteOf body.length] ++ body

/-- Build a lane's control block at a transmit: the block, and the state with the placed responses gone and Hold cleared
when the queue is left empty (R142 to R144). -/
def buildControl (l : CtlLane) (s : State) : Block × State :=
  let c := s.lane l
  let t := takeResponses Config.responseBytes c.queue
  (blockOf (controlBytes s l t.1),
    s.setLane l { c with queue := t.2, hold := c.hold && t.2 ≠ [] })

/-! ### Echo and Clear Shed -/

/-- Echo: the payload unchanged, up to 54 bytes (R145). -/
def ownEcho (payload : List Byte) (s : State) : Reply × State :=
  if payload.length ≤ Config.maxResponsePayload then answer (.done payload) s else refuse .badArgument s

/-- Serve an Echo packet. -/
def serveEcho (o : Origin) (payload : List Byte) : State → State := serve o .anyLane (ownEcho payload)

/-- ECHO (R145). -/
def execEcho (o : Origin) (payload : List Byte) (s : State) : Out := .next (serveEcho o payload s)

/-- Clear Shed on the lane that carried it; the answer is the former flag and tag (R146). DESIGN CHOICE: the flag's byte
is 1 when Shed was set and 0 when it was clear (log 32). -/
def ownClearShed (o : Origin) (payload : List Byte) (s : State) : Reply × State :=
  if payload = [] then
    let c := s.lane o.lane
    (.done [bit c.shed, c.shedTag], s.setLane o.lane { c with shed := false, shedTag := 0 })
  else refuse .badArgument s

/-- Serve a Clear Shed packet. -/
def serveClearShed (o : Origin) (payload : List Byte) : State → State := serve o .anyLane (ownClearShed o payload)

/-- CLEAR_SHED (R146). -/
def execClearShed (o : Origin) (payload : List Byte) (s : State) : Out := .next (serveClearShed o payload s)

end Sys2Proof.Machine
end

