-- ==== Sys2Proof/Machine/Measure.lean ====
section
/-! DEFINITION. Signal measurement (Chapter 2) as functions on a candidate list: samples, the smoothing step, the order
of the list, staleness, insertion and eviction. -/

namespace Sys2Proof.Machine

/-- A burst with the port that delivered it: the evidence of a close (R7). -/
structure Evidence where
  port : PortId
  burst : Burst
  deriving DecidableEq, Repr

/-- The burst is a Voice burst. -/
def Burst.isVoice (b : Burst) : Bool :=
  match b.kind with
  | .voice _ => true
  | .monitor => false
  | .register => false

/-- The burst is a Register burst. -/
def Burst.isRegister (b : Burst) : Bool :=
  match b.kind with
  | .voice _ => false
  | .monitor => false
  | .register => true

/-- What the close reads from one port: an ACTIVE port's bursts, a DORMANT port's Monitor and Register bursts
(R7, R28). -/
def readPort (a : PortId) (p : Port) : List Evidence :=
  match p.gatherSlot with
  | none => []
  | some f =>
    match p.state with
    | .active => f.bursts.map (Evidence.mk a)
    | .dormant => (f.bursts.filter fun b => !b.isVoice).map (Evidence.mk a)
    | .off => []
    | .isolated => []

/-- The value of a measurement: its level, less the Damage Penalty when damaged, not below 0 (R29). -/
def measured (penalty : Nat) (b : Burst) : Nat := if b.damaged then b.level.val - penalty else b.level.val

/-- The sample of an antenna: the highest value among its bursts, if it has any (R30). -/
def sampleOf (penalty : Nat) (ev : List Evidence) (a : PortId) : Option Nat :=
  ((ev.filter (·.port = a)).map fun e => measured penalty e.burst).max?

/-- A quality moved toward a goal by their difference over 2^k, truncated toward zero (R32). -/
def smooth (k q goal : Nat) : Nat := ((q : Int) + Int.tdiv ((goal : Int) - (q : Int)) ((2 : Int) ^ k)).toNat

/-- The update of one entry: toward 16·S with a sample S, and toward 0 with its absent count raised without one
(R32, R33). -/
def updateEntry (k : Nat) (sample : PortId → Option Nat) (c : Candidate) : Candidate :=
  match sample c.antenna with
  | some x => { c with q := smooth k c.q (16 * x), absent := 0 }
  | none => { c with q := smooth k c.q 0, absent := min (c.absent + 1) 255 }

/-- Insert an entry after every entry whose Q is equal or greater (R3, R37). -/
def insertCand (c : Candidate) : List Candidate → List Candidate
  | [] => [c]
  | x :: xs => if x.q < c.q then c :: x :: xs else x :: insertCand c xs

/-- The re-sort by Q, highest first, equal entries keeping their order (R35). -/
def resort (cands : List Candidate) : List Candidate := cands.foldl (fun acc c => insertCand c acc) []

/-- Staleness: unpinned entries whose absent count is at or above the limit leave (R36). -/
def dropStale (pinned : PortId → Bool) (limit : Nat) (cands : List Candidate) : List Candidate :=
  cands.filter fun c => pinned c.antenna || c.absent < limit

/-- The unpinned entry of lowest Q, the latest in list order among equals (R38). -/
def victim (pinned : PortId → Bool) (cands : List Candidate) : Option Candidate :=
  cands.foldl (fun best c =>
    if pinned c.antenna then best
    else
      match best with
      | none => some c
      | some b => if c.q ≤ b.q then some c else some b) none

/-- Take an antenna's entry out of the list. -/
def removeCand (a : PortId) (cands : List Candidate) : List Candidate := cands.filter (·.antenna ≠ a)

/-- Offer an antenna with sample x: inserted while there is room (R37), or in place of the unpinned entry of lowest Q
when 16·x is strictly greater (R38). -/
def offer (pinned : PortId → Bool) (a : PortId) (x : Nat) (cands : List Candidate) : List Candidate :=
  if cands.length < Config.maxCandidates then insertCand ⟨a, 16 * x, 0, 0⟩ cands
  else
    match victim pinned cands with
    | none => cands
    | some v => if v.q < 16 * x then insertCand ⟨a, 16 * x, 0, 0⟩ (removeCand v.antenna cands) else cands

/-- Insert an offer after every offer of an equal or higher sample. -/
def insertOffer (o : PortId × Nat) : List (PortId × Nat) → List (PortId × Nat)
  | [] => [o]
  | x :: xs => if x.2 < o.2 then o :: x :: xs else x :: insertOffer o xs

/-- The antennas with a sample and no entry, highest sample first and lowest antenna first among equals (R31). -/
def offers (sample : PortId → Option Nat) (cands : List Candidate) : List (PortId × Nat) :=
  ((List.finRange 24).filterMap fun a =>
    match entryFor cands a, sample a with
    | none, some x => some (a, x)
    | _, _ => none).foldl (fun acc o => insertOffer o acc) []

/-- The measurement update of a candidate list, in the four steps of R31. DESIGN CHOICE: the antennas offered in step 4
are those without an entry as step 3 leaves the list, so one evicted during step 4 is not offered again (log 24). -/
def measureCands (p : Params) (pinned : PortId → Bool) (ev : List Evidence) (cands : List Candidate) :
    List Candidate :=
  let sample := sampleOf p.damagePenalty ev
  let updated := cands.map (updateEntry p.smoothingShift sample)
  let kept := dropStale pinned p.candidateStale (resort updated)
  (offers sample kept).foldl (fun acc o => offer pinned o.1 o.2 acc) kept

/-- The list with an entry for the antenna of a Forced bridge: a new one has Q 0 and stands last, and takes the place of
the unpinned entry of lowest Q when the list is full (R39). -/
def insertForced (pinned : PortId → Bool) (a : PortId) (cands : List Candidate) : List Candidate :=
  match entryFor cands a with
  | some _ => cands
  | none =>
    if cands.length < Config.maxCandidates then cands ++ [⟨a, 0, 0, 0⟩]
    else
      match victim pinned cands with
      | none => cands ++ [⟨a, 0, 0, 0⟩]
      | some v => removeCand v.antenna cands ++ [⟨a, 0, 0, 0⟩]

/-- An entry meets the Reacquire Level (R41). -/
def meetsReacquire (p : Params) (c : Candidate) : Bool := 16 * p.reacquireLevel ≤ c.q

end Sys2Proof.Machine
end

