-- ==== Sys2Proof/Machine/Roaming.lean ====
section
/-! DEFINITION. The transitions of a roaming record: attach (R12 to R16), bridge (R55 to R61), link loss (R20), a port
leaving ACTIVE (R23, R24), and the usability test (R42). A field that a transition's rule does not name keeps its
value (log 12). -/

namespace Sys2Proof.Machine

/-! ### Usable antennas (R42) -/

/-- Port t is in ACTIVE and its flags show neither RF Overload nor Reference Lost (R42.1, R42.2, R67.4). -/
def State.inService (s : State) (t : PortId) : Bool :=
  (s.port t).state = .active ∧ (s.port t).flags.rfOverload = false ∧ (s.port t).flags.referenceLost = false

/-- The antenna of a candidate entry is usable for attach: conditions 1 to 4 (R42). -/
def State.usable (s : State) (c : Candidate) : Bool :=
  s.inService c.antenna ∧ s.load c.antenna < Config.maxLoad ∧ c.bar = 0

/-- The antenna is usable for a record's handoff or rescue: it is not the serving antenna either (R42.5). -/
def State.usableFor (s : State) (rd : Record) (c : Candidate) : Bool :=
  s.usable c ∧ rd.serving ≠ some c.antenna

/-! ### Attach -/

/-- Record r enters ATTACHING on antenna a; when the port's queue refuses the Acquire the attempt fails at once
without a bar (R12). -/
def beginAttach (r : RecordIx) (a : PortId) (s : State) : State :=
  let s₁ := (s.modRecord r fun rd =>
    { rd with state := .attaching, target := some a, accepted := false, timer := 0 }).raiseLoad a
  let o := s₁.requestOrder a .acquire (s.record r).headset
  if o.1 = .refused then
    ((o.2.lowerLoad a).modRecord r fun rd =>
      { rd with state := .searching, target := none, accepted := false }).postFor
        .notice .attachFailed (some a) (s.record r) FailReason.noSlot.code
  else o.2

/-- The attach of record r to antenna a fails: the target is cleared, the entry barred, the record searches, and
Attach Failed is posted (R14, R16, R24). The Drop and the load are the callers'. -/
def failAttach (r : RecordIx) (a : PortId) (why : FailReason) (s : State) : State :=
  (s.modRecord r fun rd =>
    { rd with
      state := .searching
      target := none
      accepted := false
      cands := barEntry rd.cands a s.params.barTime }).postFor
        .notice .attachFailed (some a) (s.record r) why.code

/-- Record r completes its attach on antenna a (R15). -/
def completeAttach (r : RecordIx) (a : PortId) (s : State) : State :=
  ((s.modRecord r fun rd =>
    { rd with
      state := .active
      serving := some a
      target := none
      accepted := false
      orphan := 0
      miss := 0
      dwellTarget := none
      dwellCount := 0 }).bumpRoam .attaches).postFor
        .info .headsetAttached (some a) (s.record r) 0

/-! ### Bridge -/

/-- A record back in ACTIVE with no target, no bridge kind, bridge timer 0 and its dwell cleared (R56, R61). -/
def Record.endBridge (rd : Record) : Record :=
  { rd with
    state := .active
    target := none
    accepted := false
    kind := none
    timer := 0
    dwellTarget := none
    dwellCount := 0
    deferred := false }

/-- A failed bridge is counted and posted (R56, R61). -/
def reportFailed (rd : Record) (t : PortId) (why : FailReason) (s : State) : State :=
  (s.bumpRoam .handoffsFailed).postFor .notice .handoffFailed (some t) rd why.code

/-- Record r begins a bridge of a kind to antenna t (R55); when the port's queue refuses the Acquire the bridge fails
at once without a bar (R56). The Bool says whether the Acquire was queued (R68). -/
def beginBridge (r : RecordIx) (t : PortId) (k : BridgeKind) (s : State) : Bool × State :=
  let s₁ := (s.modRecord r fun rd =>
    { rd with
      state := .bridging
      target := some t
      accepted := false
      timer := 0
      kind := some k
      dwellTarget := none
      dwellCount := 0
      deferred := false
      cands := if k = .forced then insertForced rd.pinned t rd.cands else rd.cands }).raiseLoad t
  let o := s₁.requestOrder t .acquire (s.record r).headset
  if o.1 = .refused then
    (false, reportFailed (s.record r) t .noSlot ((o.2.lowerLoad t).modRecord r Record.endBridge))
  else (true, o.2)

/-- The bridge of record r to target t fails: the record returns to ACTIVE with t barred, the failure is counted and
posted (R61 steps 2 to 5). The Drop and the load of step 1 are the callers'. -/
def failBridge (r : RecordIx) (t : PortId) (why : FailReason) (s : State) : State :=
  reportFailed (s.record r) t why
    (s.modRecord r fun rd => { rd.endBridge with cands := barEntry rd.cands t s.params.barTime })

/-- Record r completes its bridge from serving antenna x to target t (R59). -/
def completeBridge (r : RecordIx) (x t : PortId) (s : State) : State :=
  let rd := s.record r
  let k := DoneKind.bridge (rd.kind.getD .automatic)
  ((((s.dropAndLower (some x) rd.headset).modRecord r fun rd =>
    { rd with
      state := .active
      serving := some t
      target := none
      accepted := false
      kind := none
      timer := 0
      miss := 0 }).bumpRoam .handoffsDone)).postFor
        k.cls .handoffDone (some t) rd (handoffDoneDetail k x)

/-- Record r, BRIDGING with its target accepted, is promoted to the target as port p leaves ACTIVE (R23, R47). -/
def promote (r : RecordIx) (p t : PortId) (s : State) : State :=
  let k := DoneKind.promoted
  ((s.modRecord r fun rd =>
    { rd with
      state := .active
      serving := some t
      target := none
      accepted := false
      kind := none
      timer := 0
      dwellTarget := none
      dwellCount := 0 }).bumpRoam .handoffsDone).postFor
        k.cls .handoffDone (some t) (s.record r) (handoffDoneDetail k p)

/-- A record that has lost its antennas: SEARCHING, everything of the carriage cleared (R20, R23). -/
def Record.loseLink (rd : Record) : Record :=
  { rd with
    state := .searching
    serving := none
    target := none
    accepted := false
    kind := none
    timer := 0
    dwellTarget := none
    dwellCount := 0
    deferred := false
    miss := 0
    orphan := 0 }

/-- Record r loses its link at the miss limit: Drops at the serving port and, in BRIDGING, at the target port, their
loads lowered, and Link Lost posted (R20). -/
def linkLoss (r : RecordIx) (s : State) : State :=
  let rd := s.record r
  (((s.dropAndLower rd.serving rd.headset).dropAndLower rd.target rd.headset).modRecord r
    Record.loseLink).postFor .warning .linkLost rd.serving rd 0

/-! ### Acquire Results (R13, R14, R57, R58) -/

/-- The two outcomes of an Acquire Result (Table 12-2). -/
inductive AcquireOutcome where
  | accepted
  | noSlot
  deriving DecidableEq, Repr

/-- Port p delivers an Acquire Result for ID x: it is taken by a record ATTACHING or BRIDGING with target p, and
ignored in every other case (R13). -/
def takeAcquireResult (p : PortId) (x : HeadsetId) (o : AcquireOutcome) (s : State) : State :=
  match s.findRecord x with
  | none => s
  | some r =>
    let rd := s.record r
    if rd.target = some p then
      match rd.state, o with
      | .attaching, .accepted => s.modRecord r fun rd => { rd with accepted := true }
      | .bridging, .accepted => s.modRecord r fun rd => { rd with accepted := true }
      | .attaching, .noSlot => failAttach r p .noSlot (s.lowerLoad p)
      | .bridging, .noSlot => failBridge r p .noSlot (s.dropAndLower (some p) rd.headset)
      | _, _ => s
    else s

/-! ### A port leaving ACTIVE (R23, R24) -/

/-- A record carried by port p loses its antenna as p leaves ACTIVE: a Drop at its target port if it has one, and Link
Lost with port p (R23). -/
def loseServing (r : RecordIx) (p : PortId) (s : State) : State :=
  let rd := s.record r
  ((s.dropAndLower rd.target rd.headset).modRecord r Record.loseLink).postFor .warning .linkLost (some p) rd 0

/-- What becomes of record r, which names the departing port p as its serving antenna (R23). -/
def departServing (r : RecordIx) (p : PortId) (s : State) : State :=
  let rd := s.record r
  match rd.state with
  | .bridging =>
    match rd.target, rd.accepted with
    | some t, true => promote r p t s
    | _, _ => loseServing r p s
  | .active => loseServing r p s
  | .free => s
  | .searching => s
  | .attaching => s

/-- What becomes of record r, which names the departing port p as its target antenna (R24). -/
def departTarget (r : RecordIx) (p : PortId) (s : State) : State :=
  match (s.record r).state with
  | .bridging => failBridge r p .targetDown s
  | .attaching => failAttach r p .targetDown s
  | .free => s
  | .searching => s
  | .active => s

/-- The treatment of record r as port p leaves ACTIVE: when it names p, the load of p is lowered, a Drop is queued at p
when p went DORMANT, and the record is promoted, loses its antenna, or fails its bridge or attach (R23, R24). -/
def treatDeparture (p : PortId) (toDormant : Bool) (s : State) (r : RecordIx) : State :=
  let rd := s.record r
  if rd.serving = some p ∨ rd.target = some p then
    let s₁ := s.lowerLoad p
    let s₂ := if toDormant then s₁.dropAt p rd.headset else s₁
    if rd.serving = some p then departServing r p s₂ else departTarget r p s₂
  else s

/-- The Roaming Engine's pass over the records, in ascending index, as port p leaves ACTIVE (R23, R24). -/
def departRecords (p : PortId) (toDormant : Bool) (s : State) : State :=
  (List.finRange 192).foldl (treatDeparture p toDormant) s

/-! ### Naming a record (R5) -/

/-- Resolve a selector: Bad Argument for an index above 191, Bad Identifier for an ID that is not canonical, Not Found
for an ID no record holds (R5). -/
def State.resolve (s : State) : Selector → Except Reason RecordIx
  | .index n => if h : n < 192 then .ok ⟨n, h⟩ else .error .badArgument
  | .id x =>
    if canonical x then
      match s.findRecord x with
      | some r => .ok r
      | none => .error .notFound
    else .error .badIdentifier

end Sys2Proof.Machine
end

