-- ==== Sys2Proof/Machine/Ports.lean ====
section
/-! DEFINITION. The Antenna Link Ports (Chapter 6): changes of state, Port Control, uplink frames, isolation and
recovery, the downlink send. -/

namespace Sys2Proof.Machine

/-! ### Changes of state (R105) -/

/-- A port entering OFF or ISOLATED: slots, queue, assembly emptied, missing count 0, settling clear (R105). -/
def Port.goDown (p : Port) : Port :=
  { p with
    gatherSlot := none
    earlySlot := none
    orders := []
    voice := []
    allCall := none
    missing := 0
    settling := false }

/-- A port reset in place (R107). -/
def Port.reset (p : Port) : Port :=
  { p with
    gatherSlot := none
    earlySlot := none
    flags := .clear
    missing := 0
    orders := []
    voice := []
    allCall := none
    counters := Vector.replicate 7 0
    settling := true }

/-- Port p takes OFF or ISOLATED, its event already posted: when it was ACTIVE the records naming it are treated; then
it is emptied and its load is 0 (R24, R105). -/
def enterDown (p : PortId) (new : PortState) (s : State) : State :=
  let wasActive := (s.port p).state = .active
  let s₁ := s.modPort p fun q => { q with state := new }
  let s₂ := if wasActive then departRecords p false s₁ else s₁
  (s₂.modPort p Port.goDown).setLoad p 0

/-- Port p leaves ACTIVE for DORMANT: the records naming it are treated with Drops queued at p, then the Acquires still
in its queue are removed (R24, R105, R120). -/
def enterDormant (p : PortId) (s : State) : State :=
  (departRecords p true (s.modPort p fun q => { q with state := .dormant })).modPort p fun q =>
    { q with orders := q.orders.filter (·.kind ≠ .acquire) }

/-! ### Port Control (R106, R107) -/

/-- The answer of Port Control: port, state, return state, class (Table 12-7). -/
def portReply (p : PortId) (s : State) : Reply × State :=
  (.done [byteOf p.val, (s.port p).state.code, (s.port p).returnState.state.code, byteOf (s.port p).cls.val], s)

/-- A Port Control action at the port a byte names; a number above 23 is refused with Bad Argument (R106). -/
def ownPort (port : Byte) (act : PortId → State → State) (s : State) : Reply × State :=
  match portOf port with
  | none => refuse .badArgument s
  | some p => portReply p (act p s)

/-- Activate, by the port's present state (R105, R106). -/
def activatePort (p : PortId) (s : State) : State :=
  match (s.port p).state with
  | .off => s.modPort p fun q => { q with state := .active, missing := 0, settling := true }
  | .dormant => s.modPort p fun q => { q with state := .active }
  | .active => s
  | .isolated => s.modPort p fun q => { q with returnState := .active }

/-- Make Dormant, by the port's present state (R105, R106). -/
def makePortDormant (p : PortId) (s : State) : State :=
  match (s.port p).state with
  | .off => s.modPort p fun q => { q with state := .dormant, missing := 0, settling := true }
  | .dormant => s
  | .active => enterDormant p s
  | .isolated => s.modPort p fun q => { q with returnState := .dormant }

/-- Turn Off: to OFF from any state, the condition flags cleared without an event; an OFF port is not changed
(R107, log 14). -/
def turnPortOff (p : PortId) (s : State) : State :=
  if (s.port p).state = .off then s
  else (enterDown p .off s).modPort p fun q => { q with flags := .clear }

/-- Reset: the port is cleared in place (R107). -/
def resetPort (p : PortId) (s : State) : State := s.modPort p Port.reset

/-- Serve a Port Control packet of action Activate; its class byte is not read (R106, R172). -/
def serveActivate (o : Origin) (port _cls : Byte) : State → State := serve o .primaryOnly (ownPort port activatePort)

/-- Serve a Port Control packet of action Make Dormant (R106). -/
def serveMakeDormant (o : Origin) (port _cls : Byte) : State → State :=
  serve o .primaryOnly (ownPort port makePortDormant)

/-- Serve a Port Control packet of action Turn Off (R107). -/
def serveTurnOff (o : Origin) (port _cls : Byte) : State → State := serve o .primaryOnly (ownPort port turnPortOff)

/-- Serve a Port Control packet of action Reset (R107). -/
def servePortReset (o : Origin) (port _cls : Byte) : State → State := serve o .primaryOnly (ownPort port resetPort)

/-- Set Class: a port above 23 or a class above 3 is refused; the class is set in any state (R106). -/
def ownSetClass (port cls : Byte) (s : State) : Reply × State :=
  match portOf port, classOf cls with
  | some p, some c => portReply p (s.modPort p fun q => { q with cls := c })
  | _, _ => refuse .badArgument s

/-- Serve a Port Control packet of action Set Class (R106). -/
def serveSetClass (o : Origin) (port cls : Byte) : State → State := serve o .primaryOnly (ownSetClass port cls)

/-- Serve a Port Control packet: three bytes, port, action and class; another length or action is refused with Bad
Argument (R106, R172, Table 12-7, log 10). -/
def servePortControl (o : Origin) (payload : List Byte) : State → State :=
  match payload with
  | [port, action, cls] =>
    if action = 0 then serveActivate o port cls
    else if action = 1 then serveMakeDormant o port cls
    else if action = 2 then serveTurnOff o port cls
    else if action = 3 then servePortReset o port cls
    else if action = 4 then serveSetClass o port cls
    else serve o .primaryOnly (refuse .badArgument)
  | _ => serve o .primaryOnly (refuse .badArgument)

/-- ACTIVATE (R106). -/
def execActivate (o : Origin) (port cls : Byte) (s : State) : Out := .next (serveActivate o port cls s)

/-- MAKE_DORMANT (R106). -/
def execMakeDormant (o : Origin) (port cls : Byte) (s : State) : Out := .next (serveMakeDormant o port cls s)

/-- TURN_OFF (R107). -/
def execTurnOff (o : Origin) (port cls : Byte) (s : State) : Out := .next (serveTurnOff o port cls s)

/-- PORT_RESET (R107). -/
def execPortReset (o : Origin) (port cls : Byte) (s : State) : Out := .next (servePortReset o port cls s)

/-- SET_CLASS (R106). -/
def execSetClass (o : Origin) (port cls : Byte) (s : State) : Out := .next (serveSetClass o port cls s)

/-! ### Isolation (R116) -/

/-- Port p becomes ISOLATED: its return state is the state it had, Port Isolated is posted, and the port goes down
(R105, R116). -/
def isolatePort (p : PortId) (ret : ReturnState) (s : State) : State :=
  enterDown p .isolated
    ((s.modPort p fun q => { q with returnState := ret }).post .alarm .portIsolated (some p) none none ret.state.code)

/-- PORT_ISOLATED: the isolation that a consumption has made due at port p is taken; where none is due, or the port is
no longer in service, nothing changes but the mark (R9, R115, R116, log 6). DESIGN CHOICE: a port that a Turn Off and an
Activate or Make Dormant have taken out of service and back since the consumption keeps the mark and is isolated from
its new state (log 26). -/
def execPortIsolated (p : PortId) (s : State) : Out :=
  if s.isolationDue.get p then
    let s' := { s with isolationDue := vset s.isolationDue p false }
    match (s.port p).state with
    | .active => .next (isolatePort p .active s')
    | .dormant => .next (isolatePort p .dormant s')
    | .off => .next s'
    | .isolated => .next s'
  else .next s

/-! ### Uplink frames: layout and integrity (R109, Tables 12-1 and 12-2) -/

/-- A record of an uplink frame as it stands on the link. -/
inductive UplinkRecord where
  | burst (id : HeadsetId) (raw : Byte) (damaged : Bool) (kind : BurstKind)
  | result (id : HeadsetId) (outcome : AcquireOutcome)
  deriving DecidableEq, Repr

/-- One record from the head of a run of bytes, and the bytes behind it; none for an unknown kind or outcome or when the
bytes end too soon (R109, R172). -/
def parseRecord : List Byte → Option (UplinkRecord × List Byte)
  | kind :: a :: b :: c :: rest =>
    if kind = 0x04 then
      match rest with
      | o :: rest' =>
        if o = 0x01 then some (.result (id24 a b c) .accepted, rest')
        else if o = 0x02 then some (.result (id24 a b c) .noSlot, rest')
        else none
      | [] => none
    else
      match rest with
      | raw :: flags :: rest' =>
        if kind = 0x02 then some (.burst (id24 a b c) raw (flags.getLsbD 0) .monitor, rest')
        else if kind = 0x03 then some (.burst (id24 a b c) raw (flags.getLsbD 0) .register, rest')
        else if kind = 0x01 ∧ 64 ≤ rest'.length then
          some (.burst (id24 a b c) raw (flags.getLsbD 0) (.voice (blockOf (rest'.take 64))), rest'.drop 64)
        else none
      | _ => none
  | _ => none

/-- Exactly n records and nothing behind them (R109). -/
def parseRecords : Nat → List Byte → Option (List UplinkRecord)
  | 0, [] => some []
  | 0, _ :: _ => none
  | n + 1, bytes =>
    match parseRecord bytes with
    | none => none
    | some (x, rest) => (parseRecords n rest).map (x :: ·)

/-- An uplink frame whose CRC matches: its cycle number, its flags byte, its record count and the bytes of its records;
none when the CRC fails or the bytes are too few for a header and a CRC (R109, log 13). -/
def uplinkHeader (bytes : List Byte) : Option (CycleNo × Byte × Nat × List Byte) :=
  let body := bytes.take (bytes.length - 2)
  if bytes.drop (bytes.length - 2) = halfBytes (crc16 body) then
    match body with
    | c1 :: c0 :: flags :: count :: recs => some (half c1 c0, flags, count.toNat, recs)
    | _ => none
  else none

/-- An uplink frame that passes every integrity check: cycle number, condition flags, records (R109). -/
structure Uplink where
  cycle : CycleNo
  flags : ConditionFlags
  records : List UplinkRecord
  deriving DecidableEq, Repr

/-- The integrity checks of R109: none is a frame error. -/
def parseUplink (bytes : List Byte) : Option Uplink :=
  match uplinkHeader bytes with
  | none => none
  | some (n, flags, count, recs) =>
    if 16 < count then none
    else (parseRecords count recs).map fun xs => ⟨n, ConditionFlags.ofByte flags, xs⟩

/-! ### Uplink frames: placement and acceptance (R110 to R114) -/

/-- Where a frame goes by its cycle number against the Gathering cycle (R110). -/
inductive Placement where
  | gathering
  | early
  | late
  | misaligned
  deriving DecidableEq, Repr

/-- The placement of cycle number n at Gathering cycle g (R110). -/
def placement (n g : CycleNo) : Placement :=
  let d := n - g
  if d = 0 then .gathering
  else if d = 1 then .early
  else if 65528 ≤ d.toNat then .late
  else .misaligned

/-- The headset ID of an uplink record. -/
def UplinkRecord.id : UplinkRecord → HeadsetId
  | .burst x _ _ _ => x
  | .result x _ => x

/-- The level of a raw code at a port, through the table of its class (R27). -/
def State.translate (s : State) (p : PortId) (raw : Byte) : Level :=
  (s.tables.get (s.port p).cls).get ⟨raw.toNat, raw.isLt⟩

/-- The bursts a frame is held with: its kept Voice, Monitor and Register records with their levels (R27, R112). -/
def heldBursts (s : State) (p : PortId) (kept : List UplinkRecord) : List Burst :=
  kept.filterMap fun x =>
    match x with
    | .burst id raw damaged kind => some ⟨id, s.translate p raw, damaged, kind⟩
    | .result _ _ => none

/-- The Acquire Results of a frame, in order (R114). -/
def resultsOf (kept : List UplinkRecord) : List (HeadsetId × AcquireOutcome) :=
  kept.filterMap fun x =>
    match x with
    | .burst _ _ _ _ => none
    | .result id o => some (id, o)

/-- The record counts as a damaged burst: a Voice or Monitor record with the flag set (R112). -/
def UplinkRecord.countsDamaged : UplinkRecord → Bool
  | .burst _ _ damaged (.voice _) => damaged
  | .burst _ _ damaged .monitor => damaged
  | .burst _ _ _ .register => false
  | .result _ _ => false

/-- Increment a port counter n times, each saturating (R169). -/
def bumpTimes (p : PortId) (k : PortCounter) : Nat → State → State
  | 0, s => s
  | n + 1, s => bumpTimes p k n (s.bumpPort p k)

/-- Latch a frame's condition flags; when any differs Port Condition is posted (R113). -/
def latchFlags (p : PortId) (f : ConditionFlags) (s : State) : State :=
  if (s.port p).flags = f then s
  else (s.modPort p fun q => { q with flags := f }).post .warning .portCondition (some p) none none f.byte

/-- Put a held frame into the slot of its placement. -/
def holdFrame (p : PortId) (w : Placement) (f : HeldFrame) (s : State) : State :=
  match w with
  | .gathering => s.modPort p fun q => { q with gatherSlot := some f }
  | .early => s.modPort p fun q => { q with earlySlot := some f }
  | .late => s
  | .misaligned => s

/-- Deliver a frame's Acquire Results in order, when the port is ACTIVE (R114). -/
def deliverResults (p : PortId) (results : List (HeadsetId × AcquireOutcome)) (s : State) : State :=
  if (s.port p).state = .active then results.foldl (fun s x => takeAcquireResult p x.1 x.2 s) s else s

/-- Acceptance: latch the flags, drop records with IDs not canonical, count damaged bursts, translate and hold, deliver
Acquire Results (R112 to R114). -/
def acceptFrame (p : PortId) (w : Placement) (f : Uplink) (s : State) : State :=
  let kept := f.records.filter fun x => canonical x.id
  let s₁ := latchFlags p f.flags s
  let s₂ := bumpTimes p .idErrors (f.records.length - kept.length) s₁
  let s₃ := bumpTimes p .damagedBursts (kept.filter (·.countsDamaged)).length s₂
  let s₄ := holdFrame p w ⟨f.cycle, heldBursts s₃ p kept⟩ s₃
  deliverResults p (resultsOf kept) s₄

/-- The slot of a placement holds a frame. -/
def Port.occupied (q : Port) : Placement → Bool
  | .gathering => q.gatherSlot.isSome
  | .early => q.earlySlot.isSome
  | .late => false
  | .misaligned => false

/-- A frame that passed R109, at a port in ACTIVE or DORMANT: Late and Misaligned are counted, an overrun is counted, the
settling frame is discarded, every other frame is accepted (R110 to R112). -/
def placeFrame (p : PortId) (f : Uplink) (s : State) : State :=
  let w := placement f.cycle (s.port p).gathering
  match w with
  | .late => s.bumpPort p .late
  | .misaligned => s.bumpPort p .misaligned
  | .gathering | .early =>
    if (s.port p).occupied w then s.bumpPort p .overruns
    else if (s.port p).settling then s.modPort p fun q => { q with settling := false }
    else acceptFrame p w f s

/-- A frame at an ISOLATED port: a frame whose CRC matches and whose cycle number is the Gathering cycle or the next
recovers the port into its return state; any other is ignored (R117, log 13). -/
def examineRecovery (p : PortId) (bytes : List Byte) (s : State) : State :=
  match uplinkHeader bytes with
  | none => s
  | some (n, _, _, _) =>
    let w := placement n (s.port p).gathering
    if w = .gathering ∨ w = .early then
      let st := (s.port p).returnState.state
      (s.modPort p fun q => { q with state := st, settling := false }).post
        .notice .portRecovered (some p) none none st.code
    else s

/-- UPLINK_FRAME: ignored in OFF, examined for recovery in ISOLATED, checked in ACTIVE and DORMANT (R108, R109). -/
def execUplinkFrame (p : PortId) (bytes : List Byte) (s : State) : Out :=
  match (s.port p).state with
  | .off => .next s
  | .isolated => .next (examineRecovery p bytes s)
  | .active | .dormant =>
    match parseUplink bytes with
    | none => .next (s.bumpPort p .frameErrors)
    | some f => .next (placeFrame p f s)

/-! ### The downlink send (R121, Table 12-3) -/

/-- An order as a downlink record. -/
def Order.bytes (o : Order) : List Byte := o.kind.recordByte :: idBytes o.id

/-- A Voice record as a downlink record. -/
def VoiceRecord.bytes (v : VoiceRecord) : List Byte := 0x11 :: (idBytes v.id ++ v.block.toList)

/-- An All-Call record (R171). -/
def allCallBytes (b : Block) : List Byte := 0x12 :: (idBytes allCallId ++ b.toList)

/-- Insert a Voice record after every one of the same or a lower lane (R98). -/
def insertVoice (v : VoiceRecord) : List VoiceRecord → List VoiceRecord
  | [] => [v]
  | x :: xs => if v.lane < x.lane then v :: x :: xs else x :: insertVoice v xs

/-- The Voice records in ascending order of lane, those of one lane as they were placed (R98). -/
def sortVoice (vs : List VoiceRecord) : List VoiceRecord := vs.foldl (fun acc v => insertVoice v acc) []

/-- The records of port q's downlink frame, each as bytes: orders, then in ACTIVE the All-Call and Voice records (R121). -/
def downlinkRecords (q : Port) : List (List Byte) :=
  (q.orders.take Config.ordersPerFrame).map Order.bytes ++
    (if q.state = .active then
      q.allCall.toList.map allCallBytes ++ (sortVoice q.voice).map VoiceRecord.bytes
    else [])

/-- A downlink frame: cycle number, record count, records, CRC (Table 12-3, R171). -/
def downlinkBytes (cycle : CycleNo) (records : List (List Byte)) : List Byte :=
  let body := halfBytes cycle ++ [byteOf records.length] ++ records.flatten
  body ++ halfBytes (crc16 body)

/-- Port q after its send: the orders sent are gone and the assembly is empty (R121). -/
def Port.afterSend (q : Port) : Port :=
  { q with orders := q.orders.drop Config.ordersPerFrame, voice := [], allCall := none }

/-- DOWNLINK_SEND at port p: its send of the latest cycle start, once; an OFF or ISOLATED port makes none
(R121, R125). -/
def execDownlinkSend (p : PortId) (s : State) : Out :=
  if s.sendDue.get p then
    let s' := { s with sendDue := vset s.sendDue p false }
    let q := s.port p
    if q.state = .active ∨ q.state = .dormant then
      .next { s'.setPort p q.afterSend with
              downlinkOut := vset s.downlinkOut p (downlinkBytes s.timer.cycle (downlinkRecords q)) }
    else .next s'
  else .next s

end Sys2Proof.Machine
end

