-- ==== Sys2Proof/Machine/Admission.lean ====
section
/-! DEFINITION. The Admission Unit (Chapter 4): aging of the Registration Queue and of the Deny List, the registration
intake, the lane partition, and the commands Fetch Registrations, Admit and Deny. -/

namespace Sys2Proof.Machine

/-! ### Aging (R74, R76) -/

/-- Take the entries that a test names out of the Registration Queue; when an entry leaves, Registration Full is
re-armed once the queue holds fewer than 16 entries (R73). -/
def State.removeRegistrations (s : State) (leaves : Registration → Bool) : State :=
  let kept := s.registrations.filter fun x => !leaves x
  if s.registrations.any leaves then
    { s with registrations := kept, fullReported := s.fullReported && Config.maxRegistrations ≤ kept.length }
  else s

/-- The entry's age at cycle n is at or above a limit (R74). -/
def Registration.aged (n : CycleNo) (limit : Nat) (x : Registration) : Bool := limit ≤ (n - x.lastHeard).toNat

/-- Registration aging at a cycle start, read with the number of the cycle it begins (R74). -/
def ageRegistrations (s : State) : State :=
  s.removeRegistrations (Registration.aged s.timer.cycle s.params.registrationAge)

/-- REGISTRATION_AGE_OUT: every entry whose age is at or above Registration Age is removed (R74, log 5). -/
def execRegistrationAgeOut (s : State) : Out := .next (ageRegistrations s)

/-- A Deny List entry after one more cycle start; none when its count reaches 0 (R76). -/
def Denial.tick (d : Denial) : Option Denial :=
  if d.remaining ≤ 1 then none else some { d with remaining := d.remaining - 1 }

/-- The Deny List countdown at a cycle start (R76). -/
def countDenials (s : State) : State := { s with denials := s.denials.filterMap Denial.tick }

/-- DENY_LISTING_EXPIRY: the count that brings an ID's listing to 0 removes it, without an event (R76, log 5). -/
def execDenyListingExpiry (x : HeadsetId) (s : State) : Out :=
  .next { s with denials := s.denials.filter fun d => !(d.id = x && d.remaining ≤ 1) }

/-! ### Registration intake (R71 to R73) -/

/-- One report of a cycle: an ID with its highest level and the port that gave it (R71). -/
structure Report where
  id : HeadsetId
  antenna : PortId
  level : Level
  deriving DecidableEq, Repr

/-- A further burst of the cycle: it changes its ID's report when its level is strictly higher, and starts a report when
the ID has none; ports come in ascending number, so the lowest port keeps a shared level (R71). -/
def addReport (rs : List Report) (h : Heard) : List Report :=
  if rs.any (·.id = h.id) then
    rs.map fun x => if x.id = h.id ∧ x.level < h.level then { x with antenna := h.port, level := h.level } else x
  else rs ++ [⟨h.id, h.port, h.level⟩]

/-- The reports of a cycle, in the order of the IDs' first appearance (R71). -/
def reportsOf (heard : List Heard) : List Report := heard.foldl addReport []

/-- A report refreshes its ID's entry (R72). -/
def refresh (g : CycleNo) (x : Report) (e : Registration) : Registration :=
  if e.id = x.id then
    if e.level < x.level then { e with lastHeard := g, antenna := x.antenna, level := x.level }
    else { e with lastHeard := g }
  else e

/-- A report at the intake for cycle g: disregarded for an ID that a record holds or the Deny List lists (R71, R76);
a refresh (R72); an insertion with Registration Pending; or ignored at a full queue, with Registration Full once
(R73). -/
def takeReport (g : CycleNo) (s : State) (x : Report) : State :=
  if (s.findRecord x.id).isSome || s.denials.any (·.id = x.id) then s
  else if s.registrations.any (·.id = x.id) then { s with registrations := s.registrations.map (refresh g x) }
  else if s.registrations.length < Config.maxRegistrations then
    State.post { s with registrations := s.registrations ++ [⟨x.id, x.antenna, x.level, g, g⟩] }
      .notice .registrationPending (some x.antenna) (some x.id) none (byteOf x.level.val)
  else if s.fullReported then s
  else State.post { s with fullReported := true } .warning .registrationFull (some x.antenna) (some x.id) none 0

/-- REGISTRATION_INTAKE: the oldest intake handed over is taken as one event; without one nothing is due (R71). -/
def execRegistrationIntake (s : State) : Out :=
  match s.intakes with
  | [] => .next s
  | k :: ks => .next ((reportsOf k.heard).foldl (takeReport k.cycle) { s with intakes := ks })

/-! ### Fetch Registrations (R75) -/

/-- A Registration Queue entry as Fetch Registrations returns it (Table 12-7). -/
def Registration.bytes (e : Registration) : List Byte :=
  idBytes e.id ++ [byteOf e.antenna.val, byteOf e.level.val] ++ halfBytes e.firstHeard ++ halfBytes e.lastHeard

/-- Fetch Registrations: up to four entries from a start position (R75). -/
def ownFetchRegistrations (payload : List Byte) (s : State) : Reply × State :=
  match payload with
  | [start] =>
    if 15 < start.toNat then refuse .badArgument s
    else
      let es := (s.registrations.drop start.toNat).take 4
      answer (.done ([byteOf s.registrations.length, byteOf es.length] ++ es.flatMap Registration.bytes)) s
  | _ => refuse .badArgument s

/-- Serve a Fetch Registrations packet. -/
def serveFetchRegistrations (o : Origin) (payload : List Byte) : State → State :=
  serve o .primaryOnly (ownFetchRegistrations payload)

/-- FETCH_REGISTRATIONS (R75). -/
def execFetchRegistrations (o : Origin) (payload : List Byte) (s : State) : Out :=
  .next (serveFetchRegistrations o payload s)

/-! ### Deny (R77) -/

/-- List an ID with a count in the newest place: its former listing goes, or at 8 entries the oldest (R77). -/
def listDenial (x : HeadsetId) (n : Nat) (ds : List Denial) : List Denial :=
  if ds.any (·.id = x) then ds.filter (·.id ≠ x) ++ [⟨x, n⟩]
  else if ds.length < Config.maxDenials then ds ++ [⟨x, n⟩]
  else ds.drop 1 ++ [⟨x, n⟩]

/-- The Deny order for an ID's registration: asked of its best antenna's port in ACTIVE or DORMANT. The answer names the
port that took the order (R77). -/
def denyOrder (x : HeadsetId) (e : Registration) (s : State) : Option PortId × State :=
  if (s.port e.antenna).state = .active ∨ (s.port e.antenna).state = .dormant then
    let t := s.requestOrder e.antenna .deny x
    (if t.1.taken then some e.antenna else none, t.2)
  else (none, s)

/-- Deny an ID that passed the checks: its registration is removed with an order asked, and it is listed (R77). -/
def denyHeadset (x : HeadsetId) (s : State) : Reply × State :=
  let found := s.registrations.find? (·.id = x)
  let t : Option PortId × State :=
    match found with
    | none => (none, s)
    | some e => denyOrder x e (s.removeRegistrations (·.id = x))
  let hold := s.params.denyHold
  (.done ([bit found.isSome ||| (bit t.1.isSome <<< 1), portByte? t.1] ++ natBytes hold),
    { t.2 with denials := listDenial x hold t.2.denials })

/-- Deny: refused for an ID that is not canonical, and for an ID a record holds (R77). -/
def ownDeny (payload : List Byte) (s : State) : Reply × State :=
  match payload with
  | [a, b, c] =>
    let x := id24 a b c
    if !canonical x then refuse .badIdentifier s
    else if (s.findRecord x).isSome then refuse .busy s
    else denyHeadset x s
  | _ => refuse .badArgument s

/-- Serve a Deny packet. -/
def serveDeny (o : Origin) (payload : List Byte) : State → State := serve o .primaryOnly (ownDeny payload)

/-- DENY (R77). -/
def execDeny (o : Origin) (payload : List Byte) (s : State) : Out := .next (serveDeny o payload s)

/-! ### Set Partition (R79) -/

/-- Some lane is bound. -/
def State.anyBound (s : State) : Bool := (List.finRange 64).any fun n => (s.binding n).isSome

/-- The partition replaced: the cursor at the first pool lane, and the All-Call lane cleared when it is no longer in the
fixed region (R79). -/
def storePartition (p : Partition) (s : State) : State :=
  { s with
    partition := p
    cursor := p.fixed
    params := { s.params with allCall := s.params.allCall.filter fun n => n.val < p.fixed } }

/-- Set Partition: Bad Argument unless F + P + C is 64 and C is 1 or 2, then Busy while any lane is bound (R79). -/
def ownSetPartition (payload : List Byte) (s : State) : Reply × State :=
  match payload with
  | [f, p, c] =>
    if f.toNat + p.toNat + c.toNat ≠ 64 ∨ (c ≠ 1 ∧ c ≠ 2) then refuse .badArgument s
    else if s.anyBound then refuse .busy s
    else
      let s' := storePartition ⟨f.toNat, p.toNat, c.toNat⟩ s
      (.done [f, p, c, byteOf s'.cursor, laneByte? s'.params.allCall], s')
  | _ => refuse .badArgument s

/-- Serve a Set Partition packet. -/
def serveSetPartition (o : Origin) (payload : List Byte) : State → State :=
  serve o .primaryOnly (ownSetPartition payload)

/-- SET_PARTITION (R79). -/
def execSetPartition (o : Origin) (payload : List Byte) (s : State) : Out := .next (serveSetPartition o payload s)

/-! ### Admit (R81 to R83, R11) -/

/-- Lane number i places past a pool cursor, going round the pool of `size` lanes from lane `first` (R82). -/
def poolLane (first size cursor i : Nat) : Nat := first + (cursor - first + i) % size

/-- The pool search: the first unbound lane from the cursor upward and round (R82). -/
def searchPool (s : State) : Option LaneId :=
  (List.range s.partition.pool).findSome? fun i =>
    match laneOf (poolLane s.partition.fixed s.partition.pool s.cursor i) with
    | none => none
    | some n => if s.binding n = none then some n else none

/-- The cursor after the search found a lane: the lane after it, or the first pool lane after the last (R82). -/
def cursorAfter (p : Partition) (n : LaneId) : Nat :=
  if n.val + 1 < p.fixed + p.pool then n.val + 1 else p.fixed

/-- The lane an Admit binds and the cursor it leaves, or the refusal (R81, R82). -/
def chooseLane (sel : Byte) (s : State) : Except Reason (LaneId × Nat) :=
  if sel = 0xFF then
    match searchPool s with
    | some n => .ok (n, cursorAfter s.partition n)
    | none => .error .noLane
  else
    match laneOf sel.toNat with
    | none => .error .badArgument
    | some n =>
      if s.partition.fixed ≤ n.val ∨ s.params.allCall = some n then .error .badArgument
      else if (s.binding n).isSome then .error .busy
      else .ok (n, s.cursor)

/-- A record just admitted, seeded from the ID's registration when there is one (R11, R39). -/
def Record.admitted (x : HeadsetId) (n : LaneId) (seed : Option Registration) : Record :=
  { Record.free with
    state := .searching
    id := some x
    lane := some n
    cands := seed.toList.map fun e => ⟨e.antenna, 16 * e.level.val, 0, 0⟩ }

/-- A record just admitted attaches on its seeded entry, the only one it can have, when that antenna is usable and the
entry meets the Reacquire Level (R11, R41). -/
def seedAttach (r : RecordIx) (s : State) : State :=
  match (s.record r).cands with
  | [] => s
  | c :: _ => if s.usable c && meetsReacquire s.params c then beginAttach r c.antenna s else s

/-- Admit an ID that passed the checks, on a lane, into the FREE record r: the lane is bound with a silent hold, the
record made and seeded, an attach begun when the seeded antenna is usable and meets the Reacquire Level, and the ID's
registration and listing removed (R11, R83). -/
def admitInto (r : RecordIx) (x : HeadsetId) (n : LaneId) (cursor : Nat) (s : State) : State :=
  let seed := s.registrations.find? (·.id = x)
  let s₁ := (({ s with cursor := cursor }.setBinding n (some r)).silence n).setRecord r (Record.admitted x n seed)
  let s₂ := seedAttach r s₁
  { s₂.removeRegistrations (·.id = x) with denials := s₂.denials.filter (·.id ≠ x) }

/-- Admit: the checks of R81 in their order, then R83. The answer is the index, the lane and the state (R83). -/
def ownAdmit (payload : List Byte) (s : State) : Reply × State :=
  match payload with
  | [a, b, c, sel] =>
    let x := id24 a b c
    if !canonical x then refuse .badIdentifier s
    else if (s.findRecord x).isSome then refuse .duplicate s
    else
      match s.lowestFree with
      | none => refuse .tableFull s
      | some r =>
        match chooseLane sel s with
        | .error why => refuse why s
        | .ok (n, cursor) =>
          let s' := admitInto r x n cursor s
          (.done [byteOf r.val, byteOf n.val, (s'.record r).state.code], s')
  | _ => refuse .badArgument s

/-- Serve an Admit packet. -/
def serveAdmit (o : Origin) (payload : List Byte) : State → State := serve o .primaryOnly (ownAdmit payload)

/-- ADMIT (R81). -/
def execAdmit (o : Origin) (payload : List Byte) (s : State) : Out := .next (serveAdmit o payload s)

end Sys2Proof.Machine
end

