-- ==== Sys2Proof/Machine/General.lean ====
section
/-! DEFINITION. The commands of the part as a whole: Identify, Read Status, Configure, Read Parameters, Restart
(Chapter 9), Counter Exchange-Add and Fetch Events (Chapter 11). -/

namespace Sys2Proof.Machine

/-! ### Identify (R148) -/

/-- The fixed description of the part (R148, Table 12-7). -/
def identity : List Byte :=
  [Config.vendorCode] ++ halfBytes Config.partCode ++ [Config.revision, 24, 192, 64, 4, 4]

/-- Identify: no payload (R148). -/
def ownIdentify (payload : List Byte) (s : State) : Reply × State :=
  if payload = [] then answer (.done identity) s else refuse .badArgument s

/-- Serve an Identify packet. -/
def serveIdentify (o : Origin) (payload : List Byte) : State → State := serve o .anyLane (ownIdentify payload)

/-- IDENTIFY (R148). -/
def execIdentify (o : Origin) (payload : List Byte) (s : State) : Out := .next (serveIdentify o payload s)

/-! ### Read Status (R149) -/

/-- How many records are in a state. -/
def State.countRecords (s : State) (st : RecordState) : Nat := (s.records.toList.filter (·.state = st)).length

/-- The snapshot of Read Status, 43 bytes (R149, Table 12-7). -/
def statusBytes (s : State) : List Byte :=
  [s.timer.clock.code] ++ halfBytes s.timer.cycle ++ [statusFlags s.freeze s.lostEvents] ++
    natBytes s.freeze.remaining ++
    [byteOf (s.countRecords .free), byteOf (s.countRecords .searching), byteOf (s.countRecords .attaching),
      byteOf (s.countRecords .active), byteOf (s.countRecords .bridging)] ++
    [byteOf s.registrations.length, byteOf s.denials.length, byteOf s.events.length,
      byteOf s.primary.queue.length, byteOf s.secondary.queue.length] ++
    s.ports.toList.map portStatusByte ++
    [byteOf s.partition.fixed, byteOf s.partition.pool, byteOf s.partition.control]

/-- Read Status: no payload (R149). -/
def ownReadStatus (payload : List Byte) (s : State) : Reply × State :=
  if payload = [] then answer (.done (statusBytes s)) s else refuse .badArgument s

/-- Serve a Read Status packet. -/
def serveReadStatus (o : Origin) (payload : List Byte) : State → State := serve o .anyLane (ownReadStatus payload)

/-- READ_STATUS (R149). -/
def execReadStatus (o : Origin) (payload : List Byte) (s : State) : Out := .next (serveReadStatus o payload s)

/-! ### The Parameter Set (R150 to R154) -/

/-- A value brought into a range (R152). -/
def clampTo (lo hi : Nat) (v : Half) : Nat := max lo (min v.toNat hi)

/-- Hold Trigger rounded down to the nearest of 4, 8, 12 and 14 (R152). -/
def clampTrigger (v : Half) : Nat :=
  if v.toNat < 8 then 4 else if v.toNat < 12 then 8 else if v.toNat < 14 then 12 else 14

/-- Store a value as parameter n, brought into its range; a number outside 1 to 22 stores nothing (R152, Table 9-3). -/
def Params.put (n : Nat) (v : Half) (p : Params) : Params :=
  match n with
  | 1 => { p with smoothingShift := clampTo 1 5 v }
  | 2 => { p with hysteresisMargin := clampTo 0 31 v }
  | 3 => { p with dwell := clampTo 1 64 v }
  | 4 => { p with rescueThreshold := clampTo 2 25 v }
  | 5 => { p with bridgeLimit := clampTo 5 125 v }
  | 6 => { p with attachLimit := clampTo 10 250 v }
  | 7 => { p with missLimit := clampTo 10 250 v }
  | 8 => { p with lostHold := clampTo 250 15000 v }
  | 9 => { p with reacquireLevel := clampTo 0 127 v }
  | 10 => { p with candidateStale := clampTo 2 50 v }
  | 11 => { p with barTime := clampTo 25 1000 v }
  | 12 => { p with damagePenalty := clampTo 0 63 v }
  | 13 => { p with concealLimit := clampTo 0 8 v }
  | 14 => { p with gatherDelay := clampTo 1 15 v }
  | 15 => { p with linkTimeout := clampTo 5 250 v }
  | 16 => { p with registrationAge := clampTo 50 2500 v }
  | 17 => { p with denyHold := clampTo 250 15000 v }
  | 18 => { p with holdTrigger := clampTrigger v }
  | 19 => { p with infoEvents := v ≠ 0 }
  | 20 => { p with authority := if v = 0 then .noAuthority else if v = 1 then .freezeOnly else .full }
  | 21 => { p with clockSource := if v = 0 then .follow else .localSource }
  | 22 => { p with allCall := laneOf v.toNat }
  | _ => p

/-- The value of parameter n as two bytes; All-Call Lane none is 0xFFFF (R154, Table 9-3). -/
def Params.value (n : Nat) (p : Params) : Half :=
  match n with
  | 1 => BitVec.ofNat 16 p.smoothingShift
  | 2 => BitVec.ofNat 16 p.hysteresisMargin
  | 3 => BitVec.ofNat 16 p.dwell
  | 4 => BitVec.ofNat 16 p.rescueThreshold
  | 5 => BitVec.ofNat 16 p.bridgeLimit
  | 6 => BitVec.ofNat 16 p.attachLimit
  | 7 => BitVec.ofNat 16 p.missLimit
  | 8 => BitVec.ofNat 16 p.lostHold
  | 9 => BitVec.ofNat 16 p.reacquireLevel
  | 10 => BitVec.ofNat 16 p.candidateStale
  | 11 => BitVec.ofNat 16 p.barTime
  | 12 => BitVec.ofNat 16 p.damagePenalty
  | 13 => BitVec.ofNat 16 p.concealLimit
  | 14 => BitVec.ofNat 16 p.gatherDelay
  | 15 => BitVec.ofNat 16 p.linkTimeout
  | 16 => BitVec.ofNat 16 p.registrationAge
  | 17 => BitVec.ofNat 16 p.denyHold
  | 18 => BitVec.ofNat 16 p.holdTrigger
  | 19 => if p.infoEvents then 1 else 0
  | 20 => BitVec.ofNat 16 p.authority.code
  | 21 => BitVec.ofNat 16 p.clockSource.code
  | 22 =>
    match p.allCall with
    | none => 0xFFFF
    | some n => BitVec.ofNat 16 n.val
  | _ => 0

/-- A byte that numbers a parameter, 1 to 22. -/
def isParam (b : Byte) : Bool := 1 ≤ b.toNat ∧ b.toNat ≤ 22

/-- A number and value pair as sent. -/
def pairBytes (n : Byte) (v : Half) : List Byte := n :: halfBytes v

/-- The pairs of a Configure payload: a whole number of three-byte pairs (R151). -/
def pairsOf : List Byte → Option (List (Byte × Half))
  | [] => some []
  | n :: hi :: lo :: rest => (pairsOf rest).map ((n, half hi lo) :: ·)
  | _ :: _ => none

/-- The Admission Unit accepts a value of All-Call Lane: none, or a lane of the fixed region that is not bound
(R80, R151). -/
def acceptsAllCall (s : State) (v : Half) : Bool :=
  if v = 0xFFFF then true
  else
    match laneOf v.toNat with
    | none => false
    | some n => n.val < s.partition.fixed && (s.binding n).isNone

/-- A pair passes R151: its number is 1 to 22, and a value of parameter 22 is accepted. -/
def acceptsPair (s : State) (x : Byte × Half) : Bool := isParam x.1 && (x.1 ≠ 22 || acceptsAllCall s x.2)

/-- Store pairs in order: the parameters, and the pairs as stored (R152). -/
def storePairs : List (Byte × Half) → Params → Params × List Byte
  | [], p => (p, [])
  | (n, v) :: rest, p =>
    let p' := p.put n.toNat v
    let t := storePairs rest p'
    (t.1, pairBytes n (p'.value n.toNat) ++ t.2)

/-- Configure: the whole list is checked before any value is stored; the answer is the pairs as stored (R151, R152). -/
def ownConfigure (payload : List Byte) (s : State) : Reply × State :=
  match pairsOf payload with
  | none => refuse .badArgument s
  | some pairs =>
    if pairs = [] ∨ Config.maxResponsePayload < payload.length ∨ pairs.all (acceptsPair s) = false then
      refuse .badArgument s
    else
      let t := storePairs pairs s.params
      (.done t.2, { s with params := t.1 })

/-- Serve a Configure packet. -/
def serveConfigure (o : Origin) (payload : List Byte) : State → State := serve o .primaryOnly (ownConfigure payload)

/-- CONFIGURE (R151). -/
def execConfigure (o : Origin) (payload : List Byte) (s : State) : Out := .next (serveConfigure o payload s)

/-- Read Parameters: all 22 values, or a pair for each number named, up to 18 (R154). -/
def ownReadParameters (payload : List Byte) (s : State) : Reply × State :=
  if payload = [] then
    answer (.done ((List.range 22).flatMap fun i => halfBytes (s.params.value (i + 1)))) s
  else if 18 < payload.length ∨ payload.all isParam = false then refuse .badArgument s
  else answer (.done (payload.flatMap fun n => pairBytes n (s.params.value n.toNat))) s

/-- Serve a Read Parameters packet. -/
def serveReadParameters (o : Origin) (payload : List Byte) : State → State :=
  serve o .anyLane (ownReadParameters payload)

/-- READ_PARAMETERS (R154). -/
def execReadParameters (o : Origin) (payload : List Byte) (s : State) : Out := .next (serveReadParameters o payload s)

/-! ### Restart (R155 to R157) -/

/-- Every block after Restart, before Restart Done is posted: what Table 9-5 clears is cleared, the rest is kept
(R155, log 19). -/
def restartBlocks (s : State) : State :=
  { s with
    records := Vector.replicate 192 Record.free
    loads := Vector.replicate 24 0
    freeze := Freeze.clear
    roamCounters := Vector.replicate 4 0
    registrations := []
    fullReported := false
    denials := []
    bindings := Vector.replicate 64 none
    cursor := s.partition.fixed
    ports := vmap Port.reset s.ports
    holds := Vector.replicate 64 (Hold.silent s.params.concealLimit)
    laneCounters := Vector.replicate 64 (Vector.replicate 4 0)
    primary := ControlLane.empty
    secondary := ControlLane.empty
    ctlCounters := Vector.replicate 5 0
    events := []
    lostEvents := false }

/-- Restart: no payload; the answer is the current cycle number, and Restart Done is posted (R155, R157). -/
def ownRestart (payload : List Byte) (s : State) : Reply × State :=
  if payload = [] then
    (.done (halfBytes s.timer.cycle), (restartBlocks s).post .notice .restartDone none none none 0)
  else refuse .badArgument s

/-- Serve a Restart packet; its response is queued after both queues have been emptied (R139, R157). -/
def serveRestart (o : Origin) (payload : List Byte) : State → State := serve o .primaryOnly (ownRestart payload)

/-- RESTART (R155). -/
def execRestart (o : Origin) (payload : List Byte) (s : State) : Out := .next (serveRestart o payload s)

/-! ### Counter Exchange-Add (R169, R170) -/

/-- A counter by its owner and its place in the owner's group (Table 11-3). -/
inductive CounterName where
  | roam (k : Fin 4)
  | ctl (k : Fin 5)
  | port (p : PortId) (k : Fin 7)
  | lane (n : LaneId) (k : Fin 4)
  deriving DecidableEq, Repr

/-- The counter a group and an index name, if they name one (Table 11-3). -/
def counterOf (group index : Byte) : Option CounterName :=
  let i := index.toNat
  if group = 0 then if h : i < 4 then some (.roam ⟨i, h⟩) else none
  else if group = 1 then if h : i < 5 then some (.ctl ⟨i, h⟩) else none
  else if group = 2 then
    if h : i / 8 < 24 ∧ i % 8 < 7 then some (.port ⟨i / 8, h.1⟩ ⟨i % 8, h.2⟩) else none
  else if group = 3 then
    if h : i / 4 < 64 ∧ i % 4 < 4 then some (.lane ⟨i / 4, h.1⟩ ⟨i % 4, h.2⟩) else none
  else none

/-- The value of a counter. -/
def State.counter (s : State) : CounterName → Nat
  | .roam k => s.roamCounters.get k
  | .ctl k => s.ctlCounters.get k
  | .port p k => (s.port p).counters.get k
  | .lane n k => (s.laneCounters.get n).get k

/-- Store a value in a counter. -/
def State.setCounter (s : State) (c : CounterName) (v : Nat) : State :=
  match c with
  | .roam k => { s with roamCounters := vset s.roamCounters k v }
  | .ctl k => { s with ctlCounters := vset s.ctlCounters k v }
  | .port p k => s.modPort p fun q => { q with counters := vset q.counters k v }
  | .lane n k => { s with laneCounters := vset s.laneCounters n (vset (s.laneCounters.get n) k v) }

/-- A counter's value plus a delta, brought into 0 to 65535 (R170). -/
def exchangeValue (v : Nat) (delta : Int) : Nat := min ((v : Int) + delta).toNat Config.counterMax

/-- Counter Exchange-Add: the counter read, and the value plus the delta stored; the answer is the group, the index, the
value read and the value stored (R170). -/
def ownCounterExchangeAdd (payload : List Byte) (s : State) : Reply × State :=
  match payload with
  | [group, index, a, b, c, d] =>
    match counterOf group index with
    | none => refuse .badArgument s
    | some k =>
      let v := s.counter k
      let w := exchangeValue v (signed32 a b c d)
      (.done ([group, index] ++ natBytes v ++ natBytes w), s.setCounter k w)
  | _ => refuse .badArgument s

/-- The permission of a Counter Exchange-Add: any lane with a delta of 0; a payload too short to hold a delta is judged
as a non-zero delta (R138, Table 8-3). -/
def exchangePermission (payload : List Byte) : Permission :=
  match payload with
  | _ :: _ :: a :: b :: c :: d :: _ => if signed32 a b c d = 0 then .anyLane else .primaryOnly
  | _ => .primaryOnly

/-- Serve a Counter Exchange-Add packet. -/
def serveCounterExchangeAdd (o : Origin) (payload : List Byte) : State → State :=
  serve o (exchangePermission payload) (ownCounterExchangeAdd payload)

/-- COUNTER_EXCHANGE_ADD (R170). -/
def execCounterExchangeAdd (o : Origin) (payload : List Byte) (s : State) : Out :=
  .next (serveCounterExchangeAdd o payload s)

/-! ### Fetch Events (R168) -/

/-- An event as Fetch Events returns it (Table 12-9). -/
def Event.bytes (e : Event) : List Byte :=
  [e.kind.code, byteOf e.cls.rank] ++ halfBytes e.cycle ++ [portByte? e.port] ++ idBytes? e.id ++
    [laneByte? e.lane, e.detail]

/-- The count of a Fetch Events, brought into 1 to 5 (R168). -/
def fetchCount (b : Byte) : Nat := max 1 (min b.toNat 5)

/-- Fetch Events: events removed from the head; the answer is Lost-Events as it stood, the events left and the events
removed; then Lost-Events is cleared (R168). DESIGN CHOICE: the flag's byte is 1 when it was set and 0 when it was clear
(log 32). -/
def ownFetchEvents (payload : List Byte) (s : State) : Reply × State :=
  match payload with
  | [n] =>
    let out := s.events.take (fetchCount n)
    let left := s.events.drop (fetchCount n)
    (.done ([bit s.lostEvents, byteOf left.length] ++ out.flatMap Event.bytes),
      { s with events := left, lostEvents := false })
  | _ => refuse .badArgument s

/-- Serve a Fetch Events packet. -/
def serveFetchEvents (o : Origin) (payload : List Byte) : State → State :=
  serve o .primaryOnly (ownFetchEvents payload)

/-- FETCH_EVENTS (R168). -/
def execFetchEvents (o : Origin) (payload : List Byte) (s : State) : Out := .next (serveFetchEvents o payload s)

end Sys2Proof.Machine
end

