-- ==== Sys2Proof/Machine/Close.lean ====
section
/-! DEFINITION. The cycle close (R6 to R10): its six stages, the registration intake it hands over and the consumption
at the ports (R115); and the rows that are one stage of a close reaching the end of a count (log 5). -/

namespace Sys2Proof.Machine

/-! ### Evidence (R7) -/

/-- Everything the close reads, ports in ascending number and records in frame order (R7). -/
def closeEvidence (s : State) : List Evidence := (List.finRange 24).flatMap fun a => readPort a (s.port a)

/-- A record's evidence: the bursts that carry its headset ID (R7). -/
def evidenceOf (rd : Record) (ev : List Evidence) : List Evidence := ev.filter fun e => rd.id = some e.burst.id

/-- A Voice burst came from port a, clean or damaged. -/
def heardVoice (ev : List Evidence) (a : PortId) : Bool := ev.any fun e => e.port = a && e.burst.isVoice

/-- A Voice burst came from a port that may be absent. -/
def heardVoice? (ev : List Evidence) (a : Option PortId) : Bool :=
  match a with
  | none => false
  | some a => heardVoice ev a

/-! ### Stage 1: completion -/

/-- Stage 1: a Voice burst from the target completes an attach or a bridge (R15, R59). -/
def completionStage (ev : List Evidence) (r : RecordIx) (s : State) : State :=
  let rd := s.record r
  match rd.target with
  | none => s
  | some t =>
    if heardVoice ev t then
      match rd.state, rd.serving with
      | .attaching, _ => completeAttach r t s
      | .bridging, some x => completeBridge r x t s
      | _, _ => s
    else s

/-! ### Stage 2: measurement -/

/-- Stage 2: the measurement update of the candidate list (R31). -/
def measureStage (ev : List Evidence) (r : RecordIx) (s : State) : State :=
  s.modRecord r fun rd => { rd with cands := measureCands s.params rd.pinned ev rd.cands }

/-! ### Stage 3: miss counting -/

/-- The record is carried: ACTIVE or BRIDGING. -/
def Record.carried (rd : Record) : Bool := rd.state = .active ∨ rd.state = .bridging

/-- The cycle is heard: a Voice burst from the serving antenna, or in BRIDGING from the target (R19). -/
def heardCycle (ev : List Evidence) (rd : Record) : Bool :=
  heardVoice? ev rd.serving || (rd.state = .bridging && heardVoice? ev rd.target)

/-- The miss count after one more unheard cycle, saturating at 255 (R19). -/
def Record.missRaised (rd : Record) : Nat := min (rd.miss + 1) 255

/-- Stage 3 for a carried record: the miss count, and link loss when it reaches Miss Limit (R19, R20). -/
def missStage (heard : Bool) (r : RecordIx) (s : State) : State :=
  let rd := s.record r
  if rd.carried then
    let n := if heard then 0 else rd.missRaised
    let s' := s.modRecord r fun rd => { rd with miss := n }
    if s.params.missLimit ≤ n then linkLoss r s' else s'
  else s

/-! ### Stage 4: voice selection -/

/-- A copy of a cycle's voice: a clean or damaged Voice burst from a carrying port (R86). -/
structure Copy where
  port : PortId
  level : Level
  block : Block
  deriving DecidableEq, Repr

/-- The clean copies from the carrying ports: the serving and target antennas before stage 1 (R86, R87.1). -/
def cleanCopies (before : Record) (ev : List Evidence) : List Copy :=
  ev.filterMap fun e =>
    match e.burst.kind with
    | .voice b => if before.pinned e.port && !e.burst.damaged then some ⟨e.port, e.burst.level, b⟩ else none
    | .monitor => none
    | .register => none

/-- The copy selected of two, the first standing earlier: the higher level; at equal levels from different ports the one
from the serving antenna before stage 1; else the earlier (R87). -/
def betterCopy (serving : Option PortId) (x y : Copy) : Copy :=
  if x.level < y.level then y
  else if x.level = y.level ∧ y.port ≠ x.port ∧ serving = some y.port then y
  else x

/-- The copy selected (R87). -/
def selectCopy (before : Record) (ev : List Evidence) : Option Copy :=
  match cleanCopies before ev with
  | [] => none
  | c :: cs => some (cs.foldl (betterCopy before.serving) c)

/-- Stage 4: a carried record selects its uplink voice and hands a hold-write request for its lane (R86 to R88). -/
def voiceStage (before : Record) (ev : List Evidence) (r : RecordIx) (s : State) : State :=
  let rd := s.record r
  if rd.carried then
    match selectCopy before ev, rd.lane with
    | some c, some n => { s with holdRequests := s.holdRequests ++ [⟨n, r, rd.headset, c.block⟩] }
    | _, _ => s
  else s

/-! ### Stage 5: timers -/

/-- The bridge timer: raised in BRIDGING, and at Bridge Limit the bridge fails with Timeout. The antenna it barred is
answered too (R60, R61). -/
def bridgeTimerStage (r : RecordIx) (s : State) : Option PortId × State :=
  let rd := s.record r
  match rd.state, rd.target with
  | .bridging, some t =>
    let s' := s.modRecord r fun rd => { rd with timer := rd.timer + 1 }
    if s.params.bridgeLimit ≤ rd.timer + 1 then
      (some t, failBridge r t .timeout (s'.dropAndLower (some t) rd.headset))
    else (none, s')
  | _, _ => (none, s)

/-- The attach timer: raised in ATTACHING, and at Attach Limit the attach fails with Timeout. The antenna it barred is
answered too (R16). -/
def attachTimerStage (r : RecordIx) (s : State) : Option PortId × State :=
  let rd := s.record r
  match rd.state, rd.target with
  | .attaching, some a =>
    let s' := s.modRecord r fun rd => { rd with timer := rd.timer + 1 }
    if s.params.attachLimit ≤ rd.timer + 1 then
      (some a, failAttach r a .timeout (s'.dropAndLower (some a) rd.headset))
    else (none, s')
  | _, _ => (none, s)

/-- The record has no serving antenna and its orphan timer runs (R21). -/
def Record.orphaned (rd : Record) : Bool := rd.state = .searching ∨ rd.state = .attaching

/-- The orphan timer: raised in SEARCHING and ATTACHING, and at Lost Hold the headset is dropped: a Drop at the target
in ATTACHING, the record freed, its lane returned, Headset Dropped posted (R21, R22). -/
def orphanStage (r : RecordIx) (s : State) : State :=
  let rd := s.record r
  if rd.orphaned then
    let s' := s.modRecord r fun rd => { rd with orphan := rd.orphan + 1 }
    if s.params.lostHold ≤ rd.orphan + 1 then
      ((s'.dropAndLower rd.target rd.headset).freeRecord r).postFor .warning .headsetDropped none rd 0
    else s'
  else s

/-- One bar timer lowered by 1 when above 0, unless its antenna was barred in this same close (R17). -/
def lowerBar (barred : Option PortId) (c : Candidate) : Candidate :=
  if barred = some c.antenna then c else { c with bar := c.bar - 1 }

/-- The bar timers stage (R17). -/
def barStage (barred : Option PortId) (r : RecordIx) (s : State) : State :=
  s.modRecord r fun rd => { rd with cands := rd.cands.map (lowerBar barred) }

/-- Stage 5: bridge timer, attach timer, orphan timer, bar timers, in this order (R8). -/
def timerStage (r : RecordIx) (s : State) : State :=
  let b := bridgeTimerStage r s
  let a := attachTimerStage r b.2
  barStage (b.1.or a.1) r (orphanStage r a.2)

/-! ### Stage 6: the decision -/

/-- The Neighbour Matrix entry at row x and column t (R44). -/
def State.neighbour (s : State) (x t : PortId) : Neighbour := (s.matrix.get x).get t

/-- The first entry in list order that is usable and whose relation from the serving antenna is not Barred: the choice
of the rescue test and of the handoff test (R46.1, R49). -/
def handoffChoice (s : State) (rd : Record) (x : PortId) : Option Candidate :=
  rd.cands.find? fun c => s.usableFor rd c && (s.neighbour x c.antenna).relation ≠ .barred

/-- The required margin: 16 × max(0, H + offset) (R46.2). -/
def handoffMargin (h : Nat) (o : Int) : Nat := 16 * ((h : Int) + o).toNat

/-- The required dwell: D for Normal, half of D rounded up for Preferred (R47). -/
def requiredDwell (d : Nat) : Relation → Nat
  | .normal => d
  | .preferred => (d + 1) / 2
  | .barred => d

/-- The handoff test passes for entry b: its quality is strictly above the serving quality plus the margin (R46.3). -/
def handoffPasses (s : State) (rd : Record) (x : PortId) (b : Candidate) : Bool :=
  match entryFor rd.cands x with
  | none => false
  | some e => e.q + handoffMargin s.params.hysteresisMargin (s.neighbour x b.antenna).offsetInt < b.q

/-- The dwell fields after a failed test (R47). -/
def Record.clearDwell (rd : Record) : Record := { rd with dwellTarget := none, dwellCount := 0, deferred := false }

/-- The dwell fields after a test that passed for antenna b with a required dwell (R47). -/
def Record.countDwell (rd : Record) (b : PortId) (need : Nat) : Record :=
  if rd.dwellTarget = some b then
    { rd with dwellCount := if need ≤ rd.dwellCount then need else rd.dwellCount + 1 }
  else { rd with dwellTarget := some b, dwellCount := 1, deferred := false }

/-- The automatic handoff test of record r on serving antenna x, and what follows from its dwell: a bridge, or Deferred
under a freeze (R46 to R48). -/
def handoffTest (r : RecordIx) (x : PortId) (s : State) : State :=
  let rd := s.record r
  match handoffChoice s rd x with
  | none => s.setRecord r rd.clearDwell
  | some b =>
    if handoffPasses s rd x b then
      let need := requiredDwell s.params.dwell (s.neighbour x b.antenna).relation
      let rd' := rd.countDwell b.antenna need
      if rd'.dwellCount = need then
        if s.freeze.active then s.setRecord r { rd' with deferred := true }
        else (beginBridge r b.antenna .automatic (s.setRecord r rd')).2
      else s.setRecord r rd'
    else s.setRecord r rd.clearDwell

/-- A rescue of record r to antenna t: Rescue Started, the counter Rescues, and a bridge of kind Rescue (R49). -/
def beginRescue (r : RecordIx) (t : PortId) (s : State) : State :=
  (beginBridge r t .rescue
    ((s.bumpRoam .rescues).postFor .notice .rescueStarted (some t) (s.record r) 0)).2

/-- The decision of an ACTIVE record on serving antenna x: the rescue test first, then the handoff test when the rescue
does not apply or finds no antenna (R45, R49). -/
def decideActive (r : RecordIx) (x : PortId) (s : State) : State :=
  let rd := s.record r
  if s.params.rescueThreshold ≤ rd.miss then
    match handoffChoice s rd x with
    | some c => beginRescue r c.antenna s
    | none => handoffTest r x s
  else handoffTest r x s

/-- The search of a SEARCHING record: it attaches on the first entry that is usable and meets the Reacquire Level
(R18, R41). -/
def searchStage (r : RecordIx) (s : State) : State :=
  match (s.record r).cands.find? fun c => s.usable c && meetsReacquire s.params c with
  | some c => beginAttach r c.antenna s
  | none => s

/-- Stage 6: the decision of an ACTIVE record, the search of a SEARCHING record (R45). -/
def decisionStage (r : RecordIx) (s : State) : State :=
  match (s.record r).state, (s.record r).serving with
  | .active, some x => decideActive r x s
  | .searching, _ => searchStage r s
  | _, _ => s

/-! ### The whole close -/

/-- The six stages of one record; a FREE record is not treated (R8). -/
def closeRecord (ev : List Evidence) (s : State) (r : RecordIx) : State :=
  let before := s.record r
  if before.state = .free then s
  else
    let mine := evidenceOf before ev
    let s₁ := completionStage mine r s
    let s₂ := measureStage mine r s₁
    let s₃ := missStage (heardCycle mine (s₂.record r)) r s₂
    let s₄ := voiceStage before mine r s₃
    let s₅ := timerStage r s₄
    if (s₅.record r).state = .free then s₅ else decisionStage r s₅

/-- The Register bursts that no record's ID claims: the registration intake's (R7, R71). -/
def unknownRegisters (s : State) (ev : List Evidence) : List Heard :=
  (ev.filter fun e => e.burst.isRegister && (s.findRecord e.burst.id).isNone).map fun e =>
    ⟨e.port, e.burst.id, e.burst.level⟩

/-- Hand a cycle's Register bursts to the registration intake, when there are any (R71). -/
def handIntake (g : CycleNo) (heard : List Heard) (s : State) : State :=
  if heard = [] then s else { s with intakes := s.intakes ++ [⟨g, heard⟩] }

/-- The close was entitled to read the port: ACTIVE or DORMANT (R8, R115). -/
def Port.entitled (p : Port) : Bool := p.state = .active ∨ p.state = .dormant

/-- The end of the close for cycle g at one port: an entitled port's Gathering frame is discarded or counted missing,
its Early frame moves up; every port's Gathering cycle becomes g + 1 (R115). -/
def Port.consume (g : CycleNo) (p : Port) : Port :=
  if p.entitled then
    { p with
      missing := if p.gatherSlot.isSome then 0 else min (p.missing + 1) Config.maxMissing
      gatherSlot := p.earlySlot
      earlySlot := none
      gathering := g + 1 }
  else { p with gathering := g + 1 }

/-- Consumption at every port; a port whose missing count has reached or passed Link Timeout is due to be isolated
(R115, R116, log 6). -/
def consumeAll (g : CycleNo) (s : State) : State :=
  let ports := vmap (Port.consume g) s.ports
  { s with
    ports := ports
    isolationDue := vofFn fun a =>
      s.isolationDue.get a || ((ports.get a).entitled && s.params.linkTimeout ≤ (ports.get a).missing) }

/-- The close for cycle g, whole: every record in ascending index, the intake handed over, the consumption
(R8, R9, R71, R115). -/
def runClose (g : CycleNo) (s : State) : State :=
  let ev := closeEvidence s
  consumeAll g (handIntake g (unknownRegisters s ev) ((List.finRange 192).foldl (closeRecord ev) s))

/-- The scheduled close, if there is one, is made (R6). -/
def makePendingClose (s : State) : State :=
  match s.pendingClose with
  | none => s
  | some c => runClose c.cycle { s with pendingClose := none }

/-! ### The commands of the close -/

/-- CYCLE_CLOSE: the close the latest cycle start scheduled is made; without one nothing is due (R6, R8). -/
def execCycleClose (s : State) : Out := .next (makePendingClose s)

/-- Record r is carried and one more unheard cycle brings its miss count to Miss Limit (R20). -/
def State.missReaches (s : State) (r : RecordIx) : Bool :=
  (s.record r).carried && s.params.missLimit ≤ (s.record r).missRaised

/-- LINK_LOST: the unheard cycle that brings record r's miss count to Miss Limit (R19, R20, log 5). -/
def execLinkLost (r : RecordIx) (s : State) : Out :=
  .next (if s.missReaches r then missStage false r s else s)

/-- Record r is BRIDGING and its next closing brings the bridge timer to Bridge Limit (R60). -/
def State.bridgeReaches (s : State) (r : RecordIx) : Bool :=
  (s.record r).state = .bridging && s.params.bridgeLimit ≤ (s.record r).timer + 1

/-- BRIDGE_TIMEOUT: the count that brings record r's bridge timer to Bridge Limit (R60, R61, log 5). -/
def execBridgeTimeout (r : RecordIx) (s : State) : Out :=
  .next (if s.bridgeReaches r then (bridgeTimerStage r s).2 else s)

/-- Record r is ATTACHING and its next closing brings the attach timer to Attach Limit (R16). -/
def State.attachReaches (s : State) (r : RecordIx) : Bool :=
  (s.record r).state = .attaching && s.params.attachLimit ≤ (s.record r).timer + 1

/-- ATTACH_TIMEOUT: the count that brings record r's attach timer to Attach Limit (R16, log 5). -/
def execAttachTimeout (r : RecordIx) (s : State) : Out :=
  .next (if s.attachReaches r then (attachTimerStage r s).2 else s)

/-- Record r has no serving antenna and its next closing brings the orphan timer to Lost Hold (R21). -/
def State.orphanReaches (s : State) (r : RecordIx) : Bool :=
  (s.record r).orphaned && s.params.lostHold ≤ (s.record r).orphan + 1

/-- HEADSET_DROPPED: the count that brings record r's orphan timer to Lost Hold (R21, R22, log 5). -/
def execHeadsetDropped (r : RecordIx) (s : State) : Out :=
  .next (if s.orphanReaches r then orphanStage r s else s)

/-- One entry's bar timer taken from 1 to 0. -/
def expireBar (a : PortId) (c : Candidate) : Candidate :=
  if c.antenna = a ∧ c.bar = 1 then { c with bar := 0 } else c

/-- BAR_TIMER_EXPIRY: the count that lowers the bar timer of record r's entry for an antenna from 1 to 0, so that the
antenna may be chosen again (R17, R63, log 5). -/
def execBarTimerExpiry (r : RecordIx) (a : PortId) (s : State) : Out :=
  .next (s.modRecord r fun rd => { rd with cands := rd.cands.map (expireBar a) })

end Sys2Proof.Machine
end

