-- ==== Sys2Proof/Machine/RecordCommands.lean ====
section
/-! DEFINITION. The commands of the Roaming Engine: Release, Read Record, Force Handoff and Freeze, and the countdown of
a freeze. -/

namespace Sys2Proof.Machine

/-! ### Release (R25) -/

/-- Release of a resolved record: Drops at the ports it names, their loads lowered, the record freed; a FREE index is
Not Found. The answer is the index, ID, lane and former state (R25). DESIGN CHOICE: the serving port is asked before the
target port (log 28). -/
def releaseRecord (r : RecordIx) (s : State) : Reply × State :=
  let rd := s.record r
  if rd.state = .free then refuse .notFound s
  else
    (.done ([byteOf r.val] ++ idBytes? rd.id ++ [laneByte? rd.lane, rd.state.code]),
      ((s.dropAndLower rd.serving rd.headset).dropAndLower rd.target rd.headset).freeRecord r)

/-- Release: a selector of four bytes (R5, R25, R172). -/
def ownRelease (payload : List Byte) (s : State) : Reply × State :=
  match payload with
  | [k, a, b, c] =>
    match Selector.ofBytes k a b c with
    | none => refuse .badArgument s
    | some sel =>
      match s.resolve sel with
      | .error why => refuse why s
      | .ok r => releaseRecord r s
  | _ => refuse .badArgument s

/-- Serve a Release packet. -/
def serveRelease (o : Origin) (payload : List Byte) : State → State := serve o .fullOnly (ownRelease payload)

/-- RELEASE (R25). -/
def execRelease (o : Origin) (payload : List Byte) (s : State) : Out := .next (serveRelease o payload s)

/-! ### Read Record (R26, Table 12-8) -/

/-- A candidate entry as reported: antenna with pinned, Q, absent count, bar timer. -/
def candidateBytes (rd : Record) (c : Candidate) : List Byte :=
  [byteOf c.antenna.val ||| (bit (rd.pinned c.antenna) <<< 7)] ++ natBytes c.q ++ [byteOf c.absent] ++ natBytes c.bar

/-- The flags byte of a record: target accepted, Deferred, bridge kind. -/
def recordFlags (rd : Record) : Byte :=
  bit rd.accepted ||| (bit rd.deferred <<< 1) ||| (bridgeKindCode rd.kind <<< 2)

/-- A record as Read Record reports it. -/
def recordBytes (r : RecordIx) (rd : Record) : List Byte :=
  [byteOf r.val, rd.state.code] ++ idBytes? rd.id ++ [laneByte? rd.lane] ++
    [portByte? rd.serving, portByte? rd.target, recordFlags rd, byteOf rd.timer, portByte? rd.dwellTarget,
      byteOf rd.dwellCount, byteOf rd.miss] ++ natBytes rd.orphan ++ [byteOf rd.cands.length] ++
    rd.cands.flatMap (candidateBytes rd)

/-- Read Record: a selector of four bytes; a FREE index is reported with its FREE values (R26). -/
def ownReadRecord (payload : List Byte) (s : State) : Reply × State :=
  match payload with
  | [k, a, b, c] =>
    match Selector.ofBytes k a b c with
    | none => refuse .badArgument s
    | some sel =>
      match s.resolve sel with
      | .error why => refuse why s
      | .ok r => answer (.done (recordBytes r (s.record r))) s
  | _ => refuse .badArgument s

/-- Serve a Read Record packet. -/
def serveReadRecord (o : Origin) (payload : List Byte) : State → State := serve o .anyLane (ownReadRecord payload)

/-- READ_RECORD (R26). -/
def execReadRecord (o : Origin) (payload : List Byte) (s : State) : Out := .next (serveReadRecord o payload s)

/-! ### Force Handoff (R67, R68) -/

/-- The answer of Force Handoff: index, ID, former serving antenna, outcome (Table 12-7). -/
def forceReply (r : RecordIx) (rd : Record) (outcome : Byte) : Reply :=
  .done ([byteOf r.val] ++ idBytes? rd.id ++ [portByte? rd.serving, outcome])

/-- Force Handoff of a resolved record to the antenna a byte names: the checks 1 to 5 in their order, then No Change,
Started or Queue Full (R67, R68). -/
def forceRecord (r : RecordIx) (antenna : Byte) (s : State) : Reply × State :=
  let rd := s.record r
  if rd.state = .free then refuse .notFound s
  else if rd.state ≠ .active then refuse .busy s
  else
    match portOf antenna with
    | none => refuse .badArgument s
    | some t =>
      if !s.inService t then refuse .notEligible s
      else if Config.maxLoad ≤ s.load t then refuse .full s
      else if rd.serving = some t then answer (forceReply r rd 0) s
      else
        let b := beginBridge r t .forced s
        (forceReply r rd (if b.1 then 1 else 2), b.2)

/-- Force Handoff: a selector and an antenna, five bytes (R67). -/
def ownForceHandoff (payload : List Byte) (s : State) : Reply × State :=
  match payload with
  | [k, a, b, c, antenna] =>
    match Selector.ofBytes k a b c with
    | none => refuse .badArgument s
    | some sel =>
      match s.resolve sel with
      | .error why => refuse why s
      | .ok r => forceRecord r antenna s
  | _ => refuse .badArgument s

/-- Serve a Force Handoff packet. -/
def serveForceHandoff (o : Origin) (payload : List Byte) : State → State :=
  serve o .fullOnly (ownForceHandoff payload)

/-- FORCE_HANDOFF (R67). -/
def execForceHandoff (o : Origin) (payload : List Byte) (s : State) : Out := .next (serveForceHandoff o payload s)

/-! ### Freeze (R51 to R53) -/

/-- The duration of a Freeze On, clamped to 1 to 15000 (R51). -/
def clampFreeze (d : Half) : Nat := max 1 (min d.toNat Config.maxFreeze)

/-- The answer of Freeze: flags and remaining count as the command has left them (Table 12-7). -/
def freezeReply (s : State) : Reply × State := (.done ([freezeFlags s.freeze] ++ natBytes s.freeze.remaining), s)

/-- The Freeze command is taken as a request: from the secondary lane under Secondary Authority None (R52). -/
def asRequest (o : Origin) (s : State) : Bool := o.lane = .secondary ∧ s.params.authority = .noAuthority

/-- The detail of Freeze Requested: the clamped duration over 64, at most 255 (R52). -/
def requestDetail (n : Nat) : Byte := byteOf (min (n / 64) 255)

/-- Freeze On: the freeze is active with the clamped duration (R51); as a request it sets Freeze Request and posts
Freeze Requested (R52). -/
def ownFreezeOn (o : Origin) (d : Half) (s : State) : Reply × State :=
  let n := clampFreeze d
  if asRequest o s then
    freezeReply (State.post { s with freeze := { s.freeze with requested := true } }
      .notice .freezeRequested none none none (requestDetail n))
  else freezeReply { s with freeze := ⟨true, n, false⟩ }

/-- Freeze Off: no freeze and no request (R51); as a request it clears Freeze Request alone (R52). -/
def ownFreezeOff (o : Origin) (s : State) : Reply × State :=
  if asRequest o s then freezeReply { s with freeze := { s.freeze with requested := false } }
  else freezeReply { s with freeze := Freeze.clear }

/-- Serve a Freeze packet of action On; the authority decides what it does, not whether it is taken (R52). -/
def serveFreezeOn (o : Origin) (d : Half) : State → State := serve o .anyLane (ownFreezeOn o d)

/-- Serve a Freeze packet of action Off; its duration is not read (R172). -/
def serveFreezeOff (o : Origin) (_d : Half) : State → State := serve o .anyLane (ownFreezeOff o)

/-- Serve a Freeze packet: three bytes, action and duration; another length or an action above 1 is refused with Bad
Argument (R172, Table 12-7, log 10). -/
def serveFreeze (o : Origin) (payload : List Byte) : State → State :=
  match payload with
  | [action, hi, lo] =>
    if action = 0 then serveFreezeOff o (half hi lo)
    else if action = 1 then serveFreezeOn o (half hi lo)
    else serve o .anyLane (refuse .badArgument)
  | _ => serve o .anyLane (refuse .badArgument)

/-- FREEZE_ON (R51). -/
def execFreezeOn (o : Origin) (d : Half) (s : State) : Out := .next (serveFreezeOn o d s)

/-- FREEZE_OFF (R51). -/
def execFreezeOff (o : Origin) (d : Half) (s : State) : Out := .next (serveFreezeOff o d s)

/-- The freeze countdown at a cycle start: an active freeze's count is lowered, and at 0 the freeze ends with Freeze
Expired; Freeze Request stays as it was (R52, R53). -/
def freezeTick (s : State) : State :=
  if s.freeze.active then
    if s.freeze.remaining ≤ 1 then
      State.post { s with freeze := ⟨false, 0, s.freeze.requested⟩ } .notice .freezeExpired none none none 0
    else { s with freeze := { s.freeze with remaining := s.freeze.remaining - 1 } }
  else s

/-- FREEZE_EXPIRED: the count that brings the freeze count to 0 (R53, log 5). -/
def execFreezeExpired (s : State) : Out :=
  .next (if s.freeze.active && s.freeze.remaining ≤ 1 then freezeTick s else s)

end Sys2Proof.Machine
end

