-- ==== Sys2Proof/Machine/Tables.lean ====
section
/-! DEFINITION. Table loading (Chapter 10): the translate tables and the Neighbour Matrix with its window. -/

namespace Sys2Proof.Machine

/-! ### Translate tables (R158 to R160) -/

/-- Entry i of a class's table. -/
def State.level (s : State) (c : ClassId) (i : Fin 256) : Level := (s.tables.get c).get i

/-- Write values into consecutive entries of a table from an index; values beyond index 255 are ignored, a value above
127 is stored as 127 (R159). -/
def writeLevels (t : Vector Level 256) (i : Nat) : List Byte → Vector Level 256
  | [] => t
  | v :: vs => if h : i < 256 then writeLevels (vset t ⟨i, h⟩ (levelOf v)) (i + 1) vs else t

/-- How many of n entries from an index lie within the table (R159, R160). -/
def entriesFrom (start n : Nat) : Nat := min n (256 - start)

/-- Load Translate: 3 to 58 bytes of payload, a class, a start index and 1 to 56 values (R159). -/
def ownLoadTranslate (payload : List Byte) (s : State) : Reply × State :=
  match payload with
  | c :: start :: v :: vs =>
    match classOf c with
    | none => refuse .badArgument s
    | some k =>
      if Config.maxCommandPayload < payload.length then refuse .badArgument s
      else
        (.done [byteOf (entriesFrom start.toNat (vs.length + 1))],
          { s with tables := vset s.tables k (writeLevels (s.tables.get k) start.toNat (v :: vs)) })
  | _ => refuse .badArgument s

/-- Serve a Load Translate packet. -/
def serveLoadTranslate (o : Origin) (payload : List Byte) : State → State :=
  serve o .primaryOnly (ownLoadTranslate payload)

/-- LOAD_TRANSLATE (R159). -/
def execLoadTranslate (o : Origin) (payload : List Byte) (s : State) : Out := .next (serveLoadTranslate o payload s)

/-- A count brought into 1 to 54 (R160, R164). -/
def readCount (b : Byte) : Nat := max 1 (min b.toNat Config.maxResponsePayload)

/-- Read Translate: a class, a start index and a count; the levels from the start index upward, not beyond index 255
(R160). -/
def ownReadTranslate (payload : List Byte) (s : State) : Reply × State :=
  match payload with
  | [c, start, n] =>
    match classOf c with
    | none => refuse .badArgument s
    | some k =>
      let levels := ((s.tables.get k).toList.drop start.toNat).take (readCount n)
      answer (.done (levels.map fun l => byteOf l.val)) s
  | _ => refuse .badArgument s

/-- Serve a Read Translate packet. -/
def serveReadTranslate (o : Origin) (payload : List Byte) : State → State :=
  serve o .primaryOnly (ownReadTranslate payload)

/-- READ_TRANSLATE (R160). -/
def execReadTranslate (o : Origin) (payload : List Byte) (s : State) : Out := .next (serveReadTranslate o payload s)

/-! ### The window and its pointer (R161 to R164) -/

/-- The entry at a cell. -/
def State.cell (s : State) (r c : Fin 24) : Neighbour := (s.matrix.get r).get c

/-- Store an entry at a cell. -/
def State.setCell (s : State) (r c : Fin 24) (n : Neighbour) : State :=
  { s with matrix := vset s.matrix r (vset (s.matrix.get r) c n) }

/-- The next number after x, of 0 to 23; used only below a bound of 23. -/
def nextIx (x : Fin 24) : Fin 24 := x + 1

/-- The pointer's next cell in the visiting order, and whether it wrapped from the last cell to the first (R162). -/
def Window.advance (w : Window) : Window × Bool :=
  match w.mode with
  | .columnMajor =>
    if w.row ≠ w.re then ({ w with row := nextIx w.row }, false)
    else if w.col ≠ w.ce then ({ w with row := w.rs, col := nextIx w.col }, false)
    else ({ w with row := w.rs, col := w.cs }, true)
  | .rowMajor | .mirrored =>
    if w.col ≠ w.ce then ({ w with col := nextIx w.col }, false)
    else if w.row ≠ w.re then ({ w with row := nextIx w.row, col := w.cs }, false)
    else ({ w with row := w.rs, col := w.cs }, true)

/-- Advance the pointer one cell; the Bool says whether it wrapped. -/
def State.advance (s : State) : State × Bool :=
  let t := s.window.advance
  ({ s with window := t.1 }, t.2)

/-- Set Window: a mode code above 2 is refused with Bad Argument, bounds out of order or above 23 with Bad Window; the
pointer goes to the first cell (R162). -/
def ownSetWindow (payload : List Byte) (s : State) : Reply × State :=
  match payload with
  | [rs, re, cs, ce, mode] =>
    match OrderMode.ofByte mode with
    | none => refuse .badArgument s
    | some m =>
      match portOf rs, portOf re, portOf cs, portOf ce with
      | some rs, some re, some cs, some ce =>
        if rs ≤ re ∧ cs ≤ ce then (.done [], { s with window := ⟨rs, re, cs, ce, m, rs, cs⟩ })
        else refuse .badWindow s
      | _, _, _, _ => refuse .badWindow s
  | _ => refuse .badArgument s

/-- Serve a Set Window packet. -/
def serveSetWindow (o : Origin) (payload : List Byte) : State → State := serve o .primaryOnly (ownSetWindow payload)

/-- SET_WINDOW (R162). -/
def execSetWindow (o : Origin) (payload : List Byte) (s : State) : Out := .next (serveSetWindow o payload s)

/-- One byte of a Write Window: the entry at the pointer's cell, in Mirrored at the transposed cell too, and the pointer
advanced. The Bool says whether it wrapped (R163). -/
def writeCell (s : State) (b : Byte) : State × Bool :=
  let w := s.window
  let n := Neighbour.ofByte b
  let s₁ := s.setCell w.row w.col n
  let s₂ := if w.mode = .mirrored then s₁.setCell w.col w.row n else s₁
  s₂.advance

/-- The bytes of a Write Window in turn; the Bool says whether the pointer wrapped at least once (R163). -/
def writeCells : List Byte → State → State × Bool
  | [], s => (s, false)
  | b :: bs, s =>
    let t := writeCell s b
    let u := writeCells bs t.1
    (u.1, t.2 || u.2)

/-- Write Window: 1 to 58 entry bytes; the answer is the count, the wrap flag and the pointer (R163). -/
def ownWriteWindow (payload : List Byte) (s : State) : Reply × State :=
  if payload = [] ∨ Config.maxCommandPayload < payload.length then refuse .badArgument s
  else
    let t := writeCells payload s
    (.done [byteOf payload.length, bit t.2, byteOf t.1.window.row.val, byteOf t.1.window.col.val], t.1)

/-- Serve a Write Window packet. -/
def serveWriteWindow (o : Origin) (payload : List Byte) : State → State :=
  serve o .primaryOnly (ownWriteWindow payload)

/-- WRITE_WINDOW (R163). -/
def execWriteWindow (o : Origin) (payload : List Byte) (s : State) : Out := .next (serveWriteWindow o payload s)

/-- n entries read from the pointer, which advances past each (R164). -/
def readCells : Nat → State → List Byte × State
  | 0, s => ([], s)
  | n + 1, s =>
    let t := readCells n s.advance.1
    ((s.cell s.window.row s.window.col).byte :: t.1, t.2)

/-- Read Window: a count; the entries from the pointer (R164). -/
def ownReadWindow (payload : List Byte) (s : State) : Reply × State :=
  match payload with
  | [n] =>
    let t := readCells (readCount n) s
    (.done t.1, t.2)
  | _ => refuse .badArgument s

/-- Serve a Read Window packet. -/
def serveReadWindow (o : Origin) (payload : List Byte) : State → State := serve o .primaryOnly (ownReadWindow payload)

/-- READ_WINDOW (R164). -/
def execReadWindow (o : Origin) (payload : List Byte) (s : State) : Out := .next (serveReadWindow o payload s)

end Sys2Proof.Machine
end

