-- ==== Sys2Proof/Machine/Parser.lean ====
section
/-! DEFINITION. Parsing of downstream control blocks (R132, R133, R135, R136) and the dispatch of commands by their code
(R138, Table 9-1). -/

namespace Sys2Proof.Machine

/-- Dispatch a packet that passed R136 by its command code (Table 9-1); a code the table does not list is refused with
Unknown Command, before authority is judged (R138). -/
def dispatchPacket (o : Origin) (code : Byte) (payload : List Byte) : State → State :=
  match code.toNat with
  | 0x01 => serveEcho o payload
  | 0x02 => serveIdentify o payload
  | 0x03 => serveReadStatus o payload
  | 0x04 => serveConfigure o payload
  | 0x05 => serveReadParameters o payload
  | 0x06 => serveSetPartition o payload
  | 0x07 => serveRestart o payload
  | 0x08 => serveClearShed o payload
  | 0x09 => serveCounterExchangeAdd o payload
  | 0x10 => servePortControl o payload
  | 0x20 => serveLoadTranslate o payload
  | 0x21 => serveReadTranslate o payload
  | 0x22 => serveSetWindow o payload
  | 0x23 => serveWriteWindow o payload
  | 0x24 => serveReadWindow o payload
  | 0x30 => serveFetchRegistrations o payload
  | 0x31 => serveAdmit o payload
  | 0x32 => serveDeny o payload
  | 0x33 => serveRelease o payload
  | 0x34 => serveReadRecord o payload
  | 0x40 => serveForceHandoff o payload
  | 0x41 => serveFreeze o payload
  | 0x50 => serveFetchEvents o payload
  | _ => serve o .anyLane (refuse .unknownCommand)

/-- A tagless error report (R139). -/
def tagless (why : Reason) : Response := ⟨resultTagless why, 0, []⟩

/-- An error report that carries a packet's tag (R139). -/
def tagged (why : Reason) (tag : Byte) : Response := ⟨resultError why, tag, []⟩

/-- A packet with a payload: the CRC is made over the header as received and the payload (R136). `rest` is what follows
the header in the block. -/
def takePayload (l : CtlLane) (hdr : List Byte) (code tag : Byte) (corrected : Bool) (n : Nat) (rest : List Byte)
    (s : State) : State :=
  let payload := rest.take n
  if (rest.drop n).take 2 = halfBytes (crc16 (hdr ++ payload)) then
    dispatchPacket ⟨l, tag, corrected⟩ code payload s
  else (s.bumpCtl .checksumFailures).report l (tagged .checksum tag)

/-- Parse the bytes of a control block from a position on, one packet at a time: filler is skipped, Truncated, Header
Broken and Bad Length end the block, a failed checksum costs its packet alone (R133, R135, R136). Each turn uses at
least one byte, so the length of the block is fuel enough. -/
def parseBlock (l : CtlLane) : Nat → List Byte → State → State
  | 0, _, s => s
  | _ + 1, [], s => s
  | fuel + 1, b0 :: rest, s =>
    if b0 = 0 then parseBlock l fuel rest s
    else
      match rest with
      | b1 :: b2 :: chk :: rest =>
        match checkHeader b0 b1 b2 chk with
        | .broken => (s.bumpCtl .headerFailures).report l (tagless .headerBroken)
        | .use code tag len corrected =>
          let s := if corrected then s.bumpCtl .headerCorrections else s
          let n := len.toNat
          if n = 0 then parseBlock l fuel rest (dispatchPacket ⟨l, tag, corrected⟩ code [] s)
          else if rest.length < n + 2 then s.report l (tagged .badLength tag)
          else parseBlock l fuel (rest.drop (n + 2)) (takePayload l [b0, b1, b2, chk] code tag corrected n rest s)
      | _ => s.report l (tagless .truncated)

/-- Retire the secondary lane: its queue emptied unsent, Hold and Shed clear, Shed Tag 0 (R132). -/
def retireSecondary (s : State) : State := { s with secondary := ControlLane.empty }

/-- The control region size is taken at an arrival: found 1 after 2, the secondary lane is retired (R132). -/
def takeControlSize (s : State) : State :=
  let s' := if s.partition.control = 1 ∧ s.parsedControl = 2 then retireSecondary s else s
  { s' with parsedControl := s.partition.control }

/-- The control blocks of an arrival: lane 63's, then lane 62's when C was 2 at the arrival (R133). -/
def parseControl (control : Nat) (block63 block62 : List Byte) (s : State) : State :=
  let s₁ := parseBlock .primary Config.controlBlockBytes block63 s
  if control = 2 then parseBlock .secondary Config.controlBlockBytes block62 s₁ else s₁

end Sys2Proof.Machine
end

