-- ==== Sys2Proof/Machine/Voice.lean ====
section
/-! DEFINITION. The voice path of the Matrix Link Interface (Chapter 5): the hold write, the upstream transmit with the
frame it sends, and the distribution of downstream voice. -/

namespace Sys2Proof.Machine

/-! ### Hold write (R88, R90) -/

/-- A request is carried out when its lane is bound to its record and the record holds its headset ID (R88). -/
def State.holdValid (s : State) (q : HoldRequest) : Bool :=
  s.binding q.lane = some q.index ∧ (s.record q.index).id = some q.id

/-- The hold write: the block is stored and fresh is set; a block not yet sent is replaced and counted (R90). -/
def writeHold (q : HoldRequest) (s : State) : State :=
  let h := s.holdOf q.lane
  let s' := s.setHold q.lane { h with block := q.block, fresh := true }
  if h.fresh then s'.bumpLane q.lane .uplinkOverwrites else s'

/-- Take one request: carried out, or dropped without a count (R88). -/
def takeHoldRequest (s : State) (q : HoldRequest) : State := if s.holdValid q then writeHold q s else s

/-- HOLD_WRITE: the oldest request handed over is taken; without one nothing is due (R88, R90). -/
def execHoldWrite (s : State) : Out :=
  match s.holdRequests with
  | [] => .next s
  | q :: qs => .next (takeHoldRequest { s with holdRequests := qs } q)

/-- Every request handed over is taken, oldest first (R95). -/
def takeHoldRequests (s : State) : State :=
  s.holdRequests.foldl takeHoldRequest { s with holdRequests := [] }

/-! ### Regions of the Lane Map (R78) -/

/-- The lane lies in the control region: the last C lanes. -/
def State.isControl (s : State) (n : LaneId) : Bool := 64 - s.partition.control ≤ n.val

/-- The control lane a lane of the control region is: lane 63 the primary, lane 62 the secondary. -/
def ctlLaneOf (n : LaneId) : CtlLane := if n = 63 then .primary else .secondary

/-! ### Upstream transmit (R92, R93) -/

/-- What the transmit sends on one lane. -/
structure LaneSend where
  status : LaneStatus
  block : Block
  deriving DecidableEq, Repr

/-- A bound lane at the transmit: Fresh, Concealed or Silence from its hold (R93). -/
def sendBound (n : LaneId) (s : State) : LaneSend × State :=
  let h := s.holdOf n
  if h.fresh then (⟨.fresh, h.block⟩, s.setHold n { h with fresh := false, conceal := 0 })
  else if h.conceal < s.params.concealLimit then
    (⟨.concealed, h.block⟩, (s.setHold n { h with conceal := h.conceal + 1 }).bumpLane n .concealedBlocks)
  else (⟨.silence, zeroBlock⟩, s.bumpLane n .silenceBlocks)

/-- One lane at the transmit: the control block in the control region, Idle for the All-Call lane and for an unbound
lane, the hold's block for a bound lane (R92). -/
def sendLane (n : LaneId) (s : State) : LaneSend × State :=
  if s.isControl n then
    let b := buildControl (ctlLaneOf n) s
    (⟨.fresh, b.1⟩, b.2)
  else if s.params.allCall = some n then (⟨.idle, zeroBlock⟩, s)
  else
    match s.binding n with
    | none => (⟨.idle, zeroBlock⟩, s)
    | some _ => sendBound n s

/-- The lanes of a list, sent one after the other. -/
def sendLanes : List LaneId → State → List LaneSend × State
  | [], s => ([], s)
  | n :: ns, s =>
    let x := sendLane n s
    let xs := sendLanes ns x.2
    (x.1 :: xs.1, xs.2)

/-- Byte k of the lane status field: lanes 4k to 4k + 3, two bits each from bit 0 (Table 12-4). -/
def statusByte (sends : List LaneSend) (k : Nat) : Byte :=
  let c := fun j => ((sends[4 * k + j]?).map (·.status.code)).getD 0
  c 0 ||| (c 1 <<< 2) ||| (c 2 <<< 4) ||| (c 3 <<< 6)

/-- The flags byte of an upstream matrix frame: clock state in bits 0-1, bit 2 set when C is 2 (Table 12-4). -/
def upstreamFlags (s : State) : Byte := s.timer.clock.code ||| (bit (s.partition.control = 2) <<< 2)

/-- An upstream matrix frame as bytes (Table 12-4, R171). -/
def upstreamBytes (cycle : CycleNo) (flags : Byte) (sends : List LaneSend) : List Byte :=
  halfBytes cycle ++ [flags] ++ (List.range 16).map (statusByte sends) ++ sends.flatMap (·.block.toList)

/-- The upstream transmit: one frame composed from the Lane Map, the holds and the control lanes as they stand, and sent
on the matrix link (R92). -/
def transmit (s : State) : State :=
  let x := sendLanes (List.finRange 64) s
  { x.2 with upstreamOut := upstreamBytes s.timer.cycle (upstreamFlags s) x.1 }

/-! ### Downstream matrix frame (Table 12-4) -/

/-- Byte k of a frame. -/
def byteAt (frame : List Byte) (k : Nat) : Byte := frame.getD k 0

/-- The cycle number of a matrix frame. -/
def frameCycle (frame : List Byte) : CycleNo := half (byteAt frame 0) (byteAt frame 1)

/-- The status code of lane n. -/
def frameStatus (frame : List Byte) (n : LaneId) : Byte :=
  (byteAt frame (3 + n.val / 4) >>> (2 * (n.val % 4))) &&& 3

/-- The lane arrives with status Voice; every other code is read as Idle (R96, R172). -/
def frameIsVoice (frame : List Byte) (n : LaneId) : Bool := frameStatus frame n = 1

/-- The block of lane n as bytes. -/
def frameBlock (frame : List Byte) (n : LaneId) : List Byte := (frame.drop (19 + 64 * n.val)).take 64

/-! ### Distribution (R96 to R99) -/

/-- Place a Voice record in an assembly: in place of one for the same ID, else while fewer than 12 are held. The Bool
says whether a block was lost, replaced or not placed (R98, log 15). -/
def placeVoice (v : VoiceRecord) (held : List VoiceRecord) : List VoiceRecord × Bool :=
  if held.any (·.id = v.id) then (held.filter (·.id ≠ v.id) ++ [v], true)
  else if held.length < Config.maxVoice then (held ++ [v], false)
  else (held, true)

/-- Place a Voice record at port p, counting a Downlink Overwrite of its lane when a block was lost (R97, R98). -/
def placeAt (p : PortId) (v : VoiceRecord) (s : State) : State :=
  let x := placeVoice v (s.port p).voice
  let s' := s.modPort p fun q => { q with voice := x.1 }
  if x.2 then s'.bumpLane v.lane .downlinkOverwrites else s'

/-- Place a Voice record at a port that may be absent. -/
def placeAt? (p : Option PortId) (v : VoiceRecord) (s : State) : State :=
  match p with
  | none => s
  | some p => placeAt p v s

/-- A bound lane's block: at the serving port in ACTIVE and BRIDGING, at the target port in BRIDGING and ATTACHING when
the target has accepted (R97). -/
def distributeBound (r : RecordIx) (n : LaneId) (b : Block) (s : State) : State :=
  let rd := s.record r
  let v : VoiceRecord := ⟨rd.headset, n, b⟩
  let s₁ := if rd.state = .active ∨ rd.state = .bridging then placeAt? rd.serving v s else s
  if (rd.state = .bridging ∨ rd.state = .attaching) ∧ rd.accepted then placeAt? rd.target v s₁ else s₁

/-- The All-Call lane's block: in the assembly of every ACTIVE port, replacing without a count (R99). -/
def distributeAllCall (b : Block) (s : State) : State :=
  { s with ports := vmap (fun p => if p.state = .active then { p with allCall := some b } else p) s.ports }

/-- One lane of an arrival (R96). -/
def distributeLane (frame : List Byte) (s : State) (n : LaneId) : State :=
  if s.isControl n || !frameIsVoice frame n then s
  else if s.params.allCall = some n then distributeAllCall (blockOf (frameBlock frame n)) s
  else
    match s.binding n with
    | none => s
    | some r => distributeBound r n (blockOf (frameBlock frame n)) s

/-- The distribution of an arrival's voice, lane by lane (R96). DESIGN CHOICE: in ascending lane number, which decides
which block finds no room when an assembly fills up (R98, log 25). -/
def distribute (frame : List Byte) (s : State) : State := (List.finRange 64).foldl (distributeLane frame) s

end Sys2Proof.Machine
end

