-- ==== Sys2Proof/Machine/Timing.lean ====
section
/-! DEFINITION. The Cycle Timer (Chapter 7): the cycle start with the events every block takes at it, and the commands
POWER_ON_RESET, DOWNSTREAM_ARRIVAL, LOCAL_CYCLE_START and HOLDOVER_WATCH_EXPIRY. -/

namespace Sys2Proof.Machine

/-! ### The parts of a cycle start (R124, Table 7-1) -/

/-- The clock state at a cycle start by the Clock Source read there (R130). -/
def clockAtStart (source : ClockSource) (c : ClockState) : ClockState :=
  match source, c with
  | .localSource, _ => .localClock
  | .follow, .localClock => .holdover
  | .follow, .follow => .follow
  | .follow, .holdover => .holdover

/-- The cycle start that begins cycle n at a time: the number, the time, and the clock state by Clock Source
(R124, R130). -/
def beginCycle (n : CycleNo) (time : Nat) (s : State) : State :=
  { s with
    timer := { s.timer with
      clock := clockAtStart s.params.clockSource s.timer.clock
      cycle := n
      lastStart := time } }

/-- The close for the cycle just ended is scheduled by the Gather Delay in force, and every port's downlink send is
placed anew (R6, R121, R124, R125). -/
def scheduleEvents (s : State) : State :=
  { s with
    pendingClose := some ⟨s.timer.cycle - 1, s.timer.lastStart + s.params.gatherDelay⟩
    sendDue := Vector.replicate 24 true }

/-- The countdowns taken at a cycle start: freeze, registration aging, Deny List (R53, R74, R76). -/
def countdowns (s : State) : State := countDenials (ageRegistrations (freezeTick s))

/-- The transmit of a cycle start, with the waiting hold writes taken before it or not (R92, R95, log 7). DESIGN CHOICE:
all of them are taken before it or none is (log 30). -/
def transmitAt (order : StartOrder) (s : State) : State :=
  transmit (if order.writesFirst then takeHoldRequests s else s)

/-- A cycle start up to its transmit: the close still pending is made under the old number, the cycle begins, the
countdowns are taken and the events placed (R6, R124, R125, log 7). DESIGN CHOICE: what that close hands over or makes due
waits until the start is done: its registration intake comes after the aging and the Deny List count (R74, R85, log 33),
its isolations after both too (R116, log 6). -/
def startCycle (n : CycleNo) (time : Nat) (s : State) : State :=
  scheduleEvents (countdowns (beginCycle n time (makePendingClose s)))

/-- A cycle start whose transmit is taken before the pending close (R95, log 7). -/
def startTransmitted (order : StartOrder) (n : CycleNo) (time : Nat) (s : State) : State :=
  scheduleEvents (countdowns (makePendingClose (transmitAt order (beginCycle n time s))))

/-- A cycle start with its transmit; `meanwhile` is what the cause of the start does before a transmit that is not taken
first (R124, log 7). -/
def cycleStart (order : StartOrder) (n : CycleNo) (time : Nat) (meanwhile : State → State) (s : State) : State :=
  if order.transmitFirst then meanwhile (startTransmitted order n time s)
  else transmitAt order (meanwhile (startCycle n time s))

/-! ### POWER_ON_RESET (R123) -/

/-- The first cycle start, made at once on the release of the reset input: it begins cycle 0 without advancing the
number (R123). -/
def firstCycleStart (s : State) : State := transmit (startCycle 0 0 s)

/-- POWER_ON_RESET: every block at its power-on values, and the first cycle start made (R123, log 4). -/
def execPowerOnReset (s : State) : Out := .next { firstCycleStart State.powerOn with pending := s.pending }

/-! ### LOCAL_CYCLE_START (R127, R129) -/

/-- A local cycle start, 16 sixteenths after the latest cycle start (R127, R129). -/
def localStart (order : StartOrder) (s : State) : State :=
  cycleStart order (s.timer.cycle + 1) (s.timer.lastStart + 16) id s

/-- LOCAL_CYCLE_START: in Holdover and Local a local cycle start; in Follow none is due (R126, R127, R129). -/
def execLocalCycleStart (order : StartOrder) (s : State) : Out :=
  match s.timer.clock with
  | .follow => .next s
  | .holdover => .next (localStart order s)
  | .localClock => .next (localStart order s)

/-! ### HOLDOVER_WATCH_EXPIRY (R126) -/

/-- When the holdover watch expires: 20 sixteenths after the later of the latest cycle start and the latest arrival
(R126). -/
def watchTime (t : Timer) : Nat := max t.lastStart t.lastArrival + 20

/-- Clock Holdover is posted with the number of the cycle the start begins, unless the start found Clock Source Local
(R126, R130). -/
def postHoldover (s : State) : State :=
  if s.timer.clock = .holdover then s.post .alarm .clockHoldover none none none 0 else s

/-- HOLDOVER_WATCH_EXPIRY: in Follow the timer enters Holdover, makes a cycle start at once and posts Clock Holdover; in
Holdover and Local no watch runs (R126, R129, R130). -/
def execHoldoverWatchExpiry (order : StartOrder) (s : State) : Out :=
  match s.timer.clock with
  | .follow =>
    .next (cycleStart order (s.timer.cycle + 1) (watchTime s.timer) postHoldover
      { s with timer := { s.timer with clock := .holdover } })
  | .holdover => .next s
  | .localClock => .next s

/-! ### DOWNSTREAM_ARRIVAL (R96, R126 to R129, R132, R133) -/

/-- A port at a renumbering to cycle n: its Gathering cycle is n - 1 and its slots are empty (R128). -/
def Port.renumber (n : CycleNo) (p : Port) : Port :=
  { p with gathering := n - 1, gatherSlot := none, earlySlot := none }

/-- The part renumbers to cycle n: every port follows, and Cycle Renumbered is posted with the low byte of the number
the part expected (R128). -/
def renumber (n expected : CycleNo) (s : State) : State :=
  State.post { s with ports := vmap (Port.renumber n) s.ports }
    .warning .cycleRenumbered none none none (expected.setWidth 8)

/-- The timer's return from Holdover to Follow, with the detail 1 when the arrival is a cycle start (R127). -/
def restoreFollow (started : Bool) (s : State) : State :=
  State.post { s with timer := { s.timer with clock := .follow } }
    .notice .clockRestored none none none (bit started)

/-- The Matrix Link Interface's and the Control Lane Interface's part of an arrival: the voice distributed, then the
control blocks parsed under the C in force at the arrival (R96, R132, R133, log 8). -/
def takeFrame (frame : List Byte) (s : State) : State :=
  let control := s.partition.control
  parseControl control (frameBlock frame 63) (frameBlock frame 62) (takeControlSize (distribute frame s))

/-- An arrival that is a cycle start: an ordinary one when its stamp is the next number, else a renumbering. Its frame is
taken before or after the transmit, in the order the operand gives (R126, R128, R144, logs 7 and 8). DESIGN CHOICE: the
stamp is compared by the clock state the arrival finds, so also at a start that reads Clock Source Local (R130,
log 27). DESIGN CHOICE: where the frame is taken before the transmit, its commands come before the hold writes that the
start's own close has requested (R95, log 29), and before or after the transmit they come before that close's registration
intake and isolations (R85, log 33; R116, log 6). -/
def arriveStarting (order : StartOrder) (time : Nat) (frame : List Byte) (s : State) : State :=
  let n := frameCycle frame
  let expected := s.timer.cycle + 1
  let renumbered := fun s => if n = expected then s else renumber n expected s
  let first := order.transmitFirst && n = expected
  let start := cycleStart { order with transmitFirst := first } n time
  if order.commandsFirst && !first then start (fun s => takeFrame frame (renumbered s)) s
  else takeFrame frame (start renumbered s)

/-- An arrival, by the clock state and by how long ago the latest cycle start was (R126, R127, R129). DESIGN CHOICE: where
the arrival is no cycle start, the timer takes it before the frame is distributed and parsed (log 31). -/
def arrive (after : Nat) (order : StartOrder) (frame : List Byte) (s : State) : State :=
  let time := s.timer.lastStart + after
  let s' := { s with timer := { s.timer with lastArrival := time } }
  match s.timer.clock with
  | .follow => arriveStarting order time frame s'
  | .holdover =>
    if 8 ≤ after then arriveStarting order time frame (restoreFollow true s')
    else takeFrame frame (restoreFollow false s')
  | .localClock => takeFrame frame s'

/-- DOWNSTREAM_ARRIVAL of a matrix frame, `after` sixteenths after the latest cycle start; bytes that are no matrix frame
are a fault (R96, R126 to R129, log 18). -/
def execDownstreamArrival (after : Nat) (order : StartOrder) (frame : List Byte) (s : State) : Out :=
  if frame.length = Config.matrixFrameBytes then .next (arrive after order frame s) else .fault .notAMatrixFrame

end Sys2Proof.Machine
end

