-- ==== Sys2Proof/Machine/Dispatch.lean ====
section
/-! DEFINITION. The dispatch: one arm per command, each one direct call of the command's meaning. -/

namespace Sys2Proof.Machine

def exec (i : Instr) (s : State) : Host.Outcome State Fault Refusal :=
  match i with
  | .powerOnReset => Sys2Proof.Machine.execPowerOnReset s
  | .downstreamArrival after order frame => Sys2Proof.Machine.execDownstreamArrival after order frame s
  | .localCycleStart order => Sys2Proof.Machine.execLocalCycleStart order s
  | .holdoverWatchExpiry order => Sys2Proof.Machine.execHoldoverWatchExpiry order s
  | .freezeExpired => Sys2Proof.Machine.execFreezeExpired s
  | .registrationAgeOut => Sys2Proof.Machine.execRegistrationAgeOut s
  | .denyListingExpiry id => Sys2Proof.Machine.execDenyListingExpiry id s
  | .downlinkSend port => Sys2Proof.Machine.execDownlinkSend port s
  | .cycleClose => Sys2Proof.Machine.execCycleClose s
  | .linkLost rd => Sys2Proof.Machine.execLinkLost rd s
  | .holdWrite => Sys2Proof.Machine.execHoldWrite s
  | .bridgeTimeout rd => Sys2Proof.Machine.execBridgeTimeout rd s
  | .attachTimeout rd => Sys2Proof.Machine.execAttachTimeout rd s
  | .headsetDropped rd => Sys2Proof.Machine.execHeadsetDropped rd s
  | .barTimerExpiry rd antenna => Sys2Proof.Machine.execBarTimerExpiry rd antenna s
  | .portIsolated port => Sys2Proof.Machine.execPortIsolated port s
  | .registrationIntake => Sys2Proof.Machine.execRegistrationIntake s
  | .uplinkFrame port bytes => Sys2Proof.Machine.execUplinkFrame port bytes s
  | .echo o payload => Sys2Proof.Machine.execEcho o payload s
  | .identify o payload => Sys2Proof.Machine.execIdentify o payload s
  | .readStatus o payload => Sys2Proof.Machine.execReadStatus o payload s
  | .configure o payload => Sys2Proof.Machine.execConfigure o payload s
  | .readParameters o payload => Sys2Proof.Machine.execReadParameters o payload s
  | .setPartition o payload => Sys2Proof.Machine.execSetPartition o payload s
  | .restart o payload => Sys2Proof.Machine.execRestart o payload s
  | .clearShed o payload => Sys2Proof.Machine.execClearShed o payload s
  | .counterExchangeAdd o payload => Sys2Proof.Machine.execCounterExchangeAdd o payload s
  | .activate o port cls => Sys2Proof.Machine.execActivate o port cls s
  | .makeDormant o port cls => Sys2Proof.Machine.execMakeDormant o port cls s
  | .turnOff o port cls => Sys2Proof.Machine.execTurnOff o port cls s
  | .portReset o port cls => Sys2Proof.Machine.execPortReset o port cls s
  | .setClass o port cls => Sys2Proof.Machine.execSetClass o port cls s
  | .loadTranslate o payload => Sys2Proof.Machine.execLoadTranslate o payload s
  | .readTranslate o payload => Sys2Proof.Machine.execReadTranslate o payload s
  | .setWindow o payload => Sys2Proof.Machine.execSetWindow o payload s
  | .writeWindow o payload => Sys2Proof.Machine.execWriteWindow o payload s
  | .readWindow o payload => Sys2Proof.Machine.execReadWindow o payload s
  | .fetchRegistrations o payload => Sys2Proof.Machine.execFetchRegistrations o payload s
  | .admitHeadset o payload => Sys2Proof.Machine.execAdmit o payload s
  | .deny o payload => Sys2Proof.Machine.execDeny o payload s
  | .release o payload => Sys2Proof.Machine.execRelease o payload s
  | .readRecord o payload => Sys2Proof.Machine.execReadRecord o payload s
  | .forceHandoff o payload => Sys2Proof.Machine.execForceHandoff o payload s
  | .freezeOn o duration => Sys2Proof.Machine.execFreezeOn o duration s
  | .freezeOff o duration => Sys2Proof.Machine.execFreezeOff o duration s
  | .fetchEvents o payload => Sys2Proof.Machine.execFetchEvents o payload s

end Sys2Proof.Machine
end

