-- ==== Sys2Proof/Safety.lean ====
section
/-! DEFINITION. What counts as a safe state: the laws the manual says the part keeps at all times, block by block; and
the vocabulary of claims about command packets (Tables 8-3 and 9-1, R134 to R137). -/

namespace Sys2Proof.Machine

/-! ### Roaming records (R1 to R5, R34, R64, R78) -/

/-- The fields of a record that are present in its state (R1, Table 1-3; FREE values: R2). -/
def Record.shapeOk (rd : Record) : Prop :=
  match rd.state with
  | .free => rd = Record.free
  | .searching =>
    rd.id.isSome ∧ rd.lane.isSome ∧ rd.serving = none ∧ rd.target = none ∧ rd.accepted = false ∧ rd.kind = none ∧
      rd.dwellTarget = none
  | .attaching =>
    rd.id.isSome ∧ rd.lane.isSome ∧ rd.serving = none ∧ rd.target.isSome ∧ rd.kind = none ∧ rd.dwellTarget = none
  | .active =>
    rd.id.isSome ∧ rd.lane.isSome ∧ rd.serving.isSome ∧ rd.target = none ∧ rd.accepted = false ∧ rd.kind = none
  | .bridging =>
    rd.id.isSome ∧ rd.lane.isSome ∧ rd.serving.isSome ∧ rd.target.isSome ∧ rd.target ≠ rd.serving ∧ rd.kind.isSome ∧
      rd.dwellTarget = none

/-- The records keep their shape, no two hold one headset ID, every ID is canonical, and a lane is bound exactly to the
record whose lane field names it (R1, R5, R78). -/
structure State.RecordsOk (s : State) : Prop where
  shape : ∀ r, (s.record r).shapeOk
  distinct : ∀ r r' x, (s.record r).id = some x → (s.record r').id = some x → r = r'
  canonical : ∀ r x, (s.record r).id = some x → Sys2Proof.Machine.canonical x = true
  bound : ∀ n r, s.binding n = some r ↔ (s.record r).lane = some n

/-- How many records name port p as serving or target antenna (R64). -/
def State.named (s : State) (p : PortId) : Nat :=
  ((List.finRange 192).filter fun r => (s.record r).pinned p).length

/-- Every load is the number of records naming its port and at most 12, and a named port is ACTIVE (R1, R64). -/
structure State.LoadsOk (s : State) : Prop where
  counted : ∀ p, s.load p = s.named p
  bounded : ∀ p, s.load p ≤ Config.maxLoad
  inService : ∀ r p, (s.record r).pinned p = true → (s.port p).state = .active

/-- A candidate list: at most four entries, one per antenna, by Q from the highest, with an entry for each pinned
antenna, every Q at most 2032 and every absent count at most 255 (R3, R4, R33, R34). -/
structure candidatesOk (pinned : PortId → Bool) (cs : List Candidate) : Prop where
  room : cs.length ≤ Config.maxCandidates
  distinct : (cs.map (·.antenna)).Nodup
  ordered : cs.Pairwise fun x y => y.q ≤ x.q
  present : ∀ a, pinned a = true → ∃ c ∈ cs, c.antenna = a
  quality : ∀ c ∈ cs, c.q ≤ 2032
  absent : ∀ c ∈ cs, c.absent ≤ 255

/-- Every record's candidate list is lawful. -/
def State.CandidatesOk (s : State) : Prop := ∀ r, candidatesOk (s.record r).pinned (s.record r).cands

/-- The freeze: 1 to 15000 cycles remain while it is active, none while it is not (R50, R51). -/
def Freeze.ok (f : Freeze) : Prop := if f.active then 1 ≤ f.remaining ∧ f.remaining ≤ 15000 else f.remaining = 0

/-! ### Admission Unit (R70, R73, R76, R78) -/

/-- The Registration Queue and the Deny List: their sizes, no ID twice in either, no registration of an ID a record
holds, Full Reported only at a full queue, and the Deny counts from 1 to 15000 (R70, R73, R76). -/
structure State.AdmissionOk (s : State) : Prop where
  room : s.registrations.length ≤ Config.maxRegistrations
  distinct : (s.registrations.map (·.id)).Nodup
  unheld : ∀ e ∈ s.registrations, s.findRecord e.id = none
  armed : s.fullReported = true → s.registrations.length = Config.maxRegistrations
  denialRoom : s.denials.length ≤ Config.maxDenials
  denialDistinct : (s.denials.map (·.id)).Nodup
  counts : ∀ d ∈ s.denials, 1 ≤ d.remaining ∧ d.remaining ≤ 15000

/-- The Lane Map: F + P + C is 64 with C 1 or 2, no control lane and no All-Call lane is bound, the All-Call lane lies in
the fixed region and the cursor in the pool, or at lane F when the pool is empty (R78). -/
structure State.LaneMapOk (s : State) : Prop where
  total : s.partition.fixed + s.partition.pool + s.partition.control = 64
  control : s.partition.control = 1 ∨ s.partition.control = 2
  voice : ∀ n r, s.binding n = some r → n.val < s.partition.fixed + s.partition.pool
  spared : ∀ n r, s.binding n = some r → s.params.allCall ≠ some n
  allCall : ∀ n, s.params.allCall = some n → n.val < s.partition.fixed
  cursorLow : s.partition.fixed ≤ s.cursor
  cursorHigh : s.cursor < s.partition.fixed + s.partition.pool ∨
    s.partition.pool = 0 ∧ s.cursor = s.partition.fixed

/-! ### Ports, voice path, control lanes, events, counters -/

/-- An order queue: at most 16 orders, and no ID with both an Acquire and a Drop (R118). -/
def ordersOk (q : List Order) : Prop :=
  q.length ≤ Config.maxOrders ∧ ∀ x, ¬((⟨.acquire, x⟩ : Order) ∈ q ∧ (⟨.drop, x⟩ : Order) ∈ q)

/-- Every port's order queue is lawful. -/
def State.OrdersOk (s : State) : Prop := ∀ p, ordersOk (s.port p).orders

/-- Every downlink assembly holds at most 12 Voice records, one per headset ID, and every conceal count is at most 8
(R93, R98). -/
structure State.VoiceOk (s : State) : Prop where
  room : ∀ p, (s.port p).voice.length ≤ Config.maxVoice
  distinct : ∀ p, ((s.port p).voice.map (·.id)).Nodup
  conceal : ∀ n, (s.holdOf n).conceal ≤ 8

/-- A control lane: at most 16 responses, and Shed Tag 0 while Shed is clear (R140, R141, R146). -/
def ControlLane.ok (c : ControlLane) : Prop :=
  c.queue.length ≤ Config.maxResponses ∧ (c.shed = false → c.shedTag = 0)

/-- Both control lanes are lawful. -/
def State.ControlOk (s : State) : Prop := s.primary.ok ∧ s.secondary.ok

/-- The Event Queue: at most 32 events, no event behind one of a lower class (R165). -/
def eventsOk (q : List Event) : Prop := q.length ≤ Config.maxEvents ∧ q.Pairwise fun x y => y.cls.rank ≤ x.cls.rank

/-- Every counter lies between 0 and 65535 (R169). -/
def State.CountersOk (s : State) : Prop := ∀ c, s.counter c ≤ Config.counterMax

/-! ### Parameters and window (R150, R162) -/

/-- Every parameter lies in its range (Table 9-3). -/
structure Params.Ok (p : Params) : Prop where
  smoothingShift : 1 ≤ p.smoothingShift ∧ p.smoothingShift ≤ 5
  hysteresisMargin : p.hysteresisMargin ≤ 31
  dwell : 1 ≤ p.dwell ∧ p.dwell ≤ 64
  rescueThreshold : 2 ≤ p.rescueThreshold ∧ p.rescueThreshold ≤ 25
  bridgeLimit : 5 ≤ p.bridgeLimit ∧ p.bridgeLimit ≤ 125
  attachLimit : 10 ≤ p.attachLimit ∧ p.attachLimit ≤ 250
  missLimit : 10 ≤ p.missLimit ∧ p.missLimit ≤ 250
  lostHold : 250 ≤ p.lostHold ∧ p.lostHold ≤ 15000
  reacquireLevel : p.reacquireLevel ≤ 127
  candidateStale : 2 ≤ p.candidateStale ∧ p.candidateStale ≤ 50
  barTime : 25 ≤ p.barTime ∧ p.barTime ≤ 1000
  damagePenalty : p.damagePenalty ≤ 63
  concealLimit : p.concealLimit ≤ 8
  gatherDelay : 1 ≤ p.gatherDelay ∧ p.gatherDelay ≤ 15
  linkTimeout : 5 ≤ p.linkTimeout ∧ p.linkTimeout ≤ 250
  registrationAge : 50 ≤ p.registrationAge ∧ p.registrationAge ≤ 2500
  denyHold : 250 ≤ p.denyHold ∧ p.denyHold ≤ 15000
  holdTrigger : p.holdTrigger = 4 ∨ p.holdTrigger = 8 ∨ p.holdTrigger = 12 ∨ p.holdTrigger = 14

/-- The window's bounds are in order and its pointer lies in it (R162). -/
def Window.ok (w : Window) : Prop :=
  w.rs ≤ w.re ∧ w.cs ≤ w.ce ∧ (w.rs ≤ w.row ∧ w.row ≤ w.re) ∧ (w.cs ≤ w.col ∧ w.col ≤ w.ce)

end Sys2Proof.Machine

namespace Sys2Proof

/-! ### Command packets -/

/-- The origin of a row that is a command packet. -/
def Instr.origin : Instr → Option Origin
  | .powerOnReset => none
  | .downstreamArrival _ _ _ => none
  | .localCycleStart _ => none
  | .holdoverWatchExpiry _ => none
  | .freezeExpired => none
  | .registrationAgeOut => none
  | .denyListingExpiry _ => none
  | .downlinkSend _ => none
  | .cycleClose => none
  | .linkLost _ => none
  | .holdWrite => none
  | .bridgeTimeout _ => none
  | .attachTimeout _ => none
  | .headsetDropped _ => none
  | .barTimerExpiry _ _ => none
  | .portIsolated _ => none
  | .registrationIntake => none
  | .uplinkFrame _ _ => none
  | .echo o _ => some o
  | .identify o _ => some o
  | .readStatus o _ => some o
  | .configure o _ => some o
  | .readParameters o _ => some o
  | .setPartition o _ => some o
  | .restart o _ => some o
  | .clearShed o _ => some o
  | .counterExchangeAdd o _ => some o
  | .activate o _ _ => some o
  | .makeDormant o _ _ => some o
  | .turnOff o _ _ => some o
  | .portReset o _ _ => some o
  | .setClass o _ _ => some o
  | .loadTranslate o _ => some o
  | .readTranslate o _ => some o
  | .setWindow o _ => some o
  | .writeWindow o _ => some o
  | .readWindow o _ => some o
  | .fetchRegistrations o _ => some o
  | .admitHeadset o _ => some o
  | .deny o _ => some o
  | .release o _ => some o
  | .readRecord o _ => some o
  | .forceHandoff o _ => some o
  | .freezeOn o _ => some o
  | .freezeOff o _ => some o
  | .fetchEvents o _ => some o

/-- The command code of a row that is a command packet (Table 9-1). -/
def Instr.code : Instr → Option Byte
  | .powerOnReset => none
  | .downstreamArrival _ _ _ => none
  | .localCycleStart _ => none
  | .holdoverWatchExpiry _ => none
  | .freezeExpired => none
  | .registrationAgeOut => none
  | .denyListingExpiry _ => none
  | .downlinkSend _ => none
  | .cycleClose => none
  | .linkLost _ => none
  | .holdWrite => none
  | .bridgeTimeout _ => none
  | .attachTimeout _ => none
  | .headsetDropped _ => none
  | .barTimerExpiry _ _ => none
  | .portIsolated _ => none
  | .registrationIntake => none
  | .uplinkFrame _ _ => none
  | .echo _ _ => some 0x01
  | .identify _ _ => some 0x02
  | .readStatus _ _ => some 0x03
  | .configure _ _ => some 0x04
  | .readParameters _ _ => some 0x05
  | .setPartition _ _ => some 0x06
  | .restart _ _ => some 0x07
  | .clearShed _ _ => some 0x08
  | .counterExchangeAdd _ _ => some 0x09
  | .activate _ _ _ => some 0x10
  | .makeDormant _ _ _ => some 0x10
  | .turnOff _ _ _ => some 0x10
  | .portReset _ _ _ => some 0x10
  | .setClass _ _ _ => some 0x10
  | .loadTranslate _ _ => some 0x20
  | .readTranslate _ _ => some 0x21
  | .setWindow _ _ => some 0x22
  | .writeWindow _ _ => some 0x23
  | .readWindow _ _ => some 0x24
  | .fetchRegistrations _ _ => some 0x30
  | .admitHeadset _ _ => some 0x31
  | .deny _ _ => some 0x32
  | .release _ _ => some 0x33
  | .readRecord _ _ => some 0x34
  | .forceHandoff _ _ => some 0x40
  | .freezeOn _ _ => some 0x41
  | .freezeOff _ _ => some 0x41
  | .fetchEvents _ _ => some 0x50

/-- The secondary lane is refused this command under an authority (Table 8-3): some commands always, Force Handoff and
Release below Full, a Counter Exchange-Add unless its delta, the four bytes after group and index, is 0 (R138). -/
def Instr.deniedSecondary (a : Machine.Authority) : Instr → Bool
  | .configure _ _ => true
  | .setPartition _ _ => true
  | .restart _ _ => true
  | .activate _ _ _ => true
  | .makeDormant _ _ _ => true
  | .turnOff _ _ _ => true
  | .portReset _ _ _ => true
  | .setClass _ _ _ => true
  | .loadTranslate _ _ => true
  | .readTranslate _ _ => true
  | .setWindow _ _ => true
  | .writeWindow _ _ => true
  | .readWindow _ _ => true
  | .fetchRegistrations _ _ => true
  | .admitHeadset _ _ => true
  | .deny _ _ => true
  | .fetchEvents _ _ => true
  | .release _ _ => a ≠ .full
  | .forceHandoff _ _ => a ≠ .full
  | .counterExchangeAdd _ p => ((p.drop 2).take 4) ≠ [0, 0, 0, 0]
  | .echo _ _ => false
  | .identify _ _ => false
  | .readStatus _ _ => false
  | .readParameters _ _ => false
  | .clearShed _ _ => false
  | .readRecord _ _ => false
  | .freezeOn _ _ => false
  | .freezeOff _ _ => false
  | .powerOnReset => false
  | .downstreamArrival _ _ _ => false
  | .localCycleStart _ => false
  | .holdoverWatchExpiry _ => false
  | .freezeExpired => false
  | .registrationAgeOut => false
  | .denyListingExpiry _ => false
  | .downlinkSend _ => false
  | .cycleClose => false
  | .linkLost _ => false
  | .holdWrite => false
  | .bridgeTimeout _ => false
  | .attachTimeout _ => false
  | .headsetDropped _ => false
  | .barTimerExpiry _ _ => false
  | .portIsolated _ => false
  | .registrationIntake => false
  | .uplinkFrame _ _ => false

end Sys2Proof

namespace Sys2Proof.Machine

/-! ### Packets and their service -/

/-- A command packet as its sender makes it: header with its check byte, then for a payload its bytes and the CRC over
header and payload (R134, R136, R137). -/
def packetBytes (code tag : Byte) (payload : List Byte) : List Byte :=
  let n := byteOf payload.length
  let hdr := [code, tag, n, checkByte code tag n]
  if payload = [] then hdr else hdr ++ payload ++ halfBytes (crc16 (hdr ++ payload))

/-- A packet alone in its control block, filler behind it (R133). -/
def blockWith (packet : List Byte) : List Byte := packet ++ List.replicate (Config.controlBlockBytes - packet.length) 0

/-- The state in which a command packet can be served from a lane: its queue has room, and the lane may send it
(R138, R141). -/
def State.Serves (s : State) (o : Origin) (p : Permission) : Prop :=
  (s.lane o.lane).queue.length < Config.maxResponses ∧ p.allows o.lane s.params.authority = true

/-- The next state of a served command: the state its owner leaves, with Done or Done-Corrected, the packet's tag and a
payload queued on the packet's lane (R139, R140, Table 12-5). -/
def State.done (s : State) (o : Origin) (payload : List Byte) : State :=
  s.respond o.lane ⟨if o.corrected then 0x02 else 0x01, o.tag, payload⟩

/-- The next state of a refused command: nothing but an Error response with its reason's number (R138, R139). -/
def State.refused (s : State) (o : Origin) (reason : Byte) : State := s.respond o.lane ⟨0x40 + reason, o.tag, []⟩

/-! ### One wrong bit and two (R134, R135) -/

/-- The byte of a header that starts at bit `start`, with bit k of the header inverted when it lies in that byte. -/
def flipIn (start k : Nat) (b : Byte) : Byte := if start ≤ k ∧ k < start + 8 then flipBit b (k - start) else b

/-- The header check of a header made for three data bytes, with the bits of a list inverted on the link; bits 0 to 23
are the data bits by index, bits 24 to 29 the check bits 0 to 5 (R135). -/
def checkFlipped (b0 b1 b2 : Byte) (ks : List Nat) : HeaderCheck :=
  let flip := fun start b => ks.foldl (fun b k => flipIn start k b) b
  checkHeader (flip 0 b0) (flip 8 b1) (flip 16 b2) (flip 24 (checkByte b0 b1 b2))

/-! ### What a command stores -/

/-- The state changes at one port alone, which becomes x. -/
def State.PortBecomes (s t : State) (p : PortId) (x : Port) : Prop :=
  t = { s with ports := t.ports } ∧ ∀ q, t.port q = if q = p then x else s.port q

/-- The value stored for a value sent, as two bytes (R152, Table 9-3). -/
def storedValue (n : Nat) (v : Half) : Half :=
  let within := fun lo hi : Nat => BitVec.ofNat 16 (if v.toNat < lo then lo else if hi < v.toNat then hi else v.toNat)
  match n with
  | 1 => within 1 5
  | 2 => within 0 31
  | 3 => within 1 64
  | 4 => within 2 25
  | 5 => within 5 125
  | 6 => within 10 250
  | 7 => within 10 250
  | 8 => within 250 15000
  | 9 => within 0 127
  | 10 => within 2 50
  | 11 => within 25 1000
  | 12 => within 0 63
  | 13 => within 0 8
  | 14 => within 1 15
  | 15 => within 5 250
  | 16 => within 50 2500
  | 17 => within 250 15000
  | 18 => if v.toNat ≤ 7 then 4 else if v.toNat ≤ 11 then 8 else if v.toNat ≤ 13 then 12 else 14
  | 19 => within 0 1
  | 20 => within 0 2
  | 21 => within 0 1
  | _ => v

/-- The cells of a window in its visiting order (R162). -/
def Window.order (w : Window) : List (Fin 24 × Fin 24) :=
  let rows := (List.finRange 24).filter fun r => w.rs ≤ r ∧ r ≤ w.re
  let cols := (List.finRange 24).filter fun c => w.cs ≤ c ∧ c ≤ w.ce
  match w.mode with
  | .columnMajor => cols.flatMap fun c => rows.map fun r => (r, c)
  | .rowMajor | .mirrored => rows.flatMap fun r => cols.map fun c => (r, c)

/-- The place of the pointer in the visiting order. -/
def Window.place (w : Window) : Nat := w.order.idxOf (w.row, w.col)

/-- The cell k places past the pointer, going round the window (R162). -/
def Window.cellPast (w : Window) (k : Nat) : Option (Fin 24 × Fin 24) := w.order[(w.place + k) % w.order.length]?

/-- A port after a request for a Drop for headset x: in service it has taken it by R118, or by R119 counted one of its
Order Drops; out of service it is as it was (R120). -/
def Port.askedDrop (q : Port) (x : HeadsetId) : Port :=
  if q.state = .active ∨ q.state = .dormant then
    let asked := takeOrder q.orders .drop x
    if asked.1 = .discarded then q.bump .orderDrops else { q with orders := asked.2 }
  else q

/-- A Drop for headset x has been asked of every port of a list, whose loads are lowered by 1; no port and no load has
changed but these (Table 3-2). -/
structure State.DroppedAt (s t : State) (ports : List PortId) (x : HeadsetId) : Prop where
  loads : ∀ p, t.load p = s.load p - if p ∈ ports then 1 else 0
  ports : ∀ p, t.port p = if p ∈ ports then (s.port p).askedDrop x else s.port p

/-- Order Lost posted for each port in service of a list, in the order of the list, whose full queue discards a Drop for
headset x (R119). -/
def State.postLostDrops (s : State) (ports : List PortId) (x : HeadsetId) : State :=
  (ports.filter fun p => ((s.port p).state = .active ∨ (s.port p).state = .dormant) ∧
    (takeOrder (s.port p).orders .drop x).1 = .discarded).foldl
    (fun v p => v.post .warning .orderLost (some p) (some x) none 2) s

/-- The antennas a record names, the serving antenna first (R25; the order is log 28). -/
def Record.antennas (rd : Record) : List PortId := rd.serving.toList ++ rd.target.toList

/-- Pool lane n is the first unbound lane found from the cursor upward and round the pool (R82). -/
def State.PoolChoice (s : State) (n : LaneId) : Prop :=
  let lane := fun i => s.partition.fixed + (s.cursor - s.partition.fixed + i) % s.partition.pool
  ∃ i, i < s.partition.pool ∧ n.val = lane i ∧ s.binding n = none ∧
    ∀ j, j < i → ∃ m : LaneId, m.val = lane j ∧ s.binding m ≠ none

/-- One record of an uplink frame as its antenna unit sends it (Table 12-2). -/
def UplinkRecord.bytes : UplinkRecord → List Byte
  | .burst x raw damaged (.voice b) => 0x01 :: (idBytes x ++ [raw, bit damaged] ++ b.toList)
  | .burst x raw damaged .monitor => 0x02 :: (idBytes x ++ [raw, bit damaged])
  | .burst x raw damaged .register => 0x03 :: (idBytes x ++ [raw, bit damaged])
  | .result x .accepted => 0x04 :: (idBytes x ++ [0x01])
  | .result x .noSlot => 0x04 :: (idBytes x ++ [0x02])

/-- An uplink frame as its antenna unit sends it (Table 12-1, R137). -/
def Uplink.bytes (f : Uplink) : List Byte :=
  let body := halfBytes f.cycle ++ [f.flags.byte, byteOf f.records.length] ++ f.records.flatMap UplinkRecord.bytes
  body ++ halfBytes (crc16 body)

/-- The Timer after a cycle start that begins cycle n at a time, the clock state before it `was`, by the Clock
Source read there (R124, R130). -/
def State.timerStarted (s : State) (was : ClockState) (n : CycleNo) (time : Nat) : Timer where
  clock :=
    match s.params.clockSource with
    | .localSource => .localClock
    | .follow => if was = .localClock then .holdover else was
  cycle := n
  lastStart := time
  lastArrival := s.timer.lastArrival

/-- A record once port p has left ACTIVE (R23, R24): promoted, searching without its antennas, or back on its serving
antenna or searching with p barred for n closes; a record that does not name p is untouched. -/
def Record.departed (p : PortId) (n : Nat) (rd : Record) : Record :=
  if rd.serving = some p then
    if rd.state = .bridging ∧ rd.accepted = true then
      { rd with
        state := .active, serving := rd.target, target := none, accepted := false, kind := none, timer := 0
        dwellTarget := none, dwellCount := 0 }
    else
      { rd with
        state := .searching, serving := none, target := none, accepted := false, kind := none, timer := 0
        dwellTarget := none, dwellCount := 0, deferred := false, miss := 0, orphan := 0 }
  else if rd.target = some p then
    if rd.state = .bridging then
      { rd with
        state := .active, target := none, accepted := false, kind := none, timer := 0
        dwellTarget := none, dwellCount := 0, deferred := false
        cands := rd.cands.map fun c => if c.antenna = p then { c with bar := n } else c }
    else
      { rd with
        state := .searching, target := none, accepted := false
        cands := rd.cands.map fun c => if c.antenna = p then { c with bar := n } else c }
  else rd

/-- What the departure of port p from ACTIVE does on account of record rd, besides changing the record and the load of p
(R23, R24): a Drop for its headset at p when p went DORMANT; then a promotion or a failed bridge is counted and posted, a
failed attach is posted, or Link Lost is posted, after a Drop at the target of a bridge that has not been accepted, whose
load is lowered. A record that does not name p does nothing. -/
def Record.leavePort (p : PortId) (toDormant : Bool) (v : State) (rd : Record) : State :=
  let v₁ := if toDormant then v.dropAt p rd.headset else v
  if rd.serving = some p then
    match rd.target with
    | none => v₁.post .warning .linkLost (some p) rd.id rd.lane 0
    | some t =>
      if rd.accepted then
        (v₁.bumpRoam .handoffsDone).post .notice .handoffDone (some t) rd.id rd.lane (byteOf (p.val + 96))
      else ((v₁.dropAt t rd.headset).lowerLoad t).post .warning .linkLost (some p) rd.id rd.lane 0
  else if rd.target = some p then
    if rd.state = .bridging then
      (v₁.bumpRoam .handoffsFailed).post .notice .handoffFailed (some p) rd.id rd.lane 3
    else v₁.post .notice .attachFailed (some p) rd.id rd.lane 3
  else v

/-- The departure of port p on account of every record, in ascending index (R23, R24). -/
def State.leftBy (s : State) (p : PortId) (toDormant : Bool) (v : State) : State :=
  (List.finRange 192).foldl (fun v r => (s.record r).leavePort p toDormant v) v

end Sys2Proof.Machine
end

