-- ==== Sys2Proof/WellFormed.lean ====
section
/-! DEFINITION. Which commands can come at all: a matrix frame has its fixed size (Table 12-4), and a command packet
fits a control block (R136). Port, record and lane numbers are bounded by their types. -/

namespace Sys2Proof

/-- A command packet's payload fits a control block beside its header and CRC (R136). -/
def payloadFits (p : List Byte) : Bool := p.length ≤ Config.maxCommandPayload

/-- The check of a command: the frame's size, or that the packet fits its block. -/
def Instr.wellFormed : Instr → Bool
  | .downstreamArrival _ _ frame => frame.length = Config.matrixFrameBytes
  | i =>
    match i.packetPayload with
    | some p => payloadFits p
    | none => true

end Sys2Proof
end

