-- ==== Sys2Proof/Certificates/Slice0/Obligations.lean ====
section
/-! DEFINITION. The statements for the provers. -/

open Sys2Proof Sys2Proof.Machine

/-! ### The machine -/

/-- A step takes the command at the front of the queue and executes it with the queue's rest; on an empty queue the part
idles. The queue is the model's own (log 1). -/
def Obligations.StepRunsTheFrontCommand : Prop :=
  ∀ (c : Instr) (rest : List Instr) (s : State),
    step { s with pending := c :: rest } = exec c { s with pending := rest } ∧
      step { s with pending := [] } = .next { s with pending := [] }

/-- POWER_ON_RESET brings exactly the state after reset, whatever the part held; only the queue of waiting commands,
which is the model's, is kept (R2, R103, R123, R165; log 4 says what the first cycle start adds). -/
def Obligations.PowerOnResetBringsReset : Prop :=
  ∀ s : State, exec .powerOnReset s = .next { State.reset with pending := s.pending }

/-- The state after reset meets every law of Safety.lean. -/
def Obligations.ResetMeetsEveryLaw : Prop :=
  State.reset.RecordsOk ∧ State.reset.LoadsOk ∧ State.reset.CandidatesOk ∧ State.reset.freeze.ok ∧
    State.reset.AdmissionOk ∧ State.reset.LaneMapOk ∧ State.reset.OrdersOk ∧ State.reset.VoiceOk ∧
    State.reset.ControlOk ∧ eventsOk State.reset.events ∧ State.reset.CountersOk ∧ State.reset.params.Ok ∧
    State.reset.window.ok

/-- Every command that can come at all answers a next state and leaves the queue of waiting commands alone; an arrival
that is not a matrix frame of 4115 bytes faults (the fault is the model's, log 18). -/
def Obligations.EveryWellFormedCommandCompletes : Prop :=
  (∀ (c : Instr) (s : State), c.wellFormed = true → ∃ t, exec c s = .next t ∧ t.pending = s.pending) ∧
    ∀ (after : Nat) (order : StartOrder) (frame : List Byte) (s : State), frame.length ≠ 4115 →
      exec (.downstreamArrival after order frame) s = .fault .notAMatrixFrame

/-! ### Laws that every step keeps -/

/-- Through every step the Event Queue keeps at most 32 events with none behind one of a lower class, every counter stays
within 65535, and the Response Queues stay within 16 responses with Shed Tag 0 while Shed is clear (R140, R141, R146,
R165 to R167, R169, R170). -/
def Obligations.QueuesAndCountersStayInRange : Prop :=
  ∀ s t : State, step s = .next t → (eventsOk s.events → eventsOk t.events) ∧ (s.CountersOk → t.CountersOk) ∧
    (s.ControlOk → t.ControlOk)

/-- Through every step no port comes to hold more than 16 orders, or both an Acquire and a Drop for one ID, no assembly
more than 12 Voice records or two for one headset, and no conceal count passes 8 (R93, R98, R118, R119). -/
def Obligations.PortQueuesAndHoldsStayBounded : Prop :=
  ∀ s t : State, step s = .next t → (s.OrdersOk → t.OrdersOk) ∧ (s.params.Ok → s.VoiceOk → t.VoiceOk)

/-- The partition's total, the control region's size, and that no control lane and no All-Call lane is bound, last
through every step; the cursor stays in the pool (R78 to R84). -/
def Obligations.LaneMapStaysLawful : Prop := ∀ s t : State, s.LaneMapOk → step s = .next t → t.LaneMapOk

/-- Every parameter stays in its range, the freeze count fits the freeze, and the pointer stays in its window
(R50, R150 to R152, R162). -/
def Obligations.ParametersFreezeAndWindowStayInRange : Prop :=
  ∀ s t : State, s.params.Ok → s.freeze.ok → s.window.ok → step s = .next t →
    t.params.Ok ∧ t.freeze.ok ∧ t.window.ok

/-- The Registration Queue and the Deny List keep their sizes, hold no ID twice, and list no registration of an ID that
a record holds (R70 to R77, R83). -/
def Obligations.AdmissionListsStayLawful : Prop :=
  ∀ s t : State, s.params.Ok → s.AdmissionOk → step s = .next t → t.AdmissionOk

/-- The records keep the fields of their states, hold distinct canonical IDs, and hold exactly the lanes bound to them,
through every step (R1, R5, R78). -/
def Obligations.RecordsKeepTheirShape : Prop := ∀ s t : State, s.RecordsOk → step s = .next t → t.RecordsOk

/-- Every load stays the number of records naming its port and at most 12, and every named port stays ACTIVE, through
every step (R1, R64). -/
def Obligations.LoadsCountTheRecords : Prop :=
  ∀ s t : State, s.RecordsOk → s.LoadsOk → step s = .next t → t.LoadsOk

/-- Every candidate list keeps its size, its order, one entry per antenna and an entry for each pinned antenna, and every
quality stays within 2032, through every step (R3, R4, R34). -/
def Obligations.CandidateListsStayLawful : Prop :=
  ∀ s t : State, s.CandidatesOk → step s = .next t → t.CandidatesOk

/-! ### Control lanes -/

/-- A command packet that meets a full Response Queue is shed: the lane's counter is incremented, Shed is set, Shed Tag
takes the packet's tag when Shed was clear, and nothing else happens. Clear Shed that finds room clears Shed and Shed Tag
on the lane that carried it alone and answers with the flag and the tag it found; a payload is refused with Bad Argument
(R141, R146; the flag's byte, 1 or 0, is log 32). -/
def Obligations.FullQueueShedsUntilCleared : Prop :=
  (∀ (c : Instr) (o : Origin) (s : State), c.origin = some o → 16 ≤ (s.lane o.lane).queue.length →
    exec c s = .next ((s.setLane o.lane { s.lane o.lane with
      shed := true
      shedTag := if (s.lane o.lane).shed then (s.lane o.lane).shedTag else o.tag }).bumpCtl (shedCounter o.lane))) ∧
    ∀ (o : Origin) (p : List Byte) (s : State), (s.lane o.lane).queue.length < 16 →
      (p = [] → exec (.clearShed o p) s =
        .next ((s.setLane o.lane { s.lane o.lane with shed := false, shedTag := 0 }).done o
          [if (s.lane o.lane).shed then 1 else 0, (s.lane o.lane).shedTag])) ∧
        (p ≠ [] → exec (.clearShed o p) s = .next (s.refused o 7))

/-- A command from the secondary lane that Table 8-3 marks "no" under the Secondary Authority in force is refused with
Not Permitted, and nothing changes but the response (R138). -/
def Obligations.SecondaryLaneIsRefused : Prop :=
  ∀ (c : Instr) (o : Origin) (s : State), c.origin = some o → o.lane = .secondary →
    (s.lane o.lane).queue.length < 16 → c.deniedSecondary s.params.authority = true →
    exec c s = .next (s.refused o 6)

/-- A command packet whose header is Clean, or Corrected to its code, tag and length, and whose CRC over the header as
received and its payload is right, has exactly the effect of its command wherever it stands in a control block, after
Header Corrections is incremented for a Corrected one; the parser goes on behind it. So a packet as its sender makes it,
alone in a block with filler behind it, has that effect and no other (R133 to R138). -/
def Obligations.PacketReachesItsCommand : Prop :=
  ∀ (c : Instr) (o : Origin) (code : Byte) (p : List Byte) (s : State), c.origin = some o → c.code = some code →
    c.packetPayload = some p →
    (∀ (b0 b1 b2 chk : Byte) (crc rest : List Byte) (fuel : Nat), b0 ≠ 0 → p.length ≤ 255 →
      checkHeader b0 b1 b2 chk = .use code o.tag (byteOf p.length) o.corrected →
      (p = [] ∧ crc = [] ∨ p ≠ [] ∧ crc = halfBytes (crc16 ([b0, b1, b2, chk] ++ p))) →
      ∃ t : State, exec c (if o.corrected then s.bumpCtl .headerCorrections else s) = .next t ∧
        parseBlock o.lane (fuel + 1) ([b0, b1, b2, chk] ++ p ++ crc ++ rest) s = parseBlock o.lane fuel rest t) ∧
      (o.corrected = false → p.length ≤ 58 →
        exec c s = .next (parseBlock o.lane 64 (blockWith (packetBytes code o.tag p)) s))

/-- What else a control block can hold, from any position: filler is skipped, and the block ends at its end. Fewer than
four bytes are reported Truncated, a Broken header Header Broken with Header Failures counted, a packet that would end
beyond the block Bad Length, and each of these ends the block. A wrong CRC is reported Checksum with Checksum Failures
counted, a code the table does not list is refused with Unknown Command, a Port Control or Freeze packet of another
length or action with Bad Argument, Port Control from the secondary lane with Not Permitted, and the parser goes on
behind the packet. A report or refusal due at a full Response Queue is shed with its tag. Header Corrections counts every
Corrected header (R133, R135, R136, R138, R139, R141, R172). -/
def Obligations.ParseErrorsAreReported : Prop :=
  ∀ (l : CtlLane) (fuel : Nat) (s : State),
    let report := fun (v : State) (code tag : Byte) =>
      if (v.lane l).queue.length < 16 then v.respond l ⟨code, tag, []⟩
      else (v.setLane l { v.lane l with
        shed := true
        shedTag := if (v.lane l).shed then (v.lane l).shedTag else tag }).bumpCtl (shedCounter l)
    (∀ bytes : List Byte, bytes.length ≤ fuel → parseBlock l fuel bytes s = parseBlock l bytes.length bytes s) ∧
      parseBlock l fuel [] s = s ∧
      (∀ rest, parseBlock l (fuel + 1) (0 :: rest) s = parseBlock l fuel rest s) ∧
      (∀ b0 rest, b0 ≠ 0 → rest.length < 3 → parseBlock l (fuel + 1) (b0 :: rest) s = report s 0x82 0) ∧
      ∀ b0 b1 b2 chk rest, b0 ≠ 0 →
        let run := parseBlock l (fuel + 1) (b0 :: b1 :: b2 :: chk :: rest) s
        (checkHeader b0 b1 b2 chk = .broken → run = report (s.bumpCtl .headerFailures) 0x83 0) ∧
          ∀ code tag len corrected, checkHeader b0 b1 b2 chk = .use code tag len corrected →
            let v := if corrected then s.bumpCtl .headerCorrections else s
            let n := len.toNat
            let payload := rest.take n
            let right := (rest.drop n).take 2 = halfBytes (crc16 ([b0, b1, b2, chk] ++ payload))
            let passes := n = 0 ∨ n + 2 ≤ rest.length ∧ right
            let refused := fun reason : Byte =>
              run = parseBlock l fuel (rest.drop (if n = 0 then 0 else n + 2)) (report v (0x40 + reason) tag)
            (n ≠ 0 → rest.length < n + 2 → run = report v 0x44 tag) ∧
              (n ≠ 0 → n + 2 ≤ rest.length → ¬right →
                run = parseBlock l fuel (rest.drop (n + 2)) (report (v.bumpCtl .checksumFailures) 0x45 tag)) ∧
              (passes → code ∉ ([0x01, 0x02, 0x03, 0x04, 0x05, 0x06, 0x07, 0x08, 0x09, 0x10, 0x20, 0x21, 0x22, 0x23, 0x24,
                0x30, 0x31, 0x32, 0x33, 0x34, 0x40, 0x41, 0x50] : List Byte) → refused 1) ∧
              (passes → code = 0x10 → (∀ port action cls, payload = [port, action, cls] → 4 < action.toNat) →
                refused (if l = .primary then 7 else 6)) ∧
              (passes → code = 0x41 → (∀ action hi lo, payload = [action, hi, lo] → 1 < action.toNat) → refused 7)

/-- The header check uses a header as sent when no bit is wrong, restores it and marks it Corrected when one of its
thirty bits is wrong, and calls it Broken when two are (R134, R135). -/
def Obligations.HeaderCheckMendsOneBitAndFindsTwo : Prop :=
  ∀ b0 b1 b2 : Byte,
    checkFlipped b0 b1 b2 [] = .use b0 b1 b2 false ∧
      (∀ i, i < 30 → checkFlipped b0 b1 b2 [i] = .use b0 b1 b2 true) ∧
      ∀ i j, i < j → j < 30 → checkFlipped b0 b1 b2 [i, j] = .broken

/-- A response queued on a lane stands at the tail, and Hold is set when the occupancy is then at or above the Hold
Trigger. At a transmit a lane of the control region is sent Fresh with its control block: the header of Table 12-6, with
events and freeze on the primary lane alone; then responses from the head of the queue, as many as fit 60 bytes, each as
header with check byte and, for a payload, payload and CRC; then zeros. The responses placed leave the queue, and Hold is
cleared when none is left (R92, R142 to R144, Table 12-5). -/
def Obligations.ControlBlockCarriesTheResponses : Prop :=
  ∀ (l : CtlLane) (s : State),
    let c := s.lane l
    let bytes := fun x : Response =>
      let header := [x.code, x.tag, byteOf x.payload.length, checkByte x.code x.tag (byteOf x.payload.length)]
      if x.payload = [] then header else header ++ x.payload ++ halfBytes (crc16 (header ++ x.payload))
    let body := fun placed : List Response => placed.flatMap bytes
    let clock := match s.timer.clock with | .follow => 0 | .holdover => 1 | .localClock => 2
    let flags := (if c.hold then 1 else 0) + (if c.shed then 2 else 0) + 32 * clock
    let own := match l with
      | .primary => [byteOf (flags + (if s.events = [] then 0 else 4) + (if s.freeze.active then 8 else 0) +
          (if s.freeze.requested then 16 else 0)),
        byteOf ((s.events.map (·.cls.rank)).foldl max 0 + 4 * s.events.length)]
      | .secondary => [byteOf flags, 0]
    (∀ x, s.respond l x = s.setLane l { c with
      queue := c.queue ++ [x]
      hold := if s.params.holdTrigger ≤ c.queue.length + 1 then true else c.hold }) ∧
      ∃ (placed left : List Response) (b : Block), placed ++ left = c.queue ∧ (body placed).length ≤ 60 ∧
        (∀ x rest, left = x :: rest → 60 < (body placed).length + (bytes x).length) ∧
        b.toList = own ++ [c.shedTag, byteOf (body placed).length] ++ body placed ++
          List.replicate (60 - (body placed).length) 0 ∧
        ∀ n : LaneId, (l = .primary ∧ n = 63 ∧ 1 ≤ s.partition.control ∨
            l = .secondary ∧ n = 62 ∧ 2 ≤ s.partition.control) →
          sendLane n s = (⟨.fresh, b⟩, s.setLane l { c with queue := left, hold := if left = [] then false else c.hold })

/-! ### Commands of the control lanes and of the part as a whole -/

/-- Echo answers with its payload unchanged up to 54 bytes, from either lane under any Secondary Authority, and refuses a
longer one with Bad Argument. Identify answers with vendor 0x46, part 0x0716, revision 1, 24 ports, 192 records, 64
lanes, 4 classes and 4 candidates, and refuses every payload with Bad Argument. Neither changes anything but the response
(R145, R148, Table 12-7). -/
def Obligations.EchoAndIdentifyAnswer : Prop :=
  ∀ (o : Origin) (p : List Byte) (s : State), (s.lane o.lane).queue.length < 16 →
    (p.length ≤ 54 → exec (.echo o p) s = .next (s.done o p)) ∧
      (54 < p.length → exec (.echo o p) s = .next (s.refused o 7)) ∧
      (p = [] → exec (.identify o p) s = .next (s.done o [0x46, 0x07, 0x16, 1, 24, 192, 64, 4, 4])) ∧
      (p ≠ [] → exec (.identify o p) s = .next (s.refused o 7))

/-- Read Status answers with the 43 bytes of Table 12-7 for the state it finds, its record counts summing to 192, and
refuses a payload with Bad Argument. Read Parameters answers with all 22 values for an empty payload, with a number and
value pair for each of 1 to 18 numbers from 1 to 22, and refuses every other payload with Bad Argument. Neither changes
anything but the response (R149, R154). -/
def Obligations.StatusAndParametersAreRead : Prop :=
  (∀ (o : Origin) (s : State), (s.lane o.lane).queue.length < 16 →
    (let count := fun st => ((List.finRange 192).filter fun r => (s.record r).state = st).length
      let portByte := fun p : PortId =>
        byteOf ((match (s.port p).state with | .off => 0 | .dormant => 1 | .active => 2 | .isolated => 3) +
          (match (s.port p).returnState with | .dormant => 0 | .active => 4) +
          (if (s.port p).flags.rfOverload then 16 else 0) + (if (s.port p).flags.backupPower then 32 else 0) +
          (if (s.port p).flags.referenceLost then 64 else 0))
      let clock : Byte := match s.timer.clock with | .follow => 0 | .holdover => 1 | .localClock => 2
      let flags := byteOf ((if s.freeze.active then 1 else 0) + (if s.freeze.requested then 2 else 0) +
        (if s.lostEvents then 4 else 0))
      let x := [clock] ++ halfBytes s.timer.cycle ++ [flags] ++ natBytes s.freeze.remaining ++
        [byteOf (count .free), byteOf (count .searching), byteOf (count .attaching), byteOf (count .active),
          byteOf (count .bridging), byteOf s.registrations.length, byteOf s.denials.length, byteOf s.events.length,
          byteOf s.primary.queue.length, byteOf s.secondary.queue.length] ++ (List.finRange 24).map portByte ++
        [byteOf s.partition.fixed, byteOf s.partition.pool, byteOf s.partition.control]
      exec (.readStatus o []) s = .next (s.done o x) ∧ x.length = 43 ∧
        count .free + count .searching + count .attaching + count .active + count .bridging = 192) ∧
      ∀ p, p ≠ [] → exec (.readStatus o p) s = .next (s.refused o 7)) ∧
  ∀ (o : Origin) (p : List Byte) (s : State), (s.lane o.lane).queue.length < 16 →
    (p = [] → ∃ x, exec (.readParameters o p) s = .next (s.done o x) ∧ x.length = 44 ∧
      ∀ i, i < 22 → (x.drop (2 * i)).take 2 = halfBytes (s.params.value (i + 1))) ∧
      (p ≠ [] → p.length ≤ 18 → (∀ b ∈ p, 1 ≤ b.toNat ∧ b.toNat ≤ 22) →
        ∃ x, exec (.readParameters o p) s = .next (s.done o x) ∧ x.length = 3 * p.length ∧
          ∀ i (h : i < p.length), (x.drop (3 * i)).take 3 = p[i] :: halfBytes (s.params.value p[i].toNat)) ∧
      ((18 < p.length ∨ ∃ b ∈ p, b.toNat = 0 ∨ 22 < b.toNat) →
        exec (.readParameters o p) s = .next (s.refused o 7))

/-- Counter Exchange-Add answers with the value read and the value stored, which is the sum with the delta brought into 0
to 65535, and stores it in the counter named, every other counter and everything else unchanged; a payload of another
length or a name of no counter is refused with Bad Argument. Group and index name the counters of Table 11-3 in its
order (R169, R170). -/
def Obligations.CounterExchangeAddStoresTheSum : Prop :=
  ∀ (o : Origin) (s : State), (s.lane o.lane).queue.length < 16 →
    let names := fun (group index : Byte) (k : CounterName) =>
      match k with
      | .roam i => group = 0 ∧ index.toNat = i.val
      | .ctl i => group = 1 ∧ index.toNat = i.val
      | .port p i => group = 2 ∧ index.toNat = 8 * p.val + i.val
      | .lane n i => group = 3 ∧ index.toNat = 4 * n.val + i.val
    ([RoamCounter.handoffsDone, .handoffsFailed, .rescues, .attaches].map (·.index) = [0, 1, 2, 3] ∧
      [CtlCounter.headerCorrections, .headerFailures, .checksumFailures, shedCounter .primary,
        shedCounter .secondary].map (·.index) = [0, 1, 2, 3, 4] ∧
      [PortCounter.frameErrors, .late, .misaligned, .overruns, .idErrors, .damagedBursts, .orderDrops].map (·.index) =
        [0, 1, 2, 3, 4, 5, 6] ∧
      [LaneCounter.concealedBlocks, .silenceBlocks, .uplinkOverwrites, .downlinkOverwrites].map (·.index) =
        [0, 1, 2, 3]) ∧
    (∀ (group index a b c d : Byte) (k : CounterName), names group index k →
      o.lane = .primary ∨ [a, b, c, d] = [0, 0, 0, 0] →
      ∃ (t : State) (w : Nat), (w : Int) = max 0 (min 65535 ((s.counter k : Int) + (a ++ b ++ c ++ d : BitVec 32).toInt)) ∧
        exec (.counterExchangeAdd o [group, index, a, b, c, d]) s =
          .next (t.done o ([group, index] ++ natBytes (s.counter k) ++ natBytes w)) ∧
        (∀ k', t.counter k' = if k' = k then w else s.counter k') ∧
        t = { s with
          roamCounters := t.roamCounters
          ctlCounters := t.ctlCounters
          laneCounters := t.laneCounters
          ports := t.ports } ∧
        ∀ p, { t.port p with counters := (s.port p).counters } = s.port p) ∧
      (o.lane = .primary → ∀ p, p.length ≠ 6 → exec (.counterExchangeAdd o p) s = .next (s.refused o 7)) ∧
      (o.lane = .primary → ∀ group index a b c d, (∀ k, ¬names group index k) →
        exec (.counterExchangeAdd o [group, index, a, b, c, d]) s = .next (s.refused o 7))

/-- A Configure whose numbers are 1 to 22 and whose All-Call values are accepted stores each value brought into its
range, the last pair of a number standing, and answers with the pairs as stored; nothing else changes but the response.
A list that fails any check, or of another length, changes no parameter (R80, R151, R152). -/
def Obligations.ConfigureStoresValuesInRange : Prop :=
  ∀ (o : Origin) (pairs : List (Byte × Half)) (s : State), o.lane = .primary → (s.lane o.lane).queue.length < 16 →
    (let sent := pairs.flatMap fun x => x.1 :: halfBytes x.2
      let good := fun x : Byte × Half => (1 ≤ x.1.toNat ∧ x.1.toNat ≤ 22) ∧
        (x.1 = 22 → x.2 = 0xFFFF ∨
          ∃ n : LaneId, n.val = x.2.toNat ∧ n.val < s.partition.fixed ∧ s.binding n = none)
      (pairs ≠ [] → pairs.length ≤ 18 → (∀ x ∈ pairs, good x) →
        ∃ P : Params, exec (.configure o sent) s = .next (({ s with params := P } : State).done o
            (pairs.flatMap fun x => x.1 :: halfBytes (storedValue x.1.toNat x.2))) ∧
          ∀ m, 1 ≤ m → m ≤ 22 → P.value m =
            match pairs.reverse.find? fun x => x.1.toNat = m with
            | some x => storedValue m x.2
            | none => s.params.value m) ∧
        ((∃ x ∈ pairs, ¬good x) → exec (.configure o sent) s = .next (s.refused o 7))) ∧
      ∀ p : List Byte, p.length % 3 ≠ 0 ∨ p.length = 0 ∨ 54 < p.length →
        exec (.configure o p) s = .next (s.refused o 7)

/-- Set Partition stores F, P and C, puts the cursor at lane F and drops an All-Call lane at or above F; a sum other than
64 or a C other than 1 and 2 is refused with Bad Argument, then a bound lane with Busy (R79). -/
def Obligations.SetPartitionReplacesThePartition : Prop :=
  ∀ (o : Origin) (f p c : Byte) (s : State), o.lane = .primary → (s.lane o.lane).queue.length < 16 →
    (let fits := f.toNat + p.toNat + c.toNat = 64 ∧ (c = 1 ∨ c = 2)
      let kept := match s.params.allCall with
        | none => none
        | some n => if n.val < f.toNat then some n else none
      (¬fits → exec (.setPartition o [f, p, c]) s = .next (s.refused o 7)) ∧
        (fits → (∃ n r, s.binding n = some r) → exec (.setPartition o [f, p, c]) s = .next (s.refused o 12)) ∧
        (fits → (∀ n, s.binding n = none) → exec (.setPartition o [f, p, c]) s =
          .next (({ s with
            partition := ⟨f.toNat, p.toNat, c.toNat⟩
            cursor := f.toNat
            params := { s.params with allCall := kept } } : State).done o
              [f, p, c, f, match kept with | none => 0xFF | some n => byteOf n.val]))) ∧
      ∀ q : List Byte, q.length ≠ 3 → exec (.setPartition o q) s = .next (s.refused o 7)

/-- Restart frees every record, clears what Table 9-5 lists, leaves Restart Done as the one event, gives every port a
Port Reset, and answers with the cycle number on the emptied queue; everything else is kept. A payload is refused with
Bad Argument (R2, R155, R157; that a pending close, the sends due and the work handed over are kept is log 19). -/
def Obligations.RestartClearsTheWorkingState : Prop :=
  ∀ (o : Origin) (s : State), o.lane = .primary → (s.lane o.lane).queue.length < 16 →
    (∃ t : State, exec (.restart o []) s = .next (t.done o (halfBytes s.timer.cycle)) ∧
      t = { s with
        records := Vector.replicate 192 Record.free
        loads := Vector.replicate 24 0
        freeze := ⟨false, 0, false⟩
        roamCounters := Vector.replicate 4 0
        registrations := []
        fullReported := false
        denials := []
        bindings := Vector.replicate 64 none
        cursor := s.partition.fixed
        ports := t.ports
        holds := Vector.replicate 64 ⟨zeroBlock, false, s.params.concealLimit⟩
        laneCounters := Vector.replicate 64 (Vector.replicate 4 0)
        primary := ⟨[], false, false, 0⟩
        secondary := ⟨[], false, false, 0⟩
        ctlCounters := Vector.replicate 5 0
        events := [⟨.notice, .restartDone, s.timer.cycle, none, none, none, 0⟩]
        lostEvents := false } ∧
      ∀ p, t.port p = { s.port p with
        gatherSlot := none
        earlySlot := none
        flags := ⟨false, false, false⟩
        missing := 0
        settling := true
        orders := []
        voice := []
        allCall := none
        counters := Vector.replicate 7 0 }) ∧
      ∀ p, p ≠ [] → exec (.restart o p) s = .next (s.refused o 7)

/-- A posting of an event, which carries the cycle number then current: an Info event is dropped while Info Events is off.
Any other is queued behind every event of its own or a higher class and before every event of a lower one, while fewer
than 32 are queued. At 32 Lost-Events is set, and the newest event of the lowest class queued makes room for an event of a
higher class; else the new event is discarded. Nothing else changes. Fetch Events removes 1 to 5 events from the head,
answers with Lost-Events as it stood, the events left and the events removed in queue order, the kinds numbered in the
order of Table 11-2, and clears Lost-Events; another length is refused with Bad Argument (R123, R153, R165 to R168,
Table 12-9; the flag's byte, 1 or 0, is log 32). -/
def Obligations.EventsAreQueuedByClassAndFetched : Prop :=
  let rank := fun c : EventClass => match c with | .info => 0 | .notice => 1 | .warning => 2 | .alarm => 3
  (∀ (s : State) (cls : EventClass) (kind : EventKind) (port : Option PortId) (id : Option HeadsetId)
    (lane : Option LaneId) (detail : Byte), eventsOk s.events →
    let e : Event := ⟨cls, kind, s.timer.cycle, port, id, lane, detail⟩
    let dropped := cls = .info ∧ s.params.infoEvents = false
    let placed := fun q q' : List Event => ∃ before after, q = before ++ after ∧ q' = before ++ e :: after ∧
      (∀ x ∈ before, rank cls ≤ rank x.cls) ∧ ∀ x ∈ after, rank x.cls < rank cls
    ∃ t : State, s.post cls kind port id lane detail = t ∧
      t = { s with events := t.events, lostEvents := t.lostEvents } ∧
      (dropped → t = s) ∧
      (¬dropped → s.events.length < 32 → t.lostEvents = s.lostEvents ∧ placed s.events t.events) ∧
      (¬dropped → s.events.length = 32 → t.lostEvents = true ∧
        ((∀ x ∈ s.events, rank cls ≤ rank x.cls) → t.events = s.events) ∧
        ∀ before after x, s.events = before ++ x :: after → rank x.cls < rank cls →
          (∀ y ∈ s.events, rank x.cls ≤ rank y.cls) → (∀ y ∈ after, y.cls ≠ x.cls) →
          placed (before ++ after) t.events)) ∧
  ∀ (o : Origin) (s : State), o.lane = .primary → (s.lane o.lane).queue.length < 16 →
    (∀ n : Byte,
      let k := max 1 (min n.toNat 5)
      let code := fun kind : EventKind => byteOf (1 + [EventKind.powerOn, .restartDone, .registrationPending,
        .registrationFull, .headsetAttached, .attachFailed, .rescueStarted, .handoffDone, .handoffFailed, .linkLost,
        .headsetDropped, .freezeExpired, .freezeRequested, .portCondition, .orderLost, .portIsolated, .portRecovered,
        .clockHoldover, .clockRestored, .cycleRenumbered].idxOf kind)
      let line := fun e : Event => [code e.kind, byteOf (rank e.cls)] ++ halfBytes e.cycle ++
        [match e.port with | none => 0xFF | some p => byteOf p.val] ++ idBytes (e.id.getD 0) ++
        [match e.lane with | none => 0xFF | some n => byteOf n.val, e.detail]
      ∃ out left, out ++ left = s.events ∧ out.length = min k s.events.length ∧
        exec (.fetchEvents o [n]) s = .next (({ s with events := left, lostEvents := false } : State).done o
          ([if s.lostEvents then 1 else 0, byteOf left.length] ++ out.flatMap line))) ∧
      ∀ p : List Byte, p.length ≠ 1 → exec (.fetchEvents o p) s = .next (s.refused o 7)

/-! ### Table loading -/

/-- Load Translate writes its values from the start index upward, a value above 127 as 127, ignores values past index
255, and answers with the number written; no other entry and nothing else changes. Read Translate answers with the
levels from the start index upward, as many as its count brought into 1 to 54 and not beyond index 255, and changes
nothing but the response. Each refuses another length or a class above 3 with Bad Argument (R159, R160). -/
def Obligations.TranslateTablesAreLoadedAndRead : Prop :=
  ∀ (o : Origin) (s : State), o.lane = .primary → (s.lane o.lane).queue.length < 16 →
    (∀ (c : ClassId) (start : Byte) (vs : List Byte), 1 ≤ vs.length → vs.length ≤ 56 →
      ∃ t : State, exec (.loadTranslate o (byteOf c.val :: start :: vs)) s =
          .next (t.done o [byteOf (if start.toNat + vs.length ≤ 256 then vs.length else 256 - start.toNat)]) ∧
        t = { s with tables := t.tables } ∧
        ∀ (k : ClassId) (i : Fin 256), (t.level k i).val =
          match if k = c ∧ start.toNat ≤ i.val then vs[i.val - start.toNat]? else none with
          | some v => min v.toNat 127
          | none => (s.level k i).val) ∧
      (∀ p : List Byte, p.length < 3 ∨ 58 < p.length ∨ (∃ b rest, p = b :: rest ∧ 3 < b.toNat) →
        exec (.loadTranslate o p) s = .next (s.refused o 7)) ∧
      (∀ (c : ClassId) (start n : Byte), ∃ x, exec (.readTranslate o [byteOf c.val, start, n]) s = .next (s.done o x) ∧
        x.length = min (max 1 (min n.toNat 54)) (256 - start.toNat) ∧
        ∀ i (h : i < x.length) (h' : start.toNat + i < 256), x[i].toNat = (s.level c ⟨start.toNat + i, h'⟩).val) ∧
      ∀ p : List Byte, p.length ≠ 3 ∨ (∃ b rest, p = b :: rest ∧ 3 < b.toNat) →
        exec (.readTranslate o p) s = .next (s.refused o 7)

/-- Set Window stores bounds in order within 23 and a mode of 0 to 2, puts the pointer at the first cell and answers with
no payload; another length or a mode above 2 is refused with Bad Argument, bad bounds with Bad Window (that the mode is
judged before the bounds is log 22). Write Window stores its bytes at successive cells from the pointer, in Mirrored at
the transposed cells too, the last write of a cell standing: the relation from bits 0 and 1, code 3 as Barred, the offset
from bits 4 to 7. It answers with the count, whether the pointer wrapped, and the pointer; nothing else changes but the
response. An empty payload or one above 58 bytes is refused with Bad Argument
(R161 to R163). -/
def Obligations.WindowIsSetAndWritten : Prop :=
  ∀ (o : Origin) (s : State), o.lane = .primary → (s.lane o.lane).queue.length < 16 →
    let stored := fun b : Byte =>
      (⟨if b.toNat % 4 = 0 then .normal else if b.toNat % 4 = 1 then .preferred else .barred,
        BitVec.ofNat 4 (b.toNat / 16)⟩ : Neighbour)
    (∀ (rs re cs ce : Fin 24) (m : OrderMode), rs ≤ re → cs ≤ ce →
      exec (.setWindow o [byteOf rs.val, byteOf re.val, byteOf cs.val, byteOf ce.val,
          match m with | .rowMajor => 0 | .columnMajor => 1 | .mirrored => 2]) s =
        .next (({ s with window := ⟨rs, re, cs, ce, m, rs, cs⟩ } : State).done o [])) ∧
      (∀ rs re cs ce m : Byte, 2 < m.toNat → exec (.setWindow o [rs, re, cs, ce, m]) s = .next (s.refused o 7)) ∧
      (∀ rs re cs ce m : Byte, m.toNat ≤ 2 →
        (re.toNat < rs.toNat ∨ ce.toNat < cs.toNat ∨ 23 < rs.toNat ∨ 23 < re.toNat ∨ 23 < cs.toNat ∨ 23 < ce.toNat) →
        exec (.setWindow o [rs, re, cs, ce, m]) s = .next (s.refused o 9)) ∧
      (∀ p : List Byte, p.length ≠ 5 → exec (.setWindow o p) s = .next (s.refused o 7)) ∧
      (s.window.ok → ∀ bytes : List Byte, 1 ≤ bytes.length → bytes.length ≤ 58 →
        ∃ (t : State) (row col : Fin 24), s.window.cellPast bytes.length = some (row, col) ∧
          exec (.writeWindow o bytes) s = .next (t.done o [byteOf bytes.length,
            if s.window.order.length ≤ s.window.place + bytes.length then 1 else 0, byteOf row.val, byteOf col.val]) ∧
          t = { s with matrix := t.matrix, window := { s.window with row := row, col := col } } ∧
          ∀ r c : Fin 24, t.cell r c =
            match (List.range bytes.length).reverse.find? fun j =>
              s.window.cellPast j = some (r, c) ∨ s.window.mode = .mirrored ∧ s.window.cellPast j = some (c, r) with
            | some j => stored (bytes.getD j 0)
            | none => s.cell r c) ∧
      ∀ p : List Byte, p = [] ∨ 58 < p.length → exec (.writeWindow o p) s = .next (s.refused o 7)

/-- Read Window answers with the entries from the pointer, as many as its count brought into 1 to 54, going round the
window, each with its relation code in bits 0 and 1, bits 2 and 3 at 0 and its offset in bits 4 to 7, and moves the
pointer past them; nothing else changes but the response. Another length is refused with Bad
Argument (R161, R164). -/
def Obligations.ReadWindowReturnsTheCells : Prop :=
  ∀ (o : Origin) (s : State), o.lane = .primary → (s.lane o.lane).queue.length < 16 → s.window.ok →
    let read := fun e : Neighbour =>
      byteOf ((match e.relation with | .normal => 0 | .preferred => 1 | .barred => 2) + 16 * e.offset.toNat)
    (∀ n : Byte, ∃ (x : List Byte) (row col : Fin 24), x.length = max 1 (min n.toNat 54) ∧
      s.window.cellPast x.length = some (row, col) ∧
      exec (.readWindow o [n]) s =
        .next (({ s with window := { s.window with row := row, col := col } } : State).done o x) ∧
      ∀ j, j < x.length → ∃ r c, s.window.cellPast j = some (r, c) ∧ x.getD j 0 = read (s.cell r c)) ∧
      ∀ p : List Byte, p.length ≠ 1 → exec (.readWindow o p) s = .next (s.refused o 7)

/-! ### The order queue and Port Control -/

/-- A request to queue an order of a kind for headset x: a Drop cancels a waiting Acquire, an Acquire takes a waiting
Drop out and stands last, an order already waiting stays alone, and any other is queued last while fewer than 16 wait. At
16 the oldest order for x is replaced in its place; where there is none an Acquire is refused and a Drop or Deny
discarded, with Order Drops counted and Order Lost posted. A port in OFF or ISOLATED queues and counts nothing; no
request changes anything else (R118 to R120). -/
def Obligations.OrderRequestsFindTheirPlace : Prop :=
  (∀ (q : List Order) (k : OrderKind) (x : HeadsetId),
    let waits := fun k : OrderKind => (⟨k, x⟩ : Order) ∈ q
    let meets := k = .drop ∧ waits .acquire ∨ k = .acquire ∧ waits .drop ∨ waits k
    (waits .acquire → takeOrder q .drop x = (.cancelled, q.filter fun o => o ≠ ⟨.acquire, x⟩)) ∧
      (waits .drop → takeOrder q .acquire x = (.queued, (q.filter fun o => o ≠ ⟨.drop, x⟩) ++ [⟨.acquire, x⟩])) ∧
      (waits k → ¬(k = .drop ∧ waits .acquire) → ¬(k = .acquire ∧ waits .drop) → takeOrder q k x = (.already, q)) ∧
      (¬meets → q.length < 16 → takeOrder q k x = (.queued, q ++ [⟨k, x⟩])) ∧
      (¬meets → 16 ≤ q.length → ∀ before o after, q = before ++ o :: after → o.id = x → (∀ y ∈ before, y.id ≠ x) →
        takeOrder q k x = (.replaced, before ++ ⟨k, x⟩ :: after)) ∧
      (¬meets → 16 ≤ q.length → (∀ y ∈ q, y.id ≠ x) →
        takeOrder q k x = (if k = .acquire then .refused else .discarded, q))) ∧
  ∀ (s : State) (p : PortId) (k : OrderKind) (x : HeadsetId),
    let asked := takeOrder (s.port p).orders k x
    ((s.port p).state = .off ∨ (s.port p).state = .isolated →
      s.requestOrder p k x = (if k = .acquire then .refused else .discarded, s)) ∧
      ((s.port p).state = .active ∨ (s.port p).state = .dormant → asked.1 ≠ .discarded →
        s.requestOrder p k x = (asked.1, s.setPort p { s.port p with orders := asked.2 })) ∧
      ((s.port p).state = .active ∨ (s.port p).state = .dormant → asked.1 = .discarded →
        s.requestOrder p k x = (.discarded, (s.bumpPort p .orderDrops).post .warning .orderLost (some p) (some x) none
          (match k with | .acquire => 1 | .drop => 2 | .deny => 3)))

/-- Activate, Make Dormant of a port not in ACTIVE, Port Reset and Set Class change the one port named as Tables of R106
and R107 give, and answer with its state, return state and class; a port above 23 or a class above 3 is refused with Bad
Argument (R105 to R107). -/
def Obligations.PortControlChangesOnePort : Prop :=
  ∀ (o : Origin) (s : State), o.lane = .primary → (s.lane o.lane).queue.length < 16 →
    (∀ (p : PortId) (cls : Byte),
      let q := s.port p
      let reply := fun x : Port => [byteOf p.val, x.state.code,
        (match x.returnState with | .dormant => 1 | .active => 2), byteOf x.cls.val]
      let gives := fun (c : Instr) (x : Port) => ∃ t : State, exec c s = .next (t.done o (reply x)) ∧ s.PortBecomes t p x
      gives (.activate o (byteOf p.val) cls) (match q.state with
        | .off => { q with state := .active, missing := 0, settling := true }
        | .dormant => { q with state := .active }
        | .active => q
        | .isolated => { q with returnState := .active }) ∧
      (q.state ≠ .active → gives (.makeDormant o (byteOf p.val) cls) (match q.state with
        | .off => { q with state := .dormant, missing := 0, settling := true }
        | .dormant => q
        | .active => q
        | .isolated => { q with returnState := .dormant })) ∧
      gives (.portReset o (byteOf p.val) cls) { q with
        gatherSlot := none
        earlySlot := none
        flags := ⟨false, false, false⟩
        missing := 0
        orders := []
        voice := []
        allCall := none
        counters := Vector.replicate 7 0
        settling := true } ∧
      ∀ k : ClassId, gives (.setClass o (byteOf p.val) (byteOf k.val)) { q with cls := k }) ∧
      (∀ port cls : Byte, 23 < port.toNat → ∀ c : Instr,
        c = .activate o port cls ∨ c = .makeDormant o port cls ∨ c = .turnOff o port cls ∨ c = .portReset o port cls ∨
          c = .setClass o port cls → exec c s = .next (s.refused o 7)) ∧
      ∀ port cls : Byte, 3 < cls.toNat → exec (.setClass o port cls) s = .next (s.refused o 7)

/-- Make Dormant and Turn Off of an ACTIVE port move every record off it as R23 and R24 give: promoted to its target,
searching without its antennas, or with its attempt failed and the port barred. On account of each in ascending index,
and in this order, a Drop is asked of the port when it went DORMANT, Handoffs Done or Handoffs Failed is counted, the
target of a lost bridge takes a Drop with its load lowered, and the record's event is posted; the port's load ends at 0.
A port gone DORMANT then removes its Acquires and keeps all else, a port turned off is emptied; no other port changes but
in its orders and counters. Turn Off of a port in DORMANT or ISOLATED empties it, and of one in OFF changes nothing
(R23, R24, R105 to R107; that a failed attach keeps its timer and its other unnamed fields is log 12, that settling too
stays at an OFF port is log 14). -/
def Obligations.PortLeavingServiceMovesItsRecords : Prop :=
  ∀ (o : Origin) (p : PortId) (cls : Byte) (s : State), o.lane = .primary → (s.lane o.lane).queue.length < 16 →
    s.RecordsOk → s.LoadsOk →
    let reply := fun x : Port => [byteOf p.val, x.state.code,
      (match x.returnState with | .dormant => 1 | .active => 2), byteOf x.cls.val]
    let gone := fun new : PortState => s.leftBy p (decide (new = .dormant)) (s.setPort p { s.port p with state := new })
    let lost := fun q : PortId => ((List.finRange 192).filter fun r =>
      decide ((s.record r).serving = some p ∧ (s.record r).target = some q ∧ (s.record r).accepted = false)).length
    let promoted := ((List.finRange 192).filter fun r =>
      decide ((s.record r).serving = some p ∧ (s.record r).state = .bridging ∧ (s.record r).accepted = true)).length
    let failed := ((List.finRange 192).filter fun r =>
      decide ((s.record r).target = some p ∧ (s.record r).state = .bridging)).length
    let moved := fun (u t : State) => (∀ r, t.record r = (s.record r).departed p s.params.barTime) ∧
      (∀ q, t.load q = if q = p then 0 else s.load q - lost q) ∧
      (s.CountersOk → ∀ k, t.roamCounters.get k = min 65535 (s.roamCounters.get k +
        (if k = RoamCounter.handoffsDone.index then promoted
          else if k = RoamCounter.handoffsFailed.index then failed else 0))) ∧
      (∀ q, q ≠ p → t.port q = u.port q ∧
        { t.port q with orders := (s.port q).orders, counters := (s.port q).counters } = s.port q) ∧
      t = { u with ports := t.ports, records := t.records, loads := t.loads } ∧
      t = { s with
        ports := t.ports
        records := t.records
        loads := t.loads
        roamCounters := t.roamCounters
        events := t.events
        lostEvents := t.lostEvents }
    let emptied := { s.port p with
      state := .off
      gatherSlot := none
      earlySlot := none
      orders := []
      voice := []
      allCall := none
      missing := 0
      settling := false
      flags := ⟨false, false, false⟩ }
    ((s.port p).state = .active →
      (∃ t : State, exec (.makeDormant o (byteOf p.val) cls) s = .next (t.done o (reply (t.port p))) ∧
        moved (gone .dormant) t ∧
        t.port p = { (gone .dormant).port p with
          orders := ((gone .dormant).port p).orders.filter fun x => x.kind ≠ .acquire } ∧
        (t.port p).state = .dormant ∧
        { t.port p with
          state := .active
          orders := (s.port p).orders
          counters := (s.port p).counters } = s.port p) ∧
      ∃ t : State, exec (.turnOff o (byteOf p.val) cls) s = .next (t.done o (reply (t.port p))) ∧
        moved (gone .off) t ∧ t.port p = emptied) ∧
      ((s.port p).state = .dormant ∨ (s.port p).state = .isolated →
        exec (.turnOff o (byteOf p.val) cls) s =
          .next (((s.setPort p emptied).setLoad p 0).done o (reply emptied))) ∧
      ((s.port p).state = .off →
        exec (.turnOff o (byteOf p.val) cls) s = .next (s.done o (reply (s.port p))))

/-! ### Commands on the roaming table -/

/-- A selector that resolves to no record refuses Release, Read Record and Force Handoff alike: an index above 191 or a
kind above 1 with Bad Argument, an ID not canonical with Bad Identifier, an ID no record holds with Not Found; so does a
payload of another length with Bad Argument. Read Record of a record named by index or by ID answers with the 16 + 6n
bytes of Table 12-8, in any state, from either lane under any authority. Nothing changes but the response (R5, R26,
R172). -/
def Obligations.SelectorsNameRecordsAndReadReportsThem : Prop :=
  (∀ (o : Origin) (s : State), o.lane = .primary → (s.lane o.lane).queue.length < 16 →
    (∀ (k a b c antenna : Byte) (i : Instr),
      i = .release o [k, a, b, c] ∨ i = .readRecord o [k, a, b, c] ∨ i = .forceHandoff o [k, a, b, c, antenna] →
      (1 < k.toNat → exec i s = .next (s.refused o 7)) ∧
        (k = 0 → 191 < (id24 a b c).toNat → exec i s = .next (s.refused o 7)) ∧
        (k = 1 → canonical (id24 a b c) = false → exec i s = .next (s.refused o 8)) ∧
        (k = 1 → canonical (id24 a b c) = true →
          (∀ r, (s.record r).id = some (id24 a b c) → (s.record r).state = .free) →
          exec i s = .next (s.refused o 10))) ∧
      (∀ p : List Byte, p.length ≠ 4 → exec (.release o p) s = .next (s.refused o 7) ∧
        exec (.readRecord o p) s = .next (s.refused o 7)) ∧
      ∀ p : List Byte, p.length ≠ 5 → exec (.forceHandoff o p) s = .next (s.refused o 7)) ∧
  ∀ (o : Origin) (s : State) (r : RecordIx) (sel : List Byte), (s.lane o.lane).queue.length < 16 →
    (sel = [0, 0, 0, byteOf r.val] ∨
      ∃ x, canonical x = true ∧ (s.record r).id = some x ∧ (s.record r).state ≠ .free ∧
        (∀ r', (s.record r').id = some x → r' = r) ∧ sel = 1 :: idBytes x) →
    let rd := s.record r
    let antenna := fun a : Option PortId => match a with | none => (0xFF : Byte) | some p => byteOf p.val
    let entry := fun c : Candidate =>
      [byteOf (c.antenna.val + if rd.serving = some c.antenna ∨ rd.target = some c.antenna then 128 else 0)] ++
        natBytes c.q ++ [byteOf c.absent] ++ natBytes c.bar
    let x := [byteOf r.val,
        (match rd.state with | .free => 0 | .searching => 1 | .attaching => 2 | .active => 3 | .bridging => 4)] ++
      idBytes (rd.id.getD 0) ++ [match rd.lane with | none => 0xFF | some n => byteOf n.val] ++
      [antenna rd.serving, antenna rd.target,
        byteOf ((if rd.accepted then 1 else 0) + (if rd.deferred then 2 else 0) +
          (match rd.kind with | none => 0 | some .automatic => 4 | some .rescue => 8 | some .forced => 12)),
        byteOf rd.timer, antenna rd.dwellTarget, byteOf rd.dwellCount, byteOf rd.miss] ++ natBytes rd.orphan ++
      [byteOf rd.cands.length] ++ rd.cands.flatMap entry
    exec (.readRecord o sel) s = .next (s.done o x) ∧ x.length = 16 + 6 * rd.cands.length

/-- Release of a record in use frees it: Drops at the ports it names, their loads lowered, its lane unbound with a silent
hold, and the answer its index, ID, lane and former state. No event is posted but an Order Lost, with an Order Drop
counted, for each Drop that a full queue discards (R119). An index whose record is FREE is refused with Not Found (R22,
R25, R84, R91; that the serving port's Order Lost comes first is log 28). -/
def Obligations.ReleaseFreesTheRecord : Prop :=
  ∀ (o : Origin) (s : State) (r : RecordIx), o.lane = .primary ∨ s.params.authority = .full →
    (s.lane o.lane).queue.length < 16 → s.RecordsOk →
    ((s.record r).state = .free → exec (.release o [0, 0, 0, byteOf r.val]) s = .next (s.refused o 10)) ∧
      ∀ (x : HeadsetId) (n : LaneId), (s.record r).id = some x → (s.record r).lane = some n →
        ∀ sel : List Byte, sel = [0, 0, 0, byteOf r.val] ∨ sel = 1 :: idBytes x →
        ∃ t : State, exec (.release o sel) s =
            .next (t.done o ([byteOf r.val] ++ idBytes x ++ [byteOf n.val, (s.record r).state.code])) ∧
          s.DroppedAt t (s.record r).antennas x ∧
          t.events = (s.postLostDrops (s.record r).antennas x).events ∧
          t.lostEvents = (s.postLostDrops (s.record r).antennas x).lostEvents ∧
          (∀ q, t.record q = if q = r then Record.free else s.record q) ∧
          (∀ m, t.binding m = if m = n then none else s.binding m) ∧
          (∀ m, t.holdOf m = if m = n then ⟨zeroBlock, false, s.params.concealLimit⟩ else s.holdOf m) ∧
          t = { s with
            ports := t.ports
            loads := t.loads
            records := t.records
            bindings := t.bindings
            holds := t.holds
            events := t.events
            lostEvents := t.lostEvents }

/-- Force Handoff makes its checks in their order, a FREE record being Not Found, answers No Change for the serving
antenna, and else begins a Forced bridge at once: the record BRIDGING to the target with its dwell cleared and an entry
for the target, which in a full list takes the place of the unpinned entry of lowest quality, the latest among equals; the
load raised, and the Acquire taken as the order queue decides. At a full queue without an order for the headset the
bridge fails at once: the record stays ACTIVE, with the entry and without a bar, Handoffs Failed is counted, Handoff
Failed is posted, and the answer is Queue Full (R39, R55, R56, R67, R68). -/
def Obligations.ForceHandoffBeginsABridge : Prop :=
  ∀ (o : Origin) (s : State) (r : RecordIx) (antenna : Byte), o.lane = .primary ∨ s.params.authority = .full →
    (s.lane o.lane).queue.length < 16 →
    ((s.record r).state = .free →
      exec (.forceHandoff o ([0, 0, 0, byteOf r.val] ++ [antenna])) s = .next (s.refused o 10)) ∧
    ∀ x : HeadsetId, s.RecordsOk → (s.record r).id = some x →
    ∀ sel : List Byte, sel = [0, 0, 0, byteOf r.val] ∨ sel = 1 :: idBytes x →
    let rd := s.record r
    let run := exec (.forceHandoff o (sel ++ [antenna])) s
    let reply := fun outcome : Byte => [byteOf r.val] ++ idBytes x ++
      [match rd.serving with | none => 0xFF | some a => byteOf a.val, outcome]
    (rd.state ≠ .active → run = .next (s.refused o 12)) ∧
      (rd.state = .active →
        (23 < antenna.toNat → run = .next (s.refused o 7)) ∧
        ∀ t : PortId, antenna = byteOf t.val →
          let eligible := (s.port t).state = .active ∧ (s.port t).flags.rfOverload = false ∧
            (s.port t).flags.referenceLost = false
          let asked := takeOrder (s.port t).orders .acquire x
          let entered := fun cands : List Candidate =>
            ((∃ c ∈ rd.cands, c.antenna = t) → cands = rd.cands) ∧
              ((∀ c ∈ rd.cands, c.antenna ≠ t) →
                (rd.cands.length < 4 → cands = rd.cands ++ [⟨t, 0, 0, 0⟩]) ∧
                (4 ≤ rd.cands.length → (rd.cands.map (·.antenna)).Nodup → ∀ before v after,
                  rd.cands = before ++ v :: after → rd.serving ≠ some v.antenna →
                  (∀ c ∈ before, rd.serving = some c.antenna ∨ v.q ≤ c.q) →
                  (∀ c ∈ after, rd.serving = some c.antenna ∨ v.q < c.q) → cands = before ++ after ++ [⟨t, 0, 0, 0⟩]))
          (¬eligible → run = .next (s.refused o 14)) ∧
          (eligible → 12 ≤ s.load t → run = .next (s.refused o 13)) ∧
          (eligible → s.load t < 12 → rd.serving = some t → run = .next (s.done o (reply 0))) ∧
          (eligible → s.load t < 12 → rd.serving ≠ some t → ∃ (u : State) (cands : List Candidate), entered cands ∧
            (asked.1 ≠ .refused → run = .next (u.done o (reply 1)) ∧
              u = { s with records := u.records, loads := u.loads, ports := u.ports } ∧
              (∀ q, u.record q = if q = r then { rd with
                state := .bridging
                target := some t
                accepted := false
                kind := some .forced
                timer := 0
                dwellTarget := none
                dwellCount := 0
                deferred := false
                cands := cands } else s.record q) ∧
              (∀ q, u.load q = if q = t then s.load t + 1 else s.load q) ∧
              ∀ q, u.port q = if q = t then { s.port t with orders := asked.2 } else s.port q) ∧
            (asked.1 = .refused → run = .next (u.done o (reply 2)) ∧
              u = ((s.setRecord r { rd with
                timer := 0
                dwellTarget := none
                dwellCount := 0
                deferred := false
                cands := cands }).bumpRoam .handoffsFailed).post .notice .handoffFailed (some t) (some x) rd.lane 1)))

/-- Freeze On and Off taken with authority set or end the freeze and clear Freeze Request; from the secondary lane under
authority None they only set it, with Freeze Requested posted, or clear it. The answer is the freeze as the command has
left it (R51, R52, R172). -/
def Obligations.FreezeOrRequest : Prop :=
  ∀ (o : Origin) (d : Half) (s : State), (s.lane o.lane).queue.length < 16 →
    let n := max 1 (min d.toNat 15000)
    let reply := fun f : Freeze => [byteOf ((if f.active then 1 else 0) + (if f.requested then 2 else 0))] ++
      natBytes f.remaining
    let becomes := fun f : Freeze => (({ s with freeze := f } : State).done o (reply f))
    (o.lane = .primary ∨ s.params.authority ≠ .noAuthority →
      exec (.freezeOn o d) s = .next (becomes ⟨true, n, false⟩) ∧
        exec (.freezeOff o d) s = .next (becomes ⟨false, 0, false⟩)) ∧
      (o.lane = .secondary → s.params.authority = .noAuthority →
        exec (.freezeOn o d) s = .next ((({ s with freeze := { s.freeze with requested := true } } : State).post
            .notice .freezeRequested none none none (byteOf (min (n / 64) 255))).done o
              (reply { s.freeze with requested := true })) ∧
        exec (.freezeOff o d) s = .next (becomes { s.freeze with requested := false }))

/-! ### Admission -/

/-- Fetch Registrations answers with the number of entries and up to four entries from its start position, and changes
nothing but the response; a start above 15 or another length is refused with Bad Argument (R75). -/
def Obligations.FetchRegistrationsReadsFour : Prop :=
  ∀ (o : Origin) (s : State), o.lane = .primary → (s.lane o.lane).queue.length < 16 →
    (∀ start : Byte, start.toNat ≤ 15 → ∃ es : List Registration, es.length = min 4 (s.registrations.length - start.toNat) ∧
      (∀ i (h : i < es.length), s.registrations[start.toNat + i]? = some es[i]) ∧
      exec (.fetchRegistrations o [start]) s = .next (s.done o
        ([byteOf s.registrations.length, byteOf es.length] ++ es.flatMap fun e =>
          idBytes e.id ++ [byteOf e.antenna.val, byteOf e.level.val] ++ halfBytes e.firstHeard ++
            halfBytes e.lastHeard))) ∧
      (∀ start : Byte, 15 < start.toNat → exec (.fetchRegistrations o [start]) s = .next (s.refused o 7)) ∧
      ∀ p : List Byte, p.length ≠ 1 → exec (.fetchRegistrations o p) s = .next (s.refused o 7)

/-- Admit makes the checks of R81 in their order, and each refuses the command with its own reason and changes nothing
but the response (R81, R138). -/
def Obligations.AdmitChecksInOrder : Prop :=
  ∀ (o : Origin) (a b c sel : Byte) (s : State), o.lane = .primary → (s.lane o.lane).queue.length < 16 → s.LaneMapOk →
    let x := id24 a b c
    let run := exec (.admitHeadset o [a, b, c, sel]) s
    let held := ∃ r, (s.record r).state ≠ .free ∧ (s.record r).id = some x
    let room := ∃ r, (s.record r).state = .free
    let named := ∃ n : LaneId, n.val = sel.toNat ∧ n.val < s.partition.fixed ∧ s.params.allCall ≠ some n
    (canonical x = false → run = .next (s.refused o 8)) ∧
      (canonical x = true → held → run = .next (s.refused o 11)) ∧
      (canonical x = true → ¬held → ¬room → run = .next (s.refused o 16)) ∧
      (canonical x = true → ¬held → room → sel ≠ 0xFF → ¬named → run = .next (s.refused o 7)) ∧
      (canonical x = true → ¬held → room → sel ≠ 0xFF → named →
        (∀ n : LaneId, n.val = sel.toNat → s.binding n ≠ none) → run = .next (s.refused o 12)) ∧
      (canonical x = true → ¬held → room → sel = 0xFF →
        (∀ n : LaneId, s.partition.fixed ≤ n.val → n.val < s.partition.fixed + s.partition.pool →
          s.binding n ≠ none) → run = .next (s.refused o 15)) ∧
      ∀ p : List Byte, p.length ≠ 4 → exec (.admitHeadset o p) s = .next (s.refused o 7)

/-- Admit binds the lane named, or the pool lane found from the cursor, to the FREE record of lowest index with a silent
hold, removes the ID's registration and listing, and answers index, lane and state. The record searches with an empty
list, or seeded from its registration; it attaches at once when the seeded antenna is usable and meets the Reacquire
Level, with the load raised and the Acquire taken as the order queue decides. At a full queue without an order for the
headset the attach fails at once: the record searches, nothing is barred, and Attach Failed is posted (R11, R12, R39,
R41, R81 to R83). -/
def Obligations.AdmitMakesTheRecord : Prop :=
  ∀ (o : Origin) (x : HeadsetId) (sel : Byte) (r : RecordIx) (n : LaneId) (cursor : Nat) (s : State),
    o.lane = .primary → (s.lane o.lane).queue.length < 16 → s.LaneMapOk → s.AdmissionOk → canonical x = true →
    (∀ q, (s.record q).state ≠ .free → (s.record q).id ≠ some x) →
    (s.record r).state = .free → (∀ q, q < r → (s.record q).state ≠ .free) →
    (sel ≠ 0xFF ∧ n.val = sel.toNat ∧ n.val < s.partition.fixed ∧ s.params.allCall ≠ some n ∧ s.binding n = none ∧
        cursor = s.cursor ∨
      sel = 0xFF ∧ s.PoolChoice n ∧
        cursor = if n.val + 1 = s.partition.fixed + s.partition.pool then s.partition.fixed else n.val + 1) →
    let bare : Record := { Record.free with state := .searching, id := some x, lane := some n }
    ∃ t : State, exec (.admitHeadset o (idBytes x ++ [sel])) s =
        .next (t.done o [byteOf r.val, byteOf n.val, (t.record r).state.code]) ∧
      (∀ m, t.binding m = if m = n then some r else s.binding m) ∧
      (∀ m, t.holdOf m = if m = n then ⟨zeroBlock, false, s.params.concealLimit⟩ else s.holdOf m) ∧
      t.cursor = cursor ∧ t.registrations = s.registrations.filter (fun e => e.id ≠ x) ∧
      t.denials = s.denials.filter (fun d => d.id ≠ x) ∧ (∀ q, q ≠ r → t.record q = s.record q) ∧
      t = { s with
        bindings := t.bindings
        holds := t.holds
        cursor := t.cursor
        registrations := t.registrations
        fullReported := t.fullReported
        denials := t.denials
        records := t.records
        loads := t.loads
        ports := t.ports
        events := t.events
        lostEvents := t.lostEvents } ∧
      ((∀ e ∈ s.registrations, e.id ≠ x) → t.record r = bare ∧ t.loads = s.loads ∧ t.ports = s.ports ∧
        t.events = s.events) ∧
      ∀ e ∈ s.registrations, e.id = x →
        let fit := (s.port e.antenna).state = .active ∧ (s.port e.antenna).flags.rfOverload = false ∧
          (s.port e.antenna).flags.referenceLost = false ∧ s.load e.antenna < 12 ∧
          s.params.reacquireLevel ≤ e.level.val
        let seeded := { bare with cands := [⟨e.antenna, 16 * e.level.val, 0, 0⟩] }
        let asked := takeOrder (s.port e.antenna).orders .acquire x
        t.fullReported = false ∧
          (¬fit → t.record r = seeded ∧ t.loads = s.loads ∧ t.ports = s.ports ∧ t.events = s.events) ∧
          (fit → asked.1 ≠ .refused →
            t.record r = { seeded with state := .attaching, target := some e.antenna } ∧
            (∀ p, t.load p = if p = e.antenna then s.load p + 1 else s.load p) ∧
            (∀ p, t.port p = if p = e.antenna then { s.port p with orders := asked.2 } else s.port p) ∧
            t.events = s.events) ∧
          (fit → asked.1 = .refused → t.record r = seeded ∧ t.loads = s.loads ∧ t.ports = s.ports ∧
            t.events = (s.post .notice .attachFailed (some e.antenna) (some x) (some n) 1).events ∧
            t.lostEvents = (s.post .notice .attachFailed (some e.antenna) (some x) (some n) 1).lostEvents)

/-- Deny refuses an ID not canonical with Bad Identifier and one a record holds with Busy; else it removes the ID's
registration, asks its best antenna's port in service for a Deny order, lists the ID in the newest place for the Deny
Hold, and answers what it did. The order counts as taken where one already waits, where it is queued last, and where at
a full queue it replaces the oldest order for the ID; a full queue with none discards it, which is counted and posted and
answered as not taken (R77, R119). -/
def Obligations.DenyListsTheHeadset : Prop :=
  ∀ (o : Origin) (a b c : Byte) (s : State), o.lane = .primary → (s.lane o.lane).queue.length < 16 → s.AdmissionOk →
    let x := id24 a b c
    let run := exec (.deny o [a, b, c]) s
    let held := ∃ r, (s.record r).state ≠ .free ∧ (s.record r).id = some x
    let others := s.denials.filter fun d => d.id ≠ x
    let listed := fun t : State => t.denials =
        (if others.length = 8 then others.drop 1 else others) ++ [⟨x, s.params.denyHold⟩] ∧
      t.registrations = s.registrations.filter (fun e => e.id ≠ x) ∧
      t = { s with
        registrations := t.registrations
        fullReported := t.fullReported
        denials := t.denials
        ports := t.ports
        events := t.events
        lostEvents := t.lostEvents }
    (canonical x = false → run = .next (s.refused o 8)) ∧
      (canonical x = true → held → run = .next (s.refused o 12)) ∧
      (canonical x = true → ¬held → (∀ e ∈ s.registrations, e.id ≠ x) → ∃ t : State, listed t ∧ t.ports = s.ports ∧
        t.events = s.events ∧ run = .next (t.done o ([0, 0xFF] ++ natBytes s.params.denyHold))) ∧
      (canonical x = true → ¬held → ∀ e ∈ s.registrations, e.id = x → ∃ t : State, listed t ∧ t.fullReported = false ∧
        let p := e.antenna
        let q := (s.port p).orders
        let queues := fun q' : List Order =>
          (∀ a, t.port a = if a = p then { s.port p with orders := q' } else s.port a) ∧ t.events = s.events ∧
            t.lostEvents = s.lostEvents ∧ run = .next (t.done o ([3, byteOf p.val] ++ natBytes s.params.denyHold))
        (((s.port p).state = .off ∨ (s.port p).state = .isolated) → t.ports = s.ports ∧ t.events = s.events ∧
          run = .next (t.done o ([1, 0xFF] ++ natBytes s.params.denyHold))) ∧
        (((s.port p).state = .active ∨ (s.port p).state = .dormant) →
          ((⟨.deny, x⟩ : Order) ∈ q → queues q) ∧
          ((⟨.deny, x⟩ : Order) ∉ q → q.length < 16 → queues (q ++ [⟨.deny, x⟩])) ∧
          ((⟨.deny, x⟩ : Order) ∉ q → 16 ≤ q.length → ∀ before y after, q = before ++ y :: after → y.id = x →
            (∀ z ∈ before, z.id ≠ x) → queues (before ++ ⟨.deny, x⟩ :: after)) ∧
          (16 ≤ q.length → (∀ y ∈ q, y.id ≠ x) → t.ports = (s.bumpPort p .orderDrops).ports ∧
            t.events = (s.post .warning .orderLost (some p) (some x) none 3).events ∧
            t.lostEvents = (s.post .warning .orderLost (some p) (some x) none 3).lostEvents ∧
            run = .next (t.done o ([1, 0xFF] ++ natBytes s.params.denyHold))))) ∧
      ∀ p : List Byte, p.length ≠ 3 → exec (.deny o p) s = .next (s.refused o 7)

/-! ### Cycle starts and arrivals -/

/-- In Holdover and Local a local cycle start advances the number by 1, 16 sixteenths after the latest start, schedules
the close of the cycle just ended by the Gather Delay, places every downlink send, counts down freeze and Deny List, ages
the registrations by the new number, and sends one upstream frame with that number; in Follow none is due (R6, R53, R74,
R76, R92, R124, R127, R129, R130; the order inside the start is log 7, that the close's intake waits is log 33). -/
def Obligations.LocalCycleStartBeginsTheNextCycle : Prop :=
  ∀ (order : StartOrder) (s : State),
    (s.timer.clock = .follow → exec (.localCycleStart order) s = .next s) ∧
      (s.timer.clock ≠ .follow → ∃ t : State, exec (.localCycleStart order) s = .next t ∧
        t.timer = s.timerStarted s.timer.clock (s.timer.cycle + 1) (s.timer.lastStart + 16) ∧
        t.pendingClose = some ⟨s.timer.cycle, s.timer.lastStart + 16 + s.params.gatherDelay⟩ ∧
        (∀ p, t.sendDue.get p = true) ∧
        t.freeze = (if s.freeze.active = true then
          if s.freeze.remaining ≤ 1 then ⟨false, 0, s.freeze.requested⟩
          else { s.freeze with remaining := s.freeze.remaining - 1 }
          else s.freeze) ∧
        t.registrations = s.registrations.filter (fun e =>
          (s.timer.cycle + 1 - e.lastHeard).toNat < s.params.registrationAge) ∧
        t.denials = (s.denials.filter fun d => 1 < d.remaining).map (fun d => { d with remaining := d.remaining - 1 }) ∧
        t.upstreamOut.length = 4115 ∧ t.upstreamOut.take 2 = halfBytes (s.timer.cycle + 1) ∧
        t = { s with
          timer := t.timer
          pendingClose := t.pendingClose
          sendDue := t.sendDue
          freeze := t.freeze
          registrations := t.registrations
          fullReported := t.fullReported
          denials := t.denials
          upstreamOut := t.upstreamOut
          holds := t.holds
          laneCounters := t.laneCounters
          primary := t.primary
          secondary := t.secondary
          holdRequests := t.holdRequests
          ports := t.ports
          records := t.records
          loads := t.loads
          bindings := t.bindings
          roamCounters := t.roamCounters
          intakes := t.intakes
          isolationDue := t.isolationDue
          events := t.events
          lostEvents := t.lostEvents })

/-- In Follow the expiry of the holdover watch enters Holdover, or Local when Clock Source is Local, with a cycle start 20
sixteenths after the later of the latest start and the latest arrival; entering Holdover posts Clock Holdover with the
new number. In Holdover and Local no watch runs (R126, R130). -/
def Obligations.HoldoverWatchEntersHoldover : Prop :=
  ∀ (order : StartOrder) (s : State),
    (s.timer.clock ≠ .follow → exec (.holdoverWatchExpiry order) s = .next s) ∧
      (s.timer.clock = .follow → ∃ t : State, exec (.holdoverWatchExpiry order) s = .next t ∧
        t.timer = s.timerStarted .holdover (s.timer.cycle + 1) (max s.timer.lastStart s.timer.lastArrival + 20) ∧
        t.pendingClose =
          some ⟨s.timer.cycle, max s.timer.lastStart s.timer.lastArrival + 20 + s.params.gatherDelay⟩ ∧
        (∀ p, t.sendDue.get p = true) ∧ t.upstreamOut.take 2 = halfBytes (s.timer.cycle + 1) ∧
        (s.pendingClose = none → s.freeze.active = false → s.events.length < 32 →
          t.events = if s.params.clockSource = .localSource then s.events
            else placeEvent ⟨.alarm, .clockHoldover, s.timer.cycle + 1, none, none, none, 0⟩ s.events) ∧
        t = { s with
          timer := t.timer
          pendingClose := t.pendingClose
          sendDue := t.sendDue
          freeze := t.freeze
          registrations := t.registrations
          fullReported := t.fullReported
          denials := t.denials
          upstreamOut := t.upstreamOut
          holds := t.holds
          laneCounters := t.laneCounters
          primary := t.primary
          secondary := t.secondary
          holdRequests := t.holdRequests
          ports := t.ports
          records := t.records
          loads := t.loads
          bindings := t.bindings
          roamCounters := t.roamCounters
          intakes := t.intakes
          isolationDue := t.isolationDue
          events := t.events
          lostEvents := t.lostEvents })

/-- A downstream matrix frame is a cycle start in Follow, and in Holdover from 8 sixteenths after the latest start on: it
begins the cycle it is stamped, and when that is not the next number every port's Gathering cycle becomes the number
before it, its slots are empty, and Cycle Renumbered is posted. Earlier in Holdover it returns the timer to Follow without
a cycle start; in Local only its time is recorded. A return from Holdover posts Clock Restored, with detail 1 for a cycle
start. No command in the frame changes this, and a frame of filler with every lane Idle does nothing else (R126 to R130;
that the start precedes the frame's commands is log 8, that a Restart among them keeps the sends due is log 19, that Clock
Restored comes before the start is log 20, that a start which ends in Local renumbers too is log 27). -/
def Obligations.ArrivalIsACycleStartByTheClock : Prop :=
  ∀ (after : Nat) (order : StartOrder) (frame : List Byte) (s : State), frame.length = 4115 →
    let n := half (frame.getD 0 0) (frame.getD 1 0)
    let next := s.timer.cycle + 1
    let time := s.timer.lastStart + after
    let filler := (∀ b ∈ frame.drop 3, b = 0) ∧ s.parsedControl = s.partition.control
    let restored := fun detail : Byte =>
      placeEvent ⟨.notice, .clockRestored, s.timer.cycle, none, none, none, detail⟩ s.events
    ∃ t : State, exec (.downstreamArrival after order frame) s = .next t ∧ t.pending = s.pending ∧
      (s.timer.clock = .follow ∨ s.timer.clock = .holdover ∧ 8 ≤ after →
        t.timer = { s.timerStarted .follow n time with lastArrival := time } ∧
          t.pendingClose = some ⟨n - 1, time + s.params.gatherDelay⟩ ∧ (∀ p, t.sendDue.get p = true) ∧
          t.upstreamOut.take 2 = halfBytes n ∧
          (n ≠ next → ∀ p, (t.port p).gathering = n - 1 ∧ (t.port p).gatherSlot = none ∧
            (t.port p).earlySlot = none) ∧
          (filler → s.pendingClose = none → s.freeze.active = false → s.events.length < 31 →
            let events := if s.timer.clock = .holdover then restored 1 else s.events
            t.events = if n = next then events
              else placeEvent ⟨.warning, .cycleRenumbered, n, none, none, none, next.setWidth 8⟩ events)) ∧
      (s.timer.clock = .holdover → after < 8 →
        t.timer = { s.timer with clock := .follow, lastArrival := time } ∧ t.pendingClose = s.pendingClose ∧
          t.sendDue = s.sendDue ∧ t.upstreamOut = s.upstreamOut ∧
          (filler → s.events.length < 32 → t = { s with timer := t.timer, events := restored 0 })) ∧
      (s.timer.clock = .localClock →
        t.timer = { s.timer with lastArrival := time } ∧ t.pendingClose = s.pendingClose ∧ t.sendDue = s.sendDue ∧
          t.upstreamOut = s.upstreamOut ∧
          (filler → t = { s with timer := { s.timer with lastArrival := time } }))

/-- An upstream transmit sends one frame: the number, the clock state and whether C is 2, and of each of the 64 lanes the
status and the block that the lane sends in the state the transmit finds, with what the lane leaves behind. Each cycle
start, whatever makes it, makes the pending close, begins its number, lowers the freeze count, ending the freeze with
Freeze Expired at 0, ages the registrations by the new number, lowers the Deny List counts, and places the close and the
downlink sends. It makes one transmit, after all this or by the operand before the close, with the hold writes still
waiting all taken first, oldest first, or none. A watch expiry posts Clock Holdover before a transmit that is not taken
first (R6, R53, R74, R76, R88, R92, R95, R124 to R127; the order inside the start is log 7, that hold writes are taken
oldest first is log 23, that all or none are taken before the transmit is log 30, that the close's intake and isolations
wait until the start is done is logs 33 and 6). -/
def Obligations.UpstreamFrameCarriesEveryLane : Prop :=
  (∀ u : State, u.partition.control = 1 ∨ u.partition.control = 2 →
    let lane := fun n : LaneId => sendLane n u
    let code := fun n : LaneId =>
      match (lane n).1.status with | .idle => 0 | .fresh => 1 | .concealed => 2 | .silence => 3
    let flags := (match u.timer.clock with | .follow => 0 | .holdover => 1 | .localClock => 2) +
      if u.partition.control = 2 then 4 else 0
    let statuses := (List.finRange 16).map fun k => byteOf (code ⟨4 * k.val, by omega⟩ +
      4 * code ⟨4 * k.val + 1, by omega⟩ + 16 * code ⟨4 * k.val + 2, by omega⟩ + 64 * code ⟨4 * k.val + 3, by omega⟩)
    let t := transmit u
    t.upstreamOut = halfBytes u.timer.cycle ++ [byteOf flags] ++ statuses ++
        (List.finRange 64).flatMap (fun n => (lane n).1.block.toList) ∧
      (∀ n, t.holdOf n = (lane n).2.holdOf n ∧ t.laneCounters.get n = (lane n).2.laneCounters.get n) ∧
      t.primary = (lane 63).2.primary ∧ t.secondary = (lane 62).2.secondary ∧
      t = { u with
        upstreamOut := t.upstreamOut
        holds := t.holds
        laneCounters := t.laneCounters
        primary := t.primary
        secondary := t.secondary }) ∧
  (∀ (s w : State), (s.holdRequests = [] → takeHoldRequests s = s) ∧
    (exec .holdWrite s = .next w → takeHoldRequests s = takeHoldRequests w)) ∧
  ∀ (order : StartOrder) (s : State),
    let sent := fun v : State => transmit (if order.writesFirst then takeHoldRequests v else v)
    let counted := fun v t : State =>
      let ends := v.freeze.active = true ∧ v.freeze.remaining ≤ 1
      let kept := v.registrations.filter fun e => (v.timer.cycle - e.lastHeard).toNat < v.params.registrationAge
      let told := if ends then v.post .notice .freezeExpired none none none 0 else v
      t = { v with
        pendingClose := some ⟨v.timer.cycle - 1, v.timer.lastStart + v.params.gatherDelay⟩
        sendDue := Vector.replicate 24 true
        freeze := if ends then ⟨false, 0, v.freeze.requested⟩
          else if v.freeze.active = true then { v.freeze with remaining := v.freeze.remaining - 1 } else v.freeze
        registrations := kept
        fullReported := if kept.length = v.registrations.length then v.fullReported
          else v.fullReported && decide (16 ≤ kept.length)
        denials := (v.denials.filter fun d => 1 < d.remaining).map fun d => { d with remaining := d.remaining - 1 }
        events := told.events
        lostEvents := told.lostEvents }
    (∀ (n : CycleNo) (time : Nat) (w : State),
      let begun := fun v : State => { v with timer := s.timerStarted s.timer.clock n time }
      (exec .cycleClose s = .next w → counted (begun w) (startCycle n time s)) ∧
        (exec .cycleClose (sent (begun s)) = .next w → counted w (startTransmitted order n time s))) ∧
      (s.timer.clock ≠ .follow →
        let n := s.timer.cycle + 1
        let time := s.timer.lastStart + 16
        exec (.localCycleStart order) s =
          .next (if order.transmitFirst then startTransmitted order n time s else sent (startCycle n time s))) ∧
      (s.timer.clock = .follow →
        let n := s.timer.cycle + 1
        let time := max s.timer.lastStart s.timer.lastArrival + 20
        let held : State := { s with timer := { s.timer with clock := .holdover } }
        let alarm := fun v : State =>
          if v.timer.clock = .holdover then v.post .alarm .clockHoldover none none none 0 else v
        exec (.holdoverWatchExpiry order) s =
          .next (if order.transmitFirst then alarm (startTransmitted order n time held)
            else sent (alarm (startCycle n time held))))

/-- A downstream arrival is taken whole: every voice lane is distributed, the secondary lane is retired when C is 1 and
was 2 at the arrival before, then the block of lane 63 is parsed and, when C is 2, the block of lane 62, under the C the
arrival found whatever its commands do. An arrival that is no cycle start does this at once, a return from Holdover after
posting Clock Restored. One that is a cycle start does it after its start and its renumbering, before or after the
transmit as the operand says (R96, R126 to R128, R132, R133; the orders are logs 6, 7, 8, 20, 27, 29, 31 and 33, the
ascending lanes log 25). -/
def Obligations.ArrivalDistributesThenParses : Prop :=
  ∀ (after : Nat) (order : StartOrder) (frame : List Byte) (s : State), frame.length = 4115 →
    let n := half (frame.getD 0 0) (frame.getD 1 0)
    let next := s.timer.cycle + 1
    let time := s.timer.lastStart + after
    let run := exec (.downstreamArrival after order frame) s
    let arrived : State := { s with timer := { s.timer with lastArrival := time } }
    let restored := fun detail : Byte =>
      State.post { s with timer := { s.timer with clock := .follow, lastArrival := time } }
        .notice .clockRestored none none none detail
    let taken := fun v : State =>
      let control := v.partition.control
      let block := fun lane : Nat => (frame.drop (19 + 64 * lane)).take 64
      let voice := (List.finRange 64).filter fun m => m.val < 64 - control
      let ready : State := { voice.foldl (distributeLane frame) v with
        secondary := if control = 1 ∧ v.parsedControl = 2 then ⟨[], false, false, 0⟩ else v.secondary
        parsedControl := control }
      let first := parseBlock .primary 64 (block 63) ready
      if control = 2 then parseBlock .secondary 64 (block 62) first else first
    let renumbered := fun v : State =>
      if n = next then v
      else State.post { v with ports := vofFn fun p =>
          { v.port p with gathering := n - 1, gatherSlot := none, earlySlot := none } }
        .warning .cycleRenumbered none none none (next.setWidth 8)
    let starts := fun v : State =>
      if order.transmitFirst = true ∧ n = next then taken (startTransmitted order n time v)
      else if order.commandsFirst then transmitAt order (taken (renumbered (startCycle n time v)))
      else taken (transmitAt order (renumbered (startCycle n time v)))
    (s.timer.clock = .follow → run = .next (starts arrived)) ∧
      (s.timer.clock = .holdover → 8 ≤ after → run = .next (starts (restored 1))) ∧
      (s.timer.clock = .holdover → after < 8 → run = .next (taken (restored 0))) ∧
      (s.timer.clock = .localClock → run = .next (taken arrived))

/-! ### The close -/

/-- CYCLE_CLOSE treats the records in ascending index, each as the close found it in a state that the records before it
have left. A record not FREE then passes its six stages in their order on the bursts that carry its ID: completion,
measurement, miss count, voice, timers, decision; a record that a stage frees makes no decision. The bursts are those of
the Gathering frames, ports in ascending number, Voice from ACTIVE ports alone. Hold-write requests are handed over in
ascending index, and the Register bursts whose ID no record held as the close began go to the registration intake
(R7 to R10, R71, R88; that they are judged as the close began is log 21). -/
def Obligations.CloseTreatsEachRecordInSixStages : Prop :=
  ∀ (s : State) (c : CloseDue), s.pendingClose = some c →
    let evidence := (List.finRange 24).flatMap fun p => match (s.port p).gatherSlot with
      | none => []
      | some f => (f.bursts.filter fun b => match (s.port p).state, b.kind with
        | .active, _ => true
        | .dormant, .voice _ => false
        | .dormant, _ => true
        | .off, _ => false
        | .isolated, _ => false).map fun b => (⟨p, b⟩ : Evidence)
    let stages := fun (u : State) (r : RecordIx) =>
      let mine := evidence.filter fun e => (u.record r).id = some e.burst.id
      let measured := measureStage mine r (completionStage mine r u)
      let counted := missStage (heardCycle mine (measured.record r)) r measured
      let timed := timerStage r (voiceStage (u.record r) mine r counted)
      if (u.record r).state = .free then u
      else if (timed.record r).state = .free then timed else decisionStage r timed
    let start : State := { s with pendingClose := none }
    let found := fun r : RecordIx => ((List.finRange 192).filter fun q => q < r).foldl stages start
    let done := (List.finRange 192).foldl stages start
    let handed := (evidence.filter fun e => e.burst.kind = .register ∧
      ∀ r, (s.record r).state = .free ∨ (s.record r).id ≠ some e.burst.id).map fun e =>
        (⟨e.port, e.burst.id, e.burst.level⟩ : Heard)
    ∃ t : State, exec .cycleClose s = .next t ∧
      (∀ r, (found r).record r = s.record r ∧ t.record r = (stages (found r) r).record r) ∧
      (∃ requests, t.holdRequests = s.holdRequests ++ requests ∧
        (requests.map (·.index)).Pairwise (· < ·)) ∧
      t.intakes = s.intakes ++ (if handed = [] then [] else [⟨c.cycle, handed⟩]) ∧
      (∀ p, (t.port p).orders = (done.port p).orders ∧ (t.port p).counters = (done.port p).counters) ∧
      t = { done with ports := t.ports, intakes := t.intakes, isolationDue := t.isolationDue }

/-- CYCLE_CLOSE makes the close that is scheduled: it leaves FREE records as they are, and at its end each port in ACTIVE
or DORMANT discards its Gathering frame or counts a missing cycle, moves its Early frame up, and takes the next Gathering
cycle, as every other port does; a port whose missing count has reached Link Timeout is due to be isolated. Without a
scheduled close nothing is due (R6, R8, R115; the mark of an isolation due and the missing count's stop at 250 are
log 6). -/
def Obligations.CloseConsumesTheFrames : Prop :=
  ∀ s : State, (s.pendingClose = none → exec .cycleClose s = .next s) ∧
    ∀ c, s.pendingClose = some c → ∃ t : State, exec .cycleClose s = .next t ∧
      (∀ p, { t.port p with orders := (s.port p).orders, counters := (s.port p).counters } =
        if (s.port p).state = .active ∨ (s.port p).state = .dormant then
          { s.port p with
            missing := if (s.port p).gatherSlot = none then min ((s.port p).missing + 1) 250 else 0
            gatherSlot := (s.port p).earlySlot
            earlySlot := none
            gathering := c.cycle + 1 }
        else { s.port p with gathering := c.cycle + 1 }) ∧
      (∀ p, t.isolationDue.get p = true ↔ s.isolationDue.get p = true ∨
        ((s.port p).state = .active ∨ (s.port p).state = .dormant) ∧ s.params.linkTimeout ≤ (t.port p).missing) ∧
      (∀ r, (s.record r).state = .free → t.record r = s.record r) ∧
      t = { s with
        pendingClose := none
        ports := t.ports
        records := t.records
        loads := t.loads
        bindings := t.bindings
        holds := t.holds
        roamCounters := t.roamCounters
        events := t.events
        lostEvents := t.lostEvents
        holdRequests := t.holdRequests
        intakes := t.intakes
        isolationDue := t.isolationDue }

/-- Stage 2 of a close, on the list of candidates of a record. The sample of an antenna is the highest level among its
bursts, a damaged one less the Damage Penalty. Each quality moves toward sixteen times its antenna's sample, or toward 0
without one, by the difference over two to the Smoothing Shift truncated toward zero, and stays between 0 and 2032; the
absent count is cleared or raised, and the bar stays. The list is sorted by quality, equals keeping their order, without
the unpinned entries absent for Candidate Stale closes. Then each antenna with a sample and no entry in that list is
offered, highest sample first and lowest antenna first among equals: inserted behind all entries of its quality or more
while there is room, else in place of the unpinned entry of lowest quality, the latest among equals, when strictly better
(R29 to R38; that the offers are fixed before the first is log 24). -/
def Obligations.MeasurementUpdatesTheList : Prop :=
  (∀ (k : Nat) (sample : PortId → Option Nat) (c : Candidate), c.q ≤ 2032 → (∀ a x, sample a = some x → x ≤ 127) →
    let goal : Int := 16 * ((sample c.antenna).getD 0 : Nat)
    let c' := updateEntry k sample c
    (c'.q : Int) = (c.q : Int) + Int.tdiv (goal - c.q) (2 ^ k) ∧ c'.q ≤ 2032 ∧
      c'.absent = (if (sample c.antenna).isSome then 0 else min (c.absent + 1) 255) ∧
      c'.antenna = c.antenna ∧ c'.bar = c.bar) ∧
  (∀ (penalty : Nat) (ev : List Evidence) (a : PortId),
    let value := fun e : Evidence => if e.burst.damaged then e.burst.level.val - penalty else e.burst.level.val
    ((∀ e ∈ ev, e.port ≠ a) → sampleOf penalty ev a = none) ∧
      ∀ e ∈ ev, e.port = a → (∀ y ∈ ev, y.port = a → value y ≤ value e) →
        sampleOf penalty ev a = some (value e)) ∧
  (∀ (pinned : PortId → Bool) (a : PortId) (x : Nat) (l : List Candidate),
    let placed := fun l : List Candidate => l.takeWhile (fun y => decide (16 * x ≤ y.q)) ++
      ⟨a, 16 * x, 0, 0⟩ :: l.dropWhile fun y => decide (16 * x ≤ y.q)
    (l.length < 4 → offer pinned a x l = placed l) ∧
      (4 ≤ l.length → (∀ c ∈ l, pinned c.antenna = true) → offer pinned a x l = l) ∧
      (4 ≤ l.length → (l.map (·.antenna)).Nodup → ∀ before v after, l = before ++ v :: after →
        pinned v.antenna = false → (∀ c ∈ before, pinned c.antenna = true ∨ v.q ≤ c.q) →
        (∀ c ∈ after, pinned c.antenna = true ∨ v.q < c.q) →
        offer pinned a x l = if v.q < 16 * x then placed (before ++ after) else l)) ∧
  ∀ (r : RecordIx) (ev : List Evidence) (s : State),
    let rd := s.record r
    let sample := sampleOf s.params.damagePenalty ev
    let fresh := (rd.cands.map (updateEntry s.params.smoothingShift sample)).filter fun c =>
      rd.pinned c.antenna || decide (c.absent < s.params.candidateStale)
    ∃ (kept : List Candidate) (offered : List (PortId × Nat)),
      kept.Perm fresh ∧ (kept.Pairwise fun x y => y.q ≤ x.q) ∧
        (∀ q, kept.filter (fun c => c.q = q) = fresh.filter fun c => c.q = q) ∧
        (∀ a x, (a, x) ∈ offered ↔ sample a = some x ∧ ∀ c ∈ kept, c.antenna ≠ a) ∧
        (offered.Pairwise fun x y => y.2 < x.2 ∨ x.2 = y.2 ∧ x.1 < y.1) ∧
        measureStage ev r s = s.setRecord r { rd with
          cands := offered.foldl (fun l o => offer rd.pinned o.1 o.2 l) kept }

/-- Stage 6 of a close. An ACTIVE record, of its first entry whose antenna is usable and not Barred from the serving
antenna x: unheard for the Rescue Threshold it begins a Rescue to it; else it asks whether the entry's quality is strictly
above the serving quality and the margin: then the dwell counts it, and at the required dwell a bridge of kind Automatic
begins, or Deferred is set under a freeze; else the dwell is cleared. A SEARCHING record attaches on its first entry that
is usable and meets the Reacquire Level. The Acquire is taken as the order queue decides; at a full queue without an
order for the headset the bridge or attach fails at once without a bar, counted and posted. Any other record is left as
it is (R12, R18, R41, R42, R44 to R49, R55, R56). -/
def Obligations.DecisionWaitsForMarginAndDwell : Prop :=
  (∀ (r : RecordIx) (x : PortId) (own : Candidate) (s : State),
    (s.record r).state = .active → (s.record r).serving = some x →
    (s.record r).cands.find? (fun c => c.antenna = x) = some own →
    let rd := s.record r
    let unheard := s.params.rescueThreshold ≤ rd.miss
    let free := fun c : Candidate => (s.port c.antenna).state = .active ∧ (s.port c.antenna).flags.rfOverload = false ∧
      (s.port c.antenna).flags.referenceLost = false ∧ s.load c.antenna < 12 ∧ c.bar = 0 ∧ c.antenna ≠ x ∧
      (s.cell x c.antenna).relation ≠ .barred
    let cleared := s.setRecord r { rd with dwellTarget := none, dwellCount := 0, deferred := false }
    ((∀ c ∈ rd.cands, ¬free c) → decisionStage r s = cleared) ∧
      ∀ (before after : List Candidate) (b : Candidate), rd.cands = before ++ b :: after →
        (∀ c ∈ before, ¬free c) → free b →
        let margin := 16 * max 0 ((s.params.hysteresisMargin : Int) + (s.cell x b.antenna).offset.toInt)
        let passes := (own.q : Int) + margin < b.q
        let need := if (s.cell x b.antenna).relation = .preferred then (s.params.dwell + 1) / 2 else s.params.dwell
        let count := if rd.dwellTarget = some b.antenna then min need (rd.dwellCount + 1) else 1
        let counted : Record := { rd with
          dwellTarget := some b.antenna
          dwellCount := count
          deferred := if rd.dwellTarget = some b.antenna then rd.deferred else false }
        let asked := takeOrder (s.port b.antenna).orders .acquire (rd.id.getD 0)
        let idle : Record := { rd with
          target := none
          accepted := false
          kind := none
          timer := 0
          dwellTarget := none
          dwellCount := 0
          deferred := false }
        let begins := fun (k : BridgeKind) (u : State) =>
          (asked.1 ≠ .refused → ∃ t : State, decisionStage r s = t ∧
            t = { u with records := t.records, loads := t.loads, ports := t.ports } ∧
            (∀ q, t.record q = if q = r then { idle with
              state := .bridging
              target := some b.antenna
              kind := some k } else s.record q) ∧
            (∀ p, t.load p = if p = b.antenna then s.load p + 1 else s.load p) ∧
            ∀ p, t.port p = if p = b.antenna then { s.port p with orders := asked.2 } else s.port p) ∧
          (asked.1 = .refused → decisionStage r s = ((u.setRecord r idle).bumpRoam .handoffsFailed).post
            .notice .handoffFailed (some b.antenna) rd.id rd.lane 1)
        (unheard → begins .rescue ((s.bumpRoam .rescues).post
          .notice .rescueStarted (some b.antenna) rd.id rd.lane 0)) ∧
          (¬unheard → ¬passes → decisionStage r s = cleared) ∧
          (¬unheard → passes → count ≠ need → decisionStage r s = s.setRecord r counted) ∧
          (¬unheard → passes → count = need → s.freeze.active = true →
            decisionStage r s = s.setRecord r { counted with deferred := true }) ∧
          (¬unheard → passes → count = need → s.freeze.active = false → begins .automatic s)) ∧
  ∀ (r : RecordIx) (s : State),
    let rd := s.record r
    let fit := fun c : Candidate => (s.port c.antenna).state = .active ∧ (s.port c.antenna).flags.rfOverload = false ∧
      (s.port c.antenna).flags.referenceLost = false ∧ s.load c.antenna < 12 ∧ c.bar = 0 ∧
      16 * s.params.reacquireLevel ≤ c.q
    (rd.state ≠ .active → rd.state ≠ .searching → decisionStage r s = s) ∧
      (rd.state = .searching → (∀ c ∈ rd.cands, ¬fit c) → decisionStage r s = s) ∧
      ∀ (before after : List Candidate) (b : Candidate), rd.state = .searching → rd.cands = before ++ b :: after →
        (∀ c ∈ before, ¬fit c) → fit b →
        let asked := takeOrder (s.port b.antenna).orders .acquire (rd.id.getD 0)
        let begun := fun (st : RecordState) (a : Option PortId) =>
          ({ rd with state := st, target := a, accepted := false, timer := 0 } : Record)
        (asked.1 ≠ .refused → ∃ t : State, decisionStage r s = t ∧
          t = { s with records := t.records, loads := t.loads, ports := t.ports } ∧
          (∀ q, t.record q = if q = r then begun .attaching (some b.antenna) else s.record q) ∧
          (∀ p, t.load p = if p = b.antenna then s.load p + 1 else s.load p) ∧
          ∀ p, t.port p = if p = b.antenna then { s.port p with orders := asked.2 } else s.port p) ∧
        (asked.1 = .refused → decisionStage r s = (s.setRecord r (begun .searching none)).post
          .notice .attachFailed (some b.antenna) rd.id rd.lane 1)

/-- What ends an attempt at an antenna p: an Acquire Result from another port, or for an ID that no record attempts
there, changes nothing; Accepted sets target accepted; No Slot fails the attach, or the bridge with a Drop, and bars p.
At stage 1 of a close a Voice burst from p makes it the serving antenna, of a bridge with a Drop at the former one and
Handoff Done; without one the attempt goes on. A Drop that a full queue discards counts an Order Drop of its port and
posts Order Lost before the attempt's own event (R13 to R15, R57 to R59, R61, R119; that a completed and a failed attach
keep the attach timer, Deferred and every other unnamed field is log 12). -/
def Obligations.ResultsAndVoiceEndTheAttempt : Prop :=
  ∀ (p : PortId) (r : RecordIx) (x : HeadsetId) (s : State), s.RecordsOk → (s.record r).id = some x →
    let rd := s.record r
    let barred := rd.cands.map fun c => if c.antenna = p then { c with bar := s.params.barTime } else c
    let framed := fun t : State => t = { s with
      ports := t.ports
      loads := t.loads
      records := t.records
      roamCounters := t.roamCounters
      events := t.events
      lostEvents := t.lostEvents }
    let posted := fun t u : State => t.events = u.events ∧ t.lostEvents = u.lostEvents
    (rd.target ≠ some p → ∀ o, takeAcquireResult p x o s = s) ∧
      (∀ y o, (∀ q, (s.record q).id ≠ some y) → takeAcquireResult p y o s = s) ∧
      (rd.target = some p →
        takeAcquireResult p x .accepted s = s.setRecord r { rd with accepted := true } ∧
        (rd.state = .attaching → takeAcquireResult p x .noSlot s =
          ((s.lowerLoad p).setRecord r { rd with
            state := .searching, target := none, accepted := false, cands := barred }).post
              .notice .attachFailed (some p) (some x) rd.lane 1) ∧
        (rd.state = .bridging → ∃ t : State, takeAcquireResult p x .noSlot s = t ∧ framed t ∧
          s.DroppedAt t [p] x ∧
          (∀ q, t.record q = if q = r then { rd with
            state := .active, target := none, accepted := false, kind := none, timer := 0, dwellTarget := none
            dwellCount := 0, deferred := false, cands := barred } else s.record q) ∧
          t.roamCounters = (s.bumpRoam .handoffsFailed).roamCounters ∧
          posted t ((s.postLostDrops [p] x).post .notice .handoffFailed (some p) (some x) rd.lane 1)) ∧
        ∀ ev : List Evidence,
          let heard := ∃ e ∈ ev, e.port = p ∧ ∃ b, e.burst.kind = .voice b
          (¬heard → completionStage ev r s = s) ∧
            (heard → rd.state = .attaching → completionStage ev r s = ((s.setRecord r { rd with
              state := .active, serving := some p, target := none, accepted := false, orphan := 0, miss := 0
              dwellTarget := none, dwellCount := 0 }).bumpRoam .attaches).post
                .info .headsetAttached (some p) (some x) rd.lane 0) ∧
            ∀ (a : PortId) (k : BridgeKind), heard → rd.state = .bridging → rd.serving = some a → rd.kind = some k →
              ∃ t : State, completionStage ev r s = t ∧ framed t ∧ s.DroppedAt t [a] x ∧
                (∀ q, t.record q = if q = r then { rd with
                  state := .active, serving := some p, target := none, accepted := false, kind := none, timer := 0
                  miss := 0 } else s.record q) ∧
                t.roamCounters = (s.bumpRoam .handoffsDone).roamCounters ∧
                posted t ((s.postLostDrops [a] x).post (if k = .automatic then .info else .notice) .handoffDone
                  (some p) (some x) rd.lane
                  (byteOf (a.val + match k with | .automatic => 0 | .rescue => 32 | .forced => 64))))

/-- LINK_LOST of a carried record whose next unheard cycle brings its miss count to Miss Limit: Drops at the ports it
names, the record SEARCHING with its carriage cleared, Link Lost posted; no other record changes. Where that cycle does
not reach the limit nothing happens. Stage 3 of a close clears the miss count of a carried record that a Voice burst from
its serving antenna, or in BRIDGING from its target, has made heard; without one it raises the count, up to 255, or loses
the link exactly as LINK_LOST does. A Drop that a full queue discards counts an Order Drop of its port and posts Order
Lost before Link Lost (R19, R20, R119; that the row is that one count is log 5). -/
def Obligations.LinkLossAbandonsTheAntennas : Prop :=
  ∀ (r : RecordIx) (s : State), s.RecordsOk →
    let rd := s.record r
    let carried := rd.state = .active ∨ rd.state = .bridging
    let due := carried ∧ s.params.missLimit ≤ min (rd.miss + 1) 255
    (¬due → exec (.linkLost r) s = .next s) ∧
      (due → ∃ t : State, exec (.linkLost r) s = .next t ∧ s.DroppedAt t rd.antennas (rd.id.getD 0) ∧
        (∀ q, t.record q = if q = r then { rd with
          state := .searching
          serving := none
          target := none
          accepted := false
          kind := none
          timer := 0
          dwellTarget := none
          dwellCount := 0
          deferred := false
          miss := 0
          orphan := 0 } else s.record q) ∧
        (let u := (s.postLostDrops rd.antennas (rd.id.getD 0)).post .warning .linkLost rd.serving rd.id rd.lane 0
         t.events = u.events ∧ t.lostEvents = u.lostEvents) ∧
        t = { s with
          ports := t.ports
          loads := t.loads
          records := t.records
          events := t.events
          lostEvents := t.lostEvents }) ∧
      ∀ ev : List Evidence,
        let heard := ∃ e ∈ ev, (∃ b, e.burst.kind = .voice b) ∧
          (rd.serving = some e.port ∨ rd.state = .bridging ∧ rd.target = some e.port)
        let stage := missStage (heardCycle ev rd) r s
        (¬carried → stage = s) ∧
          (carried → heard → 0 < s.params.missLimit → stage = s.setRecord r { rd with miss := 0 }) ∧
          (carried → ¬heard → ¬due → stage = s.setRecord r { rd with miss := min (rd.miss + 1) 255 }) ∧
          (¬heard → due → exec (.linkLost r) s = .next stage)

/-- BRIDGE_TIMEOUT and ATTACH_TIMEOUT of a record whose timer's next count reaches its limit: a Drop at the target and its
load lowered, the target cleared and its entry barred for the Bar Time; a bridge returns to ACTIVE with Handoffs Failed
counted and Handoff Failed posted, an attach to SEARCHING with Attach Failed posted, both with reason Timeout. Where the
count does not reach the limit nothing happens. A Drop that a full queue discards counts an Order Drop of its port and
posts Order Lost before the failure (R16, R60, R61, R63, R119; that a row is that one count is log 5, that a failed
attach keeps its raised attach timer and its other unnamed fields is log 12). -/
def Obligations.TimeoutsEndTheAttempt : Prop :=
  ∀ (r : RecordIx) (s : State), s.RecordsOk →
    let rd := s.record r
    let barred := fun a : PortId => rd.cands.map fun c => if c.antenna = a then { c with bar := s.params.barTime } else c
    let bridge := rd.state = .bridging ∧ s.params.bridgeLimit ≤ rd.timer + 1
    let attach := rd.state = .attaching ∧ s.params.attachLimit ≤ rd.timer + 1
    (¬bridge → exec (.bridgeTimeout r) s = .next s) ∧ (¬attach → exec (.attachTimeout r) s = .next s) ∧
      ∀ a, rd.target = some a →
        (bridge → ∃ t : State, exec (.bridgeTimeout r) s = .next t ∧
          s.DroppedAt t [a] (rd.id.getD 0) ∧
          (∀ q, t.record q = if q = r then { rd with
            state := .active
            target := none
            accepted := false
            kind := none
            timer := 0
            dwellTarget := none
            dwellCount := 0
            deferred := false
            cands := barred a } else s.record q) ∧
          t.roamCounters = (s.bumpRoam .handoffsFailed).roamCounters ∧
          (let u := (s.postLostDrops [a] (rd.id.getD 0)).post .notice .handoffFailed (some a) rd.id rd.lane 2
           t.events = u.events ∧ t.lostEvents = u.lostEvents) ∧
          t = { s with
            ports := t.ports
            loads := t.loads
            records := t.records
            roamCounters := t.roamCounters
            events := t.events
            lostEvents := t.lostEvents }) ∧
        (attach → ∃ t : State, exec (.attachTimeout r) s = .next t ∧
          s.DroppedAt t [a] (rd.id.getD 0) ∧
          (∀ q, t.record q = if q = r then { rd with
            state := .searching
            target := none
            accepted := false
            timer := rd.timer + 1
            cands := barred a } else s.record q) ∧
          (let u := (s.postLostDrops [a] (rd.id.getD 0)).post .notice .attachFailed (some a) rd.id rd.lane 2
           t.events = u.events ∧ t.lostEvents = u.lostEvents) ∧
          t = { s with
            ports := t.ports
            loads := t.loads
            records := t.records
            events := t.events
            lostEvents := t.lostEvents })

/-- HEADSET_DROPPED of a record without a serving antenna whose next count brings its orphan timer to Lost Hold: a Drop at
its target if it attaches, the record freed, its lane unbound with a silent hold, and Headset Dropped posted with the ID
and lane it held; a Drop that a full queue discards counts an Order Drop of its port and posts Order Lost before that.
Where the count does not reach Lost Hold nothing happens (R21, R22, R84, R119; log 5). -/
def Obligations.LostHoldFreesTheRecord : Prop :=
  ∀ (r : RecordIx) (s : State), s.RecordsOk →
    let rd := s.record r
    let due := (rd.state = .searching ∨ rd.state = .attaching) ∧ s.params.lostHold ≤ rd.orphan + 1
    (¬due → exec (.headsetDropped r) s = .next s) ∧
      ∀ n, due → rd.lane = some n → ∃ t : State, exec (.headsetDropped r) s = .next t ∧
        s.DroppedAt t rd.antennas (rd.id.getD 0) ∧
        (∀ q, t.record q = if q = r then Record.free else s.record q) ∧
        (∀ m, t.binding m = if m = n then none else s.binding m) ∧
        (∀ m, t.holdOf m = if m = n then ⟨zeroBlock, false, s.params.concealLimit⟩ else s.holdOf m) ∧
        (let u := (s.postLostDrops rd.antennas (rd.id.getD 0)).post .warning .headsetDropped none rd.id (some n) 0
         t.events = u.events ∧ t.lostEvents = u.lostEvents) ∧
        t = { s with
          ports := t.ports
          loads := t.loads
          records := t.records
          bindings := t.bindings
          holds := t.holds
          events := t.events
          lostEvents := t.lostEvents }

/-- The rows that name the end of a count take that count's last step and nothing else: a bar timer from 1 to 0, a freeze
with 1 cycle left to its end with Freeze Expired, registrations at their age out of the queue, a denial with 1 cycle left
off the list. Stage 5 of a close takes bridge timer, attach timer, orphan timer and bar timers in this order, each in the
state the one before has left: a timer that runs is raised by 1, or at its limit does exactly what its row does; then
every bar timer above 0 is lowered by 1, but for the antenna that a timeout of this stage has barred (R8, R16, R17, R21,
R53, R60, R74, R76; that a row is the one count is log 5). -/
def Obligations.CountsReachTheirEnd : Prop :=
  ∀ s : State,
    (∀ (r : RecordIx) (a : PortId), ∃ t : State, exec (.barTimerExpiry r a) s = .next t ∧
      t = { s with records := t.records } ∧
      ∀ q, t.record q = if q = r then { s.record r with
        cands := (s.record r).cands.map fun c => if c.antenna = a ∧ c.bar = 1 then { c with bar := 0 } else c }
        else s.record q) ∧
      (s.freeze.active = true → s.freeze.remaining = 1 → exec .freezeExpired s =
        .next (({ s with freeze := ⟨false, 0, s.freeze.requested⟩ } : State).post
          .notice .freezeExpired none none none 0)) ∧
      (s.freeze.active = false ∨ 1 < s.freeze.remaining → exec .freezeExpired s = .next s) ∧
      (s.AdmissionOk → ∃ t : State, exec .registrationAgeOut s = .next t ∧
        t = { s with registrations := t.registrations, fullReported := t.fullReported } ∧
        t.registrations = s.registrations.filter (fun e =>
          (s.timer.cycle - e.lastHeard).toNat < s.params.registrationAge) ∧
        (t.fullReported = true ↔ s.fullReported = true ∧ t.registrations.length = 16)) ∧
      (s.AdmissionOk → ∀ x, exec (.denyListingExpiry x) s =
        .next { s with denials := s.denials.filter fun d => ¬(d.id = x ∧ d.remaining = 1) }) ∧
      (s.RecordsOk → ∀ r : RecordIx, ∃ u v w : State,
        let rd := s.record r
        let bridgeEnds := rd.state = .bridging ∧ s.params.bridgeLimit ≤ rd.timer + 1
        let attachEnds := rd.state = .attaching ∧ s.params.attachLimit ≤ rd.timer + 1
        let raised := fun (y : State) => y.setRecord r { y.record r with timer := (y.record r).timer + 1 }
        (if bridgeEnds then exec (.bridgeTimeout r) s = .next u
          else u = if rd.state = .bridging then raised s else s) ∧
          (if attachEnds then exec (.attachTimeout r) u = .next v
            else v = if rd.state = .attaching then raised u else u) ∧
          (if (v.record r).state = .searching ∨ (v.record r).state = .attaching then
            if s.params.lostHold ≤ (v.record r).orphan + 1 then exec (.headsetDropped r) v = .next w
            else w = v.setRecord r { v.record r with orphan := (v.record r).orphan + 1 }
            else w = v) ∧
          timerStage r s = w.setRecord r { w.record r with cands := (w.record r).cands.map fun c =>
            if (bridgeEnds ∨ attachEnds) ∧ rd.target = some c.antenna then c else { c with bar := c.bar - 1 } })

/-! ### Voice path and ports -/

/-- Stage 4 of a close selects a carried record's voice: of the clean Voice bursts from the antennas it named as its turn
began, the one of highest level, among equals of two antennas the serving one's, of one antenna the earliest; its block is
handed over for the record's lane, last of the requests. HOLD_WRITE takes the oldest request: carried out when its lane
is bound to its record and the record holds its headset, the block is stored and fresh set, and Uplink Overwrites counted
when a block not yet sent is replaced; else it is dropped; without a request nothing is due. At an upstream transmit a
bound lane sends its block Fresh, repeats it Concealed while its conceal count is below the Conceal Limit, and else sends
zeros with status Silence, with the counts R93 gives; the All-Call lane and an unbound lane are sent Idle and change
nothing (R86 to R88, R90, R92, R93; that the oldest request is taken is log 23). -/
def Obligations.HoldsAreWrittenAndSent : Prop :=
  (∀ (r : RecordIx) (named : Record) (ev : List Evidence) (s : State),
    let rd := s.record r
    let carried := rd.state = .active ∨ rd.state = .bridging
    let copy := fun (e : Evidence) (b : Block) => e.burst.kind = .voice b ∧ e.burst.damaged = false ∧
      (named.serving = some e.port ∨ named.target = some e.port)
    (¬carried ∨ (∀ e ∈ ev, ∀ b, ¬copy e b) → voiceStage named ev r s = s) ∧
      ∀ (before after : List Evidence) (e : Evidence) (b : Block) (n : LaneId), carried → rd.lane = some n →
        ev = before ++ e :: after → copy e b →
        (∀ y ∈ before, ∀ c, copy y c → y.burst.level < e.burst.level ∨
          y.burst.level = e.burst.level ∧ y.port ≠ e.port ∧ named.serving = some e.port) →
        (∀ y ∈ after, ∀ c, copy y c → y.burst.level < e.burst.level ∨
          y.burst.level = e.burst.level ∧ (y.port = e.port ∨ named.serving ≠ some y.port)) →
        voiceStage named ev r s = { s with holdRequests := s.holdRequests ++ [⟨n, r, rd.id.getD 0, b⟩] }) ∧
  (∀ s : State, (s.holdRequests = [] → exec .holdWrite s = .next s) ∧
    ∀ q rest, s.holdRequests = q :: rest →
      let s' : State := { s with holdRequests := rest }
      let stored := s'.setHold q.lane ⟨q.block, true, (s.holdOf q.lane).conceal⟩
      (s.binding q.lane = some q.index → (s.record q.index).id = some q.id → exec .holdWrite s =
        .next (if (s.holdOf q.lane).fresh then stored.bumpLane q.lane .uplinkOverwrites else stored)) ∧
        (s.binding q.lane ≠ some q.index ∨ (s.record q.index).id ≠ some q.id → exec .holdWrite s = .next s')) ∧
    ∀ (n : LaneId) (s : State), n.val < 64 - s.partition.control →
      let h := s.holdOf n
      let zeros : Block := Vector.replicate 64 0
      (s.params.allCall = some n ∨ s.binding n = none → sendLane n s = (⟨.idle, zeros⟩, s)) ∧
        (s.params.allCall ≠ some n → s.binding n ≠ none →
          (h.fresh = true → sendLane n s = (⟨.fresh, h.block⟩, s.setHold n ⟨h.block, false, 0⟩)) ∧
          (h.fresh = false → h.conceal < s.params.concealLimit → sendLane n s = (⟨.concealed, h.block⟩,
            (s.setHold n ⟨h.block, false, h.conceal + 1⟩).bumpLane n .concealedBlocks)) ∧
          (h.fresh = false → s.params.concealLimit ≤ h.conceal →
            sendLane n s = (⟨.silence, zeros⟩, s.bumpLane n .silenceBlocks)))

/-- A voice lane of a downstream frame: with status Voice its block goes, for a bound lane, to the assembly of the
record's serving antenna and of its accepted target, for the All-Call lane to that of every ACTIVE port; a Voice record
of the same headset is replaced, and a thirteenth headset's is not placed, both counted as Downlink Overwrites of the
lane; any other status and an unbound lane change nothing (R96 to R99; that a replacing record stands last is log 15). -/
def Obligations.VoiceIsPlacedWhereTheRecordIsCarried : Prop :=
  ∀ (frame : List Byte) (n : LaneId) (b : Block) (s : State), n.val < 64 - s.partition.control → s.RecordsOk →
    s.CountersOk → (frame.drop (19 + 64 * n.val)).take 64 = b.toList →
    let voice := (frame.getD (3 + n.val / 4) 0).toNat / 4 ^ (n.val % 4) % 4 = 1
    (¬voice → distributeLane frame s n = s) ∧
      (voice → s.params.allCall ≠ some n → s.binding n = none → distributeLane frame s n = s) ∧
      (voice → s.params.allCall = some n → ∃ t : State, distributeLane frame s n = t ∧ t = { s with ports := t.ports } ∧
        ∀ p, t.port p = if (s.port p).state = .active then { s.port p with allCall := some b } else s.port p) ∧
      ∀ r x, voice → s.params.allCall ≠ some n → s.binding n = some r → (s.record r).id = some x →
        let carried := fun p : PortId =>
          decide ((s.record r).serving = some p ∨ (s.record r).target = some p ∧ (s.record r).accepted = true)
        let held := fun p : PortId => (s.port p).voice
        let known := fun p : PortId => (held p).any fun v => decide (v.id = x)
        let lost := (List.finRange 24).filter fun p => carried p && (known p || decide (12 ≤ (held p).length))
        ∃ t : State, distributeLane frame s n = t ∧ t = { s with ports := t.ports, laneCounters := t.laneCounters } ∧
          (∀ p, t.port p = if carried p = true then { s.port p with
            voice := if known p = true then (held p).filter (fun v => v.id ≠ x) ++ [⟨x, n, b⟩]
              else if (held p).length < 12 then held p ++ [⟨x, n, b⟩] else held p } else s.port p) ∧
          ∀ m k, (t.laneCounters.get m).get k =
            if m = n ∧ k = LaneCounter.downlinkOverwrites.index then
              min 65535 ((s.laneCounters.get m).get k + lost.length)
            else (s.laneCounters.get m).get k

/-- DOWNLINK_SEND at a port in ACTIVE or DORMANT sends, once for a cycle start, the cycle number, up to three orders from
the head of its queue, and in ACTIVE the All-Call record and the Voice records in ascending order of lane, records of
one lane as they were placed, closed by the count and the CRC; the orders sent are gone and the assembly is empty. A port
in OFF or ISOLATED sends nothing (R98, R121, R125, Table 12-3). -/
def Obligations.DownlinkSendEmptiesTheAssembly : Prop :=
  ∀ (p : PortId) (s : State),
    let q := s.port p
    let sent : State := { s with sendDue := vset s.sendDue p false }
    (s.sendDue.get p = false → exec (.downlinkSend p) s = .next s) ∧
      (s.sendDue.get p = true → q.state = .off ∨ q.state = .isolated → exec (.downlinkSend p) s = .next sent) ∧
      (s.sendDue.get p = true → q.state = .active ∨ q.state = .dormant →
        ∃ (t : State) (voice : List VoiceRecord), exec (.downlinkSend p) s = .next t ∧
          voice.Perm q.voice ∧ (voice.Pairwise fun x y => x.lane ≤ y.lane) ∧
          (∀ n, voice.filter (fun v => v.lane = n) = q.voice.filter fun v => v.lane = n) ∧
          (let order := fun x : Order =>
              (match x.kind with | .acquire => (0x13 : Byte) | .drop => 0x14 | .deny => 0x15) :: idBytes x.id
            let records := (q.orders.take 3).map order ++ (if q.state = .active then
              (match q.allCall with
                | none => []
                | some b => [[0x12, 0xFF, 0xFF, 0xFF] ++ b.toList]) ++
                voice.map fun v => 0x11 :: (idBytes v.id ++ v.block.toList) else [])
            let body := halfBytes s.timer.cycle ++ [byteOf records.length] ++ records.flatten
            t = { sent with ports := t.ports, downlinkOut := vset s.downlinkOut p (body ++ halfBytes (crc16 body)) }) ∧
          ∀ a, t.port a =
            if a = p then { q with orders := q.orders.drop 3, voice := [], allCall := none } else s.port a)

/-- An uplink frame laid out by Tables 12-1 and 12-2 with at most 16 records is read as what it says, whatever the bits no
field names: bits 3 to 7 of the condition flags and bits 1 to 7 of a record's flags. No other run of bytes is read: a frame
error is a CRC that does not match, a count above 16, behind complete records an unknown kind, an outcome that is neither
Accepted nor No Slot or an end before the record's last byte, an end before the last record, and bytes behind it (R109,
R137, R172; that a run too short for header and CRC is a frame error is log 13). -/
def Obligations.UplinkFrameIsReadAsLaidOut : Prop :=
  (∀ f : Uplink, f.records.length ≤ 16 → parseUplink f.bytes = some f) ∧
  let laid := fun (x : UplinkRecord) (run : List Byte) =>
    match x with
    | .burst id raw damaged kind => ∃ flags : Byte, flags.getLsbD 0 = damaged ∧
      run = (match kind with
        | .voice b => 0x01 :: (idBytes id ++ [raw, flags] ++ b.toList)
        | .monitor => 0x02 :: (idBytes id ++ [raw, flags])
        | .register => 0x03 :: (idBytes id ++ [raw, flags]))
    | .result id .accepted => run = 0x04 :: (idBytes id ++ [0x01])
    | .result id .noSlot => run = 0x04 :: (idBytes id ++ [0x02])
  let size := fun kind : Byte => if kind = 0x01 then 70 else if kind = 0x04 then 5 else 6
  let framed := fun body : List Byte => body ++ halfBytes (crc16 body)
  (∀ (bytes : List Byte) (f : Uplink), parseUplink bytes = some f ↔
    ∃ (flags : Byte) (runs : List (List Byte)), f.records.length ≤ 16 ∧ List.Forall₂ laid f.records runs ∧
      f.flags = ⟨flags.getLsbD 0, flags.getLsbD 1, flags.getLsbD 2⟩ ∧
      bytes = framed (halfBytes f.cycle ++ [flags, byteOf f.records.length] ++ runs.flatten)) ∧
    (∀ body crc : List Byte, crc.length = 2 → crc ≠ halfBytes (crc16 body) → parseUplink (body ++ crc) = none) ∧
    ∀ (c1 c0 flags count : Byte) (xs : List UplinkRecord) (runs : List (List Byte)) (rest : List Byte),
      List.Forall₂ laid xs runs →
      let run := parseUplink (framed ([c1, c0, flags, count] ++ runs.flatten ++ rest))
      (16 < count.toNat → run = none) ∧
        (xs.length < count.toNat → rest = [] → run = none) ∧
        (xs.length = count.toNat → rest ≠ [] → run = none) ∧
        ∀ kind more, xs.length < count.toNat → rest = kind :: more →
          (kind ∉ [0x01, 0x02, 0x03, 0x04] → run = none) ∧
          (more.length + 1 < size kind → run = none) ∧
          ∀ a b c o behind, kind = 0x04 → more = a :: b :: c :: o :: behind → o ≠ 0x01 → o ≠ 0x02 → run = none

/-- UPLINK_FRAME: a port in OFF ignores it; in ACTIVE and DORMANT a frame error, a Late, a Misaligned and an overrunning
frame are counted and discarded, and the settling frame is discarded uncounted; a frame that finds its slot empty is held
there with the levels of its records, its flags latched, its bad IDs and damaged bursts counted; an ACTIVE port then
delivers the Acquire Results of canonical IDs in their order, a DORMANT one ignores them. An ISOLATED port recovers on a
frame whose CRC matches and whose number is in step, whatever its records, and ignores any other (R27, R108 to R114,
R117; that a run too short for header and CRC is a frame error and recovers no port is log 13, as is that a recovering
frame's records are not judged). -/
def Obligations.UplinkFrameFindsItsSlot : Prop :=
  ∀ (p : PortId) (bytes : List Byte) (s : State), s.CountersOk →
    let q := s.port p
    let run := exec (.uplinkFrame p bytes) s
    let body := bytes.take (bytes.length - 2)
    let intact := bytes.drop (bytes.length - 2) = halfBytes (crc16 body)
    (q.state = .off → run = .next s) ∧
      (q.state = .isolated → ¬intact ∨ body.length < 4 → run = .next s) ∧
      (∀ c1 c0 rest, q.state = .isolated → intact → body = c1 :: c0 :: rest → 2 ≤ rest.length →
        let d := (half c1 c0 - q.gathering).toNat
        (d ≤ 1 → run = .next ((s.setPort p { q with
          state := match q.returnState with | .dormant => .dormant | .active => .active
          settling := false }).post .notice .portRecovered (some p) none none
            (match q.returnState with | .dormant => 1 | .active => 2))) ∧
        (1 < d → run = .next s)) ∧
      (q.state = .active ∨ q.state = .dormant → parseUplink bytes = none → run = .next (s.bumpPort p .frameErrors)) ∧
      ∀ f, parseUplink bytes = some f →
        let d := (f.cycle - q.gathering).toNat
        (q.state = .active ∨ q.state = .dormant →
          (65528 ≤ d → run = .next (s.bumpPort p .late)) ∧
          (2 ≤ d → d < 65528 → run = .next (s.bumpPort p .misaligned)) ∧
          (d ≤ 1 →
            let slot := if d = 0 then q.gatherSlot else q.earlySlot
            (slot ≠ none → run = .next (s.bumpPort p .overruns)) ∧
            (slot = none → q.settling = true → run = .next (s.setPort p { q with settling := false })) ∧
            (slot = none → q.settling = false →
              let kept := f.records.filter fun x => canonical x.id
              let results := kept.filterMap fun x => match x with
                | .burst _ _ _ _ => none
                | .result id o => some (id, o)
              let held : HeldFrame := ⟨f.cycle, kept.filterMap fun x => match x with
                | .burst id raw damaged kind => some ⟨id, s.level q.cls ⟨raw.toNat, raw.isLt⟩, damaged, kind⟩
                | .result _ _ => none⟩
              let damaged := (kept.filter fun x => match x with
                | .burst _ _ _ .register => false
                | .burst _ _ d _ => d
                | .result _ _ => false).length
              ∃ t : State, run = .next (if q.state = .active then
                  results.foldl (fun v x => takeAcquireResult p x.1 x.2 v) t else t) ∧
                t = { s with ports := t.ports, events := t.events, lostEvents := t.lostEvents } ∧
                (∀ a, a ≠ p → t.port a = s.port a) ∧
                t.port p = { q with
                  flags := f.flags
                  gatherSlot := if d = 0 then some held else q.gatherSlot
                  earlySlot := if d = 0 then q.earlySlot else some held
                  counters := (t.port p).counters } ∧
                (∀ k, (t.port p).counters.get k = min 65535 (q.counters.get k +
                  (if k = PortCounter.idErrors.index then f.records.length - kept.length
                    else if k = PortCounter.damagedBursts.index then damaged else 0))) ∧
                t.events = (if q.flags = f.flags then s.events
                  else (s.post .warning .portCondition (some p) none none f.flags.byte).events) ∧
                t.lostEvents = (if q.flags = f.flags then s.lostEvents
                  else (s.post .warning .portCondition (some p) none none f.flags.byte).lostEvents))))

/-- PORT_ISOLATED, where a consumption has made it due at a port in service: Port Isolated is posted first, the port
becomes ISOLATED with its state as its return state, the records naming it are moved as R23 and R24 give, on account of
each in ascending index Handoffs Done or Handoffs Failed counted, the target of a lost bridge asked for a Drop and its
load lowered, and the record's event posted; then the port is emptied and its load is 0. Where none is due, or the port
is out of service, nothing happens but that the mark is cleared (R23, R24, R105, R116; the mark is log 6, that a failed
attach keeps its timer and its other unnamed fields is log 12, a port taken out of service and back is log 26). -/
def Obligations.IsolationTakesThePortDown : Prop :=
  ∀ (p : PortId) (s : State), s.RecordsOk → s.LoadsOk →
    let q := s.port p
    let isolated := { q with state := .isolated, returnState := if q.state = .active then .active else .dormant }
    let base : State := { s with isolationDue := vset s.isolationDue p false }
    let u := s.leftBy p false ((base.setPort p isolated).post .alarm .portIsolated (some p) none none
      (if q.state = .active then 2 else 1))
    let lost := fun a : PortId => ((List.finRange 192).filter fun r =>
      decide ((s.record r).serving = some p ∧ (s.record r).target = some a ∧ (s.record r).accepted = false)).length
    (s.isolationDue.get p = false → exec (.portIsolated p) s = .next s) ∧
      (s.isolationDue.get p = true → q.state = .off ∨ q.state = .isolated → exec (.portIsolated p) s = .next base) ∧
      (s.isolationDue.get p = true → q.state = .active ∨ q.state = .dormant →
        ∃ t : State, exec (.portIsolated p) s = .next t ∧
          t.port p = { isolated with
            gatherSlot := none
            earlySlot := none
            orders := []
            voice := []
            allCall := none
            missing := 0
            settling := false } ∧
          (∀ r, t.record r = (s.record r).departed p s.params.barTime) ∧
          (∀ a, t.load a = if a = p then 0 else s.load a - lost a) ∧
          (∀ a, a ≠ p → t.port a = u.port a ∧
            { t.port a with orders := (s.port a).orders, counters := (s.port a).counters } = s.port a) ∧
          t = { u with ports := t.ports, records := t.records, loads := t.loads })

/-- REGISTRATION_INTAKE takes the oldest intake. Its bursts make one report for each ID, in the order of first appearance,
with the ID's highest level and the lowest port that gave it; the reports are taken one after the other, as intakes of one
burst each would be, with at most one Registration Full. A report is disregarded for an ID a record holds or the Deny List
lists; it refreshes the ID's entry, with antenna and level moved only by a strictly higher level; it is inserted last with
Registration Pending while fewer than 16 are queued; else it is ignored, with Registration Full posted once. Without an
intake nothing is due (R71 to R73, R76; that the oldest intake is taken is log 23). -/
def Obligations.RegistrationIntakeTakesEachReport : Prop :=
  (∀ s : State, (s.intakes = [] → exec .registrationIntake s = .next s) ∧
    ∀ (g : CycleNo) (h : Heard) (rest : List Intake), s.intakes = ⟨g, [h]⟩ :: rest → s.AdmissionOk →
      let s' : State := { s with intakes := rest }
      let run := exec .registrationIntake s
      let out := (∃ r, (s.record r).state ≠ .free ∧ (s.record r).id = some h.id) ∨ ∃ d ∈ s.denials, d.id = h.id
      let queued := ∃ e ∈ s.registrations, e.id = h.id
      (out → run = .next s') ∧
        (¬out → queued → run = .next { s' with registrations := s.registrations.map fun e =>
          if e.id = h.id then
            if e.level < h.level then { e with lastHeard := g, antenna := h.port, level := h.level }
            else { e with lastHeard := g }
          else e }) ∧
        (¬out → ¬queued → s.registrations.length < 16 → run = .next (({ s' with
          registrations := s.registrations ++ [⟨h.id, h.port, h.level, g, g⟩] } : State).post
            .notice .registrationPending (some h.port) (some h.id) none (byteOf h.level.val))) ∧
        (¬out → ¬queued → s.registrations.length = 16 → run = .next (if s.fullReported then s'
          else ({ s' with fullReported := true } : State).post
            .warning .registrationFull (some h.port) (some h.id) none 0))) ∧
  ∀ (s : State) (g : CycleNo) (heard : List Heard) (rest : List Intake), s.intakes = ⟨g, heard⟩ :: rest →
    (heard.Pairwise fun x y => x.port ≤ y.port) →
    let first := fun x : HeadsetId => heard.findIdx fun h => h.id = x
    let one := fun (v : State) (h : Heard) =>
      match exec .registrationIntake { v with intakes := ⟨g, [h]⟩ :: rest } with
      | .next t => t
      | .fault _ => v
      | .refused _ => v
    let full := fun t : State => (t.events.filter fun e => e.kind = .registrationFull).length
    ∃ (reports : List Heard) (t : State), exec .registrationIntake s = .next t ∧
      t = reports.foldl one { s with intakes := rest } ∧
      (reports.Pairwise fun x y => first x.id < first y.id) ∧
      (∀ h ∈ heard, ∃ x ∈ reports, x.id = h.id) ∧
      (∀ x ∈ reports, x ∈ heard ∧
        ∀ h ∈ heard, h.id = x.id → h.level < x.level ∨ h.level = x.level ∧ x.port ≤ h.port) ∧
      full t ≤ full s + if s.fullReported then 0 else 1
end

