-- ==== Sys2Proof/Laws/State.lean ====
section
/-! SUPPORT. One lemma per field and per update of the state, so that no proof unfolds a record update; and what reading
one element after writing one gives. -/

namespace Sys2Proof.Machine

/-! ### One element of a vector -/

@[simp] theorem vset_get_same {α : Type} {n : Nat} (v : Vector α n) (i : Fin n) (x : α) : (vset v i x).get i = x := by
  show (v.set i.val x i.isLt)[i.val] = x
  simp

theorem vset_get_other {α : Type} {n : Nat} (v : Vector α n) (i j : Fin n) (x : α) (h : j ≠ i) :
    (vset v i x).get j = v.get j := by
  have : i.val ≠ j.val := fun e => h (Fin.ext e.symm)
  show (v.set i.val x i.isLt)[j.val] = v[j.val]
  simp [this]

/-- Reading element j after element i has been written. -/
theorem vset_get {α : Type} {n : Nat} (v : Vector α n) (i j : Fin n) (x : α) :
    (vset v i x).get j = if j = i then x else v.get j := by
  by_cases h : j = i
  · subst h; simp
  · simp [h, vset_get_other v i j x h]

@[simp] theorem vmap_get {α β : Type} {n : Nat} (f : α → β) (v : Vector α n) (i : Fin n) :
    (vmap f v).get i = f (v.get i) := by
  show (v.toArray.toList.map f)[i.val]'(by simp) = f v[i.val]
  simp

@[simp] theorem vofFn_get {α : Type} {n : Nat} (f : Fin n → α) (i : Fin n) : (vofFn f).get i = f i := by
  show ((List.finRange n).map f)[i.val]'(by simp) = f i
  simp

@[simp] theorem replicate_get {α : Type} {n : Nat} (x : α) (i : Fin n) : (Vector.replicate n x).get i = x := by
  show (Vector.replicate n x)[i.val] = x
  simp

/-! ### One element of the state -/

theorem State.setPort_port (s : State) (p q : PortId) (x : Port) :
    (s.setPort p x).port q = if q = p then x else s.port q := vset_get _ _ _ _

theorem State.modPort_port (s : State) (p q : PortId) (f : Port → Port) :
    (s.modPort p f).port q = if q = p then f (s.port p) else s.port q := vset_get _ _ _ _

theorem State.setRecord_record (s : State) (r q : RecordIx) (x : Record) :
    (s.setRecord r x).record q = if q = r then x else s.record q := vset_get _ _ _ _

theorem State.modRecord_record (s : State) (r q : RecordIx) (f : Record → Record) :
    (s.modRecord r f).record q = if q = r then f (s.record r) else s.record q := vset_get _ _ _ _

theorem State.setLoad_load (s : State) (p q : PortId) (n : Nat) :
    (s.setLoad p n).load q = if q = p then n else s.load q := vset_get _ _ _ _

theorem State.raiseLoad_load (s : State) (p q : PortId) :
    (s.raiseLoad p).load q = if q = p then s.load p + 1 else s.load q := vset_get _ _ _ _

theorem State.lowerLoad_load (s : State) (p q : PortId) :
    (s.lowerLoad p).load q = if q = p then s.load p - 1 else s.load q := vset_get _ _ _ _

theorem State.setHold_holdOf (s : State) (n m : LaneId) (h : Hold) :
    (s.setHold n h).holdOf m = if m = n then h else s.holdOf m := vset_get _ _ _ _

theorem State.silence_holdOf (s : State) (n m : LaneId) :
    (s.silence n).holdOf m = if m = n then Hold.silent s.params.concealLimit else s.holdOf m := vset_get _ _ _ _

theorem State.setBinding_binding (s : State) (n m : LaneId) (r : Option RecordIx) :
    (s.setBinding n r).binding m = if m = n then r else s.binding m := vset_get _ _ _ _

theorem State.returnLane_binding (s : State) (n m : LaneId) :
    (s.returnLane n).binding m = if m = n then none else s.binding m := vset_get _ _ _ _

@[simp] theorem State.setLane_lane_same (s : State) (l : CtlLane) (c : ControlLane) : (s.setLane l c).lane l = c := by
  cases l <;> rfl

theorem State.setLane_lane (s : State) (l m : CtlLane) (c : ControlLane) :
    (s.setLane l c).lane m = if m = l then c else s.lane m := by
  cases l <;> cases m <;> rfl

/-! ### `setPort` -/

@[simp] theorem State.setPort_pending (s : State) (p : PortId) (x : Port) : (s.setPort p x).pending = s.pending := rfl
@[simp] theorem State.setPort_tables (s : State) (p : PortId) (x : Port) : (s.setPort p x).tables = s.tables := rfl
@[simp] theorem State.setPort_matrix (s : State) (p : PortId) (x : Port) : (s.setPort p x).matrix = s.matrix := rfl
@[simp] theorem State.setPort_window (s : State) (p : PortId) (x : Port) : (s.setPort p x).window = s.window := rfl
@[simp] theorem State.setPort_records (s : State) (p : PortId) (x : Port) : (s.setPort p x).records = s.records := rfl
@[simp] theorem State.setPort_loads (s : State) (p : PortId) (x : Port) : (s.setPort p x).loads = s.loads := rfl
@[simp] theorem State.setPort_freeze (s : State) (p : PortId) (x : Port) : (s.setPort p x).freeze = s.freeze := rfl
@[simp] theorem State.setPort_roamCounters (s : State) (p : PortId) (x : Port) : (s.setPort p x).roamCounters = s.roamCounters := rfl
@[simp] theorem State.setPort_registrations (s : State) (p : PortId) (x : Port) : (s.setPort p x).registrations = s.registrations := rfl
@[simp] theorem State.setPort_fullReported (s : State) (p : PortId) (x : Port) : (s.setPort p x).fullReported = s.fullReported := rfl
@[simp] theorem State.setPort_denials (s : State) (p : PortId) (x : Port) : (s.setPort p x).denials = s.denials := rfl
@[simp] theorem State.setPort_partition (s : State) (p : PortId) (x : Port) : (s.setPort p x).partition = s.partition := rfl
@[simp] theorem State.setPort_bindings (s : State) (p : PortId) (x : Port) : (s.setPort p x).bindings = s.bindings := rfl
@[simp] theorem State.setPort_cursor (s : State) (p : PortId) (x : Port) : (s.setPort p x).cursor = s.cursor := rfl
@[simp] theorem State.setPort_holds (s : State) (p : PortId) (x : Port) : (s.setPort p x).holds = s.holds := rfl
@[simp] theorem State.setPort_laneCounters (s : State) (p : PortId) (x : Port) : (s.setPort p x).laneCounters = s.laneCounters := rfl
@[simp] theorem State.setPort_primary (s : State) (p : PortId) (x : Port) : (s.setPort p x).primary = s.primary := rfl
@[simp] theorem State.setPort_secondary (s : State) (p : PortId) (x : Port) : (s.setPort p x).secondary = s.secondary := rfl
@[simp] theorem State.setPort_parsedControl (s : State) (p : PortId) (x : Port) : (s.setPort p x).parsedControl = s.parsedControl := rfl
@[simp] theorem State.setPort_ctlCounters (s : State) (p : PortId) (x : Port) : (s.setPort p x).ctlCounters = s.ctlCounters := rfl
@[simp] theorem State.setPort_events (s : State) (p : PortId) (x : Port) : (s.setPort p x).events = s.events := rfl
@[simp] theorem State.setPort_lostEvents (s : State) (p : PortId) (x : Port) : (s.setPort p x).lostEvents = s.lostEvents := rfl
@[simp] theorem State.setPort_timer (s : State) (p : PortId) (x : Port) : (s.setPort p x).timer = s.timer := rfl
@[simp] theorem State.setPort_params (s : State) (p : PortId) (x : Port) : (s.setPort p x).params = s.params := rfl
@[simp] theorem State.setPort_pendingClose (s : State) (p : PortId) (x : Port) : (s.setPort p x).pendingClose = s.pendingClose := rfl
@[simp] theorem State.setPort_sendDue (s : State) (p : PortId) (x : Port) : (s.setPort p x).sendDue = s.sendDue := rfl
@[simp] theorem State.setPort_holdRequests (s : State) (p : PortId) (x : Port) : (s.setPort p x).holdRequests = s.holdRequests := rfl
@[simp] theorem State.setPort_intakes (s : State) (p : PortId) (x : Port) : (s.setPort p x).intakes = s.intakes := rfl
@[simp] theorem State.setPort_isolationDue (s : State) (p : PortId) (x : Port) : (s.setPort p x).isolationDue = s.isolationDue := rfl
@[simp] theorem State.setPort_upstreamOut (s : State) (p : PortId) (x : Port) : (s.setPort p x).upstreamOut = s.upstreamOut := rfl
@[simp] theorem State.setPort_downlinkOut (s : State) (p : PortId) (x : Port) : (s.setPort p x).downlinkOut = s.downlinkOut := rfl
@[simp] theorem State.setPort_record (s : State) (p : PortId) (x : Port) (r' : RecordIx) : (s.setPort p x).record r' = s.record r' := rfl
@[simp] theorem State.setPort_load (s : State) (p : PortId) (x : Port) (p' : PortId) : (s.setPort p x).load p' = s.load p' := rfl
@[simp] theorem State.setPort_holdOf (s : State) (p : PortId) (x : Port) (n' : LaneId) : (s.setPort p x).holdOf n' = s.holdOf n' := rfl
@[simp] theorem State.setPort_binding (s : State) (p : PortId) (x : Port) (n' : LaneId) : (s.setPort p x).binding n' = s.binding n' := rfl

/-! ### `modPort` -/

@[simp] theorem State.modPort_pending (s : State) (p : PortId) (f : Port → Port) : (s.modPort p f).pending = s.pending := rfl
@[simp] theorem State.modPort_tables (s : State) (p : PortId) (f : Port → Port) : (s.modPort p f).tables = s.tables := rfl
@[simp] theorem State.modPort_matrix (s : State) (p : PortId) (f : Port → Port) : (s.modPort p f).matrix = s.matrix := rfl
@[simp] theorem State.modPort_window (s : State) (p : PortId) (f : Port → Port) : (s.modPort p f).window = s.window := rfl
@[simp] theorem State.modPort_records (s : State) (p : PortId) (f : Port → Port) : (s.modPort p f).records = s.records := rfl
@[simp] theorem State.modPort_loads (s : State) (p : PortId) (f : Port → Port) : (s.modPort p f).loads = s.loads := rfl
@[simp] theorem State.modPort_freeze (s : State) (p : PortId) (f : Port → Port) : (s.modPort p f).freeze = s.freeze := rfl
@[simp] theorem State.modPort_roamCounters (s : State) (p : PortId) (f : Port → Port) : (s.modPort p f).roamCounters = s.roamCounters := rfl
@[simp] theorem State.modPort_registrations (s : State) (p : PortId) (f : Port → Port) : (s.modPort p f).registrations = s.registrations := rfl
@[simp] theorem State.modPort_fullReported (s : State) (p : PortId) (f : Port → Port) : (s.modPort p f).fullReported = s.fullReported := rfl
@[simp] theorem State.modPort_denials (s : State) (p : PortId) (f : Port → Port) : (s.modPort p f).denials = s.denials := rfl
@[simp] theorem State.modPort_partition (s : State) (p : PortId) (f : Port → Port) : (s.modPort p f).partition = s.partition := rfl
@[simp] theorem State.modPort_bindings (s : State) (p : PortId) (f : Port → Port) : (s.modPort p f).bindings = s.bindings := rfl
@[simp] theorem State.modPort_cursor (s : State) (p : PortId) (f : Port → Port) : (s.modPort p f).cursor = s.cursor := rfl
@[simp] theorem State.modPort_holds (s : State) (p : PortId) (f : Port → Port) : (s.modPort p f).holds = s.holds := rfl
@[simp] theorem State.modPort_laneCounters (s : State) (p : PortId) (f : Port → Port) : (s.modPort p f).laneCounters = s.laneCounters := rfl
@[simp] theorem State.modPort_primary (s : State) (p : PortId) (f : Port → Port) : (s.modPort p f).primary = s.primary := rfl
@[simp] theorem State.modPort_secondary (s : State) (p : PortId) (f : Port → Port) : (s.modPort p f).secondary = s.secondary := rfl
@[simp] theorem State.modPort_parsedControl (s : State) (p : PortId) (f : Port → Port) : (s.modPort p f).parsedControl = s.parsedControl := rfl
@[simp] theorem State.modPort_ctlCounters (s : State) (p : PortId) (f : Port → Port) : (s.modPort p f).ctlCounters = s.ctlCounters := rfl
@[simp] theorem State.modPort_events (s : State) (p : PortId) (f : Port → Port) : (s.modPort p f).events = s.events := rfl
@[simp] theorem State.modPort_lostEvents (s : State) (p : PortId) (f : Port → Port) : (s.modPort p f).lostEvents = s.lostEvents := rfl
@[simp] theorem State.modPort_timer (s : State) (p : PortId) (f : Port → Port) : (s.modPort p f).timer = s.timer := rfl
@[simp] theorem State.modPort_params (s : State) (p : PortId) (f : Port → Port) : (s.modPort p f).params = s.params := rfl
@[simp] theorem State.modPort_pendingClose (s : State) (p : PortId) (f : Port → Port) : (s.modPort p f).pendingClose = s.pendingClose := rfl
@[simp] theorem State.modPort_sendDue (s : State) (p : PortId) (f : Port → Port) : (s.modPort p f).sendDue = s.sendDue := rfl
@[simp] theorem State.modPort_holdRequests (s : State) (p : PortId) (f : Port → Port) : (s.modPort p f).holdRequests = s.holdRequests := rfl
@[simp] theorem State.modPort_intakes (s : State) (p : PortId) (f : Port → Port) : (s.modPort p f).intakes = s.intakes := rfl
@[simp] theorem State.modPort_isolationDue (s : State) (p : PortId) (f : Port → Port) : (s.modPort p f).isolationDue = s.isolationDue := rfl
@[simp] theorem State.modPort_upstreamOut (s : State) (p : PortId) (f : Port → Port) : (s.modPort p f).upstreamOut = s.upstreamOut := rfl
@[simp] theorem State.modPort_downlinkOut (s : State) (p : PortId) (f : Port → Port) : (s.modPort p f).downlinkOut = s.downlinkOut := rfl
@[simp] theorem State.modPort_record (s : State) (p : PortId) (f : Port → Port) (r' : RecordIx) : (s.modPort p f).record r' = s.record r' := rfl
@[simp] theorem State.modPort_load (s : State) (p : PortId) (f : Port → Port) (p' : PortId) : (s.modPort p f).load p' = s.load p' := rfl
@[simp] theorem State.modPort_holdOf (s : State) (p : PortId) (f : Port → Port) (n' : LaneId) : (s.modPort p f).holdOf n' = s.holdOf n' := rfl
@[simp] theorem State.modPort_binding (s : State) (p : PortId) (f : Port → Port) (n' : LaneId) : (s.modPort p f).binding n' = s.binding n' := rfl

/-! ### `bumpPort` -/

@[simp] theorem State.bumpPort_pending (s : State) (p : PortId) (k : PortCounter) : (s.bumpPort p k).pending = s.pending := rfl
@[simp] theorem State.bumpPort_tables (s : State) (p : PortId) (k : PortCounter) : (s.bumpPort p k).tables = s.tables := rfl
@[simp] theorem State.bumpPort_matrix (s : State) (p : PortId) (k : PortCounter) : (s.bumpPort p k).matrix = s.matrix := rfl
@[simp] theorem State.bumpPort_window (s : State) (p : PortId) (k : PortCounter) : (s.bumpPort p k).window = s.window := rfl
@[simp] theorem State.bumpPort_records (s : State) (p : PortId) (k : PortCounter) : (s.bumpPort p k).records = s.records := rfl
@[simp] theorem State.bumpPort_loads (s : State) (p : PortId) (k : PortCounter) : (s.bumpPort p k).loads = s.loads := rfl
@[simp] theorem State.bumpPort_freeze (s : State) (p : PortId) (k : PortCounter) : (s.bumpPort p k).freeze = s.freeze := rfl
@[simp] theorem State.bumpPort_roamCounters (s : State) (p : PortId) (k : PortCounter) : (s.bumpPort p k).roamCounters = s.roamCounters := rfl
@[simp] theorem State.bumpPort_registrations (s : State) (p : PortId) (k : PortCounter) : (s.bumpPort p k).registrations = s.registrations := rfl
@[simp] theorem State.bumpPort_fullReported (s : State) (p : PortId) (k : PortCounter) : (s.bumpPort p k).fullReported = s.fullReported := rfl
@[simp] theorem State.bumpPort_denials (s : State) (p : PortId) (k : PortCounter) : (s.bumpPort p k).denials = s.denials := rfl
@[simp] theorem State.bumpPort_partition (s : State) (p : PortId) (k : PortCounter) : (s.bumpPort p k).partition = s.partition := rfl
@[simp] theorem State.bumpPort_bindings (s : State) (p : PortId) (k : PortCounter) : (s.bumpPort p k).bindings = s.bindings := rfl
@[simp] theorem State.bumpPort_cursor (s : State) (p : PortId) (k : PortCounter) : (s.bumpPort p k).cursor = s.cursor := rfl
@[simp] theorem State.bumpPort_holds (s : State) (p : PortId) (k : PortCounter) : (s.bumpPort p k).holds = s.holds := rfl
@[simp] theorem State.bumpPort_laneCounters (s : State) (p : PortId) (k : PortCounter) : (s.bumpPort p k).laneCounters = s.laneCounters := rfl
@[simp] theorem State.bumpPort_primary (s : State) (p : PortId) (k : PortCounter) : (s.bumpPort p k).primary = s.primary := rfl
@[simp] theorem State.bumpPort_secondary (s : State) (p : PortId) (k : PortCounter) : (s.bumpPort p k).secondary = s.secondary := rfl
@[simp] theorem State.bumpPort_parsedControl (s : State) (p : PortId) (k : PortCounter) : (s.bumpPort p k).parsedControl = s.parsedControl := rfl
@[simp] theorem State.bumpPort_ctlCounters (s : State) (p : PortId) (k : PortCounter) : (s.bumpPort p k).ctlCounters = s.ctlCounters := rfl
@[simp] theorem State.bumpPort_events (s : State) (p : PortId) (k : PortCounter) : (s.bumpPort p k).events = s.events := rfl
@[simp] theorem State.bumpPort_lostEvents (s : State) (p : PortId) (k : PortCounter) : (s.bumpPort p k).lostEvents = s.lostEvents := rfl
@[simp] theorem State.bumpPort_timer (s : State) (p : PortId) (k : PortCounter) : (s.bumpPort p k).timer = s.timer := rfl
@[simp] theorem State.bumpPort_params (s : State) (p : PortId) (k : PortCounter) : (s.bumpPort p k).params = s.params := rfl
@[simp] theorem State.bumpPort_pendingClose (s : State) (p : PortId) (k : PortCounter) : (s.bumpPort p k).pendingClose = s.pendingClose := rfl
@[simp] theorem State.bumpPort_sendDue (s : State) (p : PortId) (k : PortCounter) : (s.bumpPort p k).sendDue = s.sendDue := rfl
@[simp] theorem State.bumpPort_holdRequests (s : State) (p : PortId) (k : PortCounter) : (s.bumpPort p k).holdRequests = s.holdRequests := rfl
@[simp] theorem State.bumpPort_intakes (s : State) (p : PortId) (k : PortCounter) : (s.bumpPort p k).intakes = s.intakes := rfl
@[simp] theorem State.bumpPort_isolationDue (s : State) (p : PortId) (k : PortCounter) : (s.bumpPort p k).isolationDue = s.isolationDue := rfl
@[simp] theorem State.bumpPort_upstreamOut (s : State) (p : PortId) (k : PortCounter) : (s.bumpPort p k).upstreamOut = s.upstreamOut := rfl
@[simp] theorem State.bumpPort_downlinkOut (s : State) (p : PortId) (k : PortCounter) : (s.bumpPort p k).downlinkOut = s.downlinkOut := rfl
@[simp] theorem State.bumpPort_record (s : State) (p : PortId) (k : PortCounter) (r' : RecordIx) : (s.bumpPort p k).record r' = s.record r' := rfl
@[simp] theorem State.bumpPort_load (s : State) (p : PortId) (k : PortCounter) (p' : PortId) : (s.bumpPort p k).load p' = s.load p' := rfl
@[simp] theorem State.bumpPort_holdOf (s : State) (p : PortId) (k : PortCounter) (n' : LaneId) : (s.bumpPort p k).holdOf n' = s.holdOf n' := rfl
@[simp] theorem State.bumpPort_binding (s : State) (p : PortId) (k : PortCounter) (n' : LaneId) : (s.bumpPort p k).binding n' = s.binding n' := rfl

/-! ### `setRecord` -/

@[simp] theorem State.setRecord_pending (s : State) (r : RecordIx) (x : Record) : (s.setRecord r x).pending = s.pending := rfl
@[simp] theorem State.setRecord_ports (s : State) (r : RecordIx) (x : Record) : (s.setRecord r x).ports = s.ports := rfl
@[simp] theorem State.setRecord_tables (s : State) (r : RecordIx) (x : Record) : (s.setRecord r x).tables = s.tables := rfl
@[simp] theorem State.setRecord_matrix (s : State) (r : RecordIx) (x : Record) : (s.setRecord r x).matrix = s.matrix := rfl
@[simp] theorem State.setRecord_window (s : State) (r : RecordIx) (x : Record) : (s.setRecord r x).window = s.window := rfl
@[simp] theorem State.setRecord_loads (s : State) (r : RecordIx) (x : Record) : (s.setRecord r x).loads = s.loads := rfl
@[simp] theorem State.setRecord_freeze (s : State) (r : RecordIx) (x : Record) : (s.setRecord r x).freeze = s.freeze := rfl
@[simp] theorem State.setRecord_roamCounters (s : State) (r : RecordIx) (x : Record) : (s.setRecord r x).roamCounters = s.roamCounters := rfl
@[simp] theorem State.setRecord_registrations (s : State) (r : RecordIx) (x : Record) : (s.setRecord r x).registrations = s.registrations := rfl
@[simp] theorem State.setRecord_fullReported (s : State) (r : RecordIx) (x : Record) : (s.setRecord r x).fullReported = s.fullReported := rfl
@[simp] theorem State.setRecord_denials (s : State) (r : RecordIx) (x : Record) : (s.setRecord r x).denials = s.denials := rfl
@[simp] theorem State.setRecord_partition (s : State) (r : RecordIx) (x : Record) : (s.setRecord r x).partition = s.partition := rfl
@[simp] theorem State.setRecord_bindings (s : State) (r : RecordIx) (x : Record) : (s.setRecord r x).bindings = s.bindings := rfl
@[simp] theorem State.setRecord_cursor (s : State) (r : RecordIx) (x : Record) : (s.setRecord r x).cursor = s.cursor := rfl
@[simp] theorem State.setRecord_holds (s : State) (r : RecordIx) (x : Record) : (s.setRecord r x).holds = s.holds := rfl
@[simp] theorem State.setRecord_laneCounters (s : State) (r : RecordIx) (x : Record) : (s.setRecord r x).laneCounters = s.laneCounters := rfl
@[simp] theorem State.setRecord_primary (s : State) (r : RecordIx) (x : Record) : (s.setRecord r x).primary = s.primary := rfl
@[simp] theorem State.setRecord_secondary (s : State) (r : RecordIx) (x : Record) : (s.setRecord r x).secondary = s.secondary := rfl
@[simp] theorem State.setRecord_parsedControl (s : State) (r : RecordIx) (x : Record) : (s.setRecord r x).parsedControl = s.parsedControl := rfl
@[simp] theorem State.setRecord_ctlCounters (s : State) (r : RecordIx) (x : Record) : (s.setRecord r x).ctlCounters = s.ctlCounters := rfl
@[simp] theorem State.setRecord_events (s : State) (r : RecordIx) (x : Record) : (s.setRecord r x).events = s.events := rfl
@[simp] theorem State.setRecord_lostEvents (s : State) (r : RecordIx) (x : Record) : (s.setRecord r x).lostEvents = s.lostEvents := rfl
@[simp] theorem State.setRecord_timer (s : State) (r : RecordIx) (x : Record) : (s.setRecord r x).timer = s.timer := rfl
@[simp] theorem State.setRecord_params (s : State) (r : RecordIx) (x : Record) : (s.setRecord r x).params = s.params := rfl
@[simp] theorem State.setRecord_pendingClose (s : State) (r : RecordIx) (x : Record) : (s.setRecord r x).pendingClose = s.pendingClose := rfl
@[simp] theorem State.setRecord_sendDue (s : State) (r : RecordIx) (x : Record) : (s.setRecord r x).sendDue = s.sendDue := rfl
@[simp] theorem State.setRecord_holdRequests (s : State) (r : RecordIx) (x : Record) : (s.setRecord r x).holdRequests = s.holdRequests := rfl
@[simp] theorem State.setRecord_intakes (s : State) (r : RecordIx) (x : Record) : (s.setRecord r x).intakes = s.intakes := rfl
@[simp] theorem State.setRecord_isolationDue (s : State) (r : RecordIx) (x : Record) : (s.setRecord r x).isolationDue = s.isolationDue := rfl
@[simp] theorem State.setRecord_upstreamOut (s : State) (r : RecordIx) (x : Record) : (s.setRecord r x).upstreamOut = s.upstreamOut := rfl
@[simp] theorem State.setRecord_downlinkOut (s : State) (r : RecordIx) (x : Record) : (s.setRecord r x).downlinkOut = s.downlinkOut := rfl
@[simp] theorem State.setRecord_port (s : State) (r : RecordIx) (x : Record) (p' : PortId) : (s.setRecord r x).port p' = s.port p' := rfl
@[simp] theorem State.setRecord_load (s : State) (r : RecordIx) (x : Record) (p' : PortId) : (s.setRecord r x).load p' = s.load p' := rfl
@[simp] theorem State.setRecord_holdOf (s : State) (r : RecordIx) (x : Record) (n' : LaneId) : (s.setRecord r x).holdOf n' = s.holdOf n' := rfl
@[simp] theorem State.setRecord_binding (s : State) (r : RecordIx) (x : Record) (n' : LaneId) : (s.setRecord r x).binding n' = s.binding n' := rfl

/-! ### `modRecord` -/

@[simp] theorem State.modRecord_pending (s : State) (r : RecordIx) (f : Record → Record) : (s.modRecord r f).pending = s.pending := rfl
@[simp] theorem State.modRecord_ports (s : State) (r : RecordIx) (f : Record → Record) : (s.modRecord r f).ports = s.ports := rfl
@[simp] theorem State.modRecord_tables (s : State) (r : RecordIx) (f : Record → Record) : (s.modRecord r f).tables = s.tables := rfl
@[simp] theorem State.modRecord_matrix (s : State) (r : RecordIx) (f : Record → Record) : (s.modRecord r f).matrix = s.matrix := rfl
@[simp] theorem State.modRecord_window (s : State) (r : RecordIx) (f : Record → Record) : (s.modRecord r f).window = s.window := rfl
@[simp] theorem State.modRecord_loads (s : State) (r : RecordIx) (f : Record → Record) : (s.modRecord r f).loads = s.loads := rfl
@[simp] theorem State.modRecord_freeze (s : State) (r : RecordIx) (f : Record → Record) : (s.modRecord r f).freeze = s.freeze := rfl
@[simp] theorem State.modRecord_roamCounters (s : State) (r : RecordIx) (f : Record → Record) : (s.modRecord r f).roamCounters = s.roamCounters := rfl
@[simp] theorem State.modRecord_registrations (s : State) (r : RecordIx) (f : Record → Record) : (s.modRecord r f).registrations = s.registrations := rfl
@[simp] theorem State.modRecord_fullReported (s : State) (r : RecordIx) (f : Record → Record) : (s.modRecord r f).fullReported = s.fullReported := rfl
@[simp] theorem State.modRecord_denials (s : State) (r : RecordIx) (f : Record → Record) : (s.modRecord r f).denials = s.denials := rfl
@[simp] theorem State.modRecord_partition (s : State) (r : RecordIx) (f : Record → Record) : (s.modRecord r f).partition = s.partition := rfl
@[simp] theorem State.modRecord_bindings (s : State) (r : RecordIx) (f : Record → Record) : (s.modRecord r f).bindings = s.bindings := rfl
@[simp] theorem State.modRecord_cursor (s : State) (r : RecordIx) (f : Record → Record) : (s.modRecord r f).cursor = s.cursor := rfl
@[simp] theorem State.modRecord_holds (s : State) (r : RecordIx) (f : Record → Record) : (s.modRecord r f).holds = s.holds := rfl
@[simp] theorem State.modRecord_laneCounters (s : State) (r : RecordIx) (f : Record → Record) : (s.modRecord r f).laneCounters = s.laneCounters := rfl
@[simp] theorem State.modRecord_primary (s : State) (r : RecordIx) (f : Record → Record) : (s.modRecord r f).primary = s.primary := rfl
@[simp] theorem State.modRecord_secondary (s : State) (r : RecordIx) (f : Record → Record) : (s.modRecord r f).secondary = s.secondary := rfl
@[simp] theorem State.modRecord_parsedControl (s : State) (r : RecordIx) (f : Record → Record) : (s.modRecord r f).parsedControl = s.parsedControl := rfl
@[simp] theorem State.modRecord_ctlCounters (s : State) (r : RecordIx) (f : Record → Record) : (s.modRecord r f).ctlCounters = s.ctlCounters := rfl
@[simp] theorem State.modRecord_events (s : State) (r : RecordIx) (f : Record → Record) : (s.modRecord r f).events = s.events := rfl
@[simp] theorem State.modRecord_lostEvents (s : State) (r : RecordIx) (f : Record → Record) : (s.modRecord r f).lostEvents = s.lostEvents := rfl
@[simp] theorem State.modRecord_timer (s : State) (r : RecordIx) (f : Record → Record) : (s.modRecord r f).timer = s.timer := rfl
@[simp] theorem State.modRecord_params (s : State) (r : RecordIx) (f : Record → Record) : (s.modRecord r f).params = s.params := rfl
@[simp] theorem State.modRecord_pendingClose (s : State) (r : RecordIx) (f : Record → Record) : (s.modRecord r f).pendingClose = s.pendingClose := rfl
@[simp] theorem State.modRecord_sendDue (s : State) (r : RecordIx) (f : Record → Record) : (s.modRecord r f).sendDue = s.sendDue := rfl
@[simp] theorem State.modRecord_holdRequests (s : State) (r : RecordIx) (f : Record → Record) : (s.modRecord r f).holdRequests = s.holdRequests := rfl
@[simp] theorem State.modRecord_intakes (s : State) (r : RecordIx) (f : Record → Record) : (s.modRecord r f).intakes = s.intakes := rfl
@[simp] theorem State.modRecord_isolationDue (s : State) (r : RecordIx) (f : Record → Record) : (s.modRecord r f).isolationDue = s.isolationDue := rfl
@[simp] theorem State.modRecord_upstreamOut (s : State) (r : RecordIx) (f : Record → Record) : (s.modRecord r f).upstreamOut = s.upstreamOut := rfl
@[simp] theorem State.modRecord_downlinkOut (s : State) (r : RecordIx) (f : Record → Record) : (s.modRecord r f).downlinkOut = s.downlinkOut := rfl
@[simp] theorem State.modRecord_port (s : State) (r : RecordIx) (f : Record → Record) (p' : PortId) : (s.modRecord r f).port p' = s.port p' := rfl
@[simp] theorem State.modRecord_load (s : State) (r : RecordIx) (f : Record → Record) (p' : PortId) : (s.modRecord r f).load p' = s.load p' := rfl
@[simp] theorem State.modRecord_holdOf (s : State) (r : RecordIx) (f : Record → Record) (n' : LaneId) : (s.modRecord r f).holdOf n' = s.holdOf n' := rfl
@[simp] theorem State.modRecord_binding (s : State) (r : RecordIx) (f : Record → Record) (n' : LaneId) : (s.modRecord r f).binding n' = s.binding n' := rfl

/-! ### `setLoad` -/

@[simp] theorem State.setLoad_pending (s : State) (p : PortId) (n : Nat) : (s.setLoad p n).pending = s.pending := rfl
@[simp] theorem State.setLoad_ports (s : State) (p : PortId) (n : Nat) : (s.setLoad p n).ports = s.ports := rfl
@[simp] theorem State.setLoad_tables (s : State) (p : PortId) (n : Nat) : (s.setLoad p n).tables = s.tables := rfl
@[simp] theorem State.setLoad_matrix (s : State) (p : PortId) (n : Nat) : (s.setLoad p n).matrix = s.matrix := rfl
@[simp] theorem State.setLoad_window (s : State) (p : PortId) (n : Nat) : (s.setLoad p n).window = s.window := rfl
@[simp] theorem State.setLoad_records (s : State) (p : PortId) (n : Nat) : (s.setLoad p n).records = s.records := rfl
@[simp] theorem State.setLoad_freeze (s : State) (p : PortId) (n : Nat) : (s.setLoad p n).freeze = s.freeze := rfl
@[simp] theorem State.setLoad_roamCounters (s : State) (p : PortId) (n : Nat) : (s.setLoad p n).roamCounters = s.roamCounters := rfl
@[simp] theorem State.setLoad_registrations (s : State) (p : PortId) (n : Nat) : (s.setLoad p n).registrations = s.registrations := rfl
@[simp] theorem State.setLoad_fullReported (s : State) (p : PortId) (n : Nat) : (s.setLoad p n).fullReported = s.fullReported := rfl
@[simp] theorem State.setLoad_denials (s : State) (p : PortId) (n : Nat) : (s.setLoad p n).denials = s.denials := rfl
@[simp] theorem State.setLoad_partition (s : State) (p : PortId) (n : Nat) : (s.setLoad p n).partition = s.partition := rfl
@[simp] theorem State.setLoad_bindings (s : State) (p : PortId) (n : Nat) : (s.setLoad p n).bindings = s.bindings := rfl
@[simp] theorem State.setLoad_cursor (s : State) (p : PortId) (n : Nat) : (s.setLoad p n).cursor = s.cursor := rfl
@[simp] theorem State.setLoad_holds (s : State) (p : PortId) (n : Nat) : (s.setLoad p n).holds = s.holds := rfl
@[simp] theorem State.setLoad_laneCounters (s : State) (p : PortId) (n : Nat) : (s.setLoad p n).laneCounters = s.laneCounters := rfl
@[simp] theorem State.setLoad_primary (s : State) (p : PortId) (n : Nat) : (s.setLoad p n).primary = s.primary := rfl
@[simp] theorem State.setLoad_secondary (s : State) (p : PortId) (n : Nat) : (s.setLoad p n).secondary = s.secondary := rfl
@[simp] theorem State.setLoad_parsedControl (s : State) (p : PortId) (n : Nat) : (s.setLoad p n).parsedControl = s.parsedControl := rfl
@[simp] theorem State.setLoad_ctlCounters (s : State) (p : PortId) (n : Nat) : (s.setLoad p n).ctlCounters = s.ctlCounters := rfl
@[simp] theorem State.setLoad_events (s : State) (p : PortId) (n : Nat) : (s.setLoad p n).events = s.events := rfl
@[simp] theorem State.setLoad_lostEvents (s : State) (p : PortId) (n : Nat) : (s.setLoad p n).lostEvents = s.lostEvents := rfl
@[simp] theorem State.setLoad_timer (s : State) (p : PortId) (n : Nat) : (s.setLoad p n).timer = s.timer := rfl
@[simp] theorem State.setLoad_params (s : State) (p : PortId) (n : Nat) : (s.setLoad p n).params = s.params := rfl
@[simp] theorem State.setLoad_pendingClose (s : State) (p : PortId) (n : Nat) : (s.setLoad p n).pendingClose = s.pendingClose := rfl
@[simp] theorem State.setLoad_sendDue (s : State) (p : PortId) (n : Nat) : (s.setLoad p n).sendDue = s.sendDue := rfl
@[simp] theorem State.setLoad_holdRequests (s : State) (p : PortId) (n : Nat) : (s.setLoad p n).holdRequests = s.holdRequests := rfl
@[simp] theorem State.setLoad_intakes (s : State) (p : PortId) (n : Nat) : (s.setLoad p n).intakes = s.intakes := rfl
@[simp] theorem State.setLoad_isolationDue (s : State) (p : PortId) (n : Nat) : (s.setLoad p n).isolationDue = s.isolationDue := rfl
@[simp] theorem State.setLoad_upstreamOut (s : State) (p : PortId) (n : Nat) : (s.setLoad p n).upstreamOut = s.upstreamOut := rfl
@[simp] theorem State.setLoad_downlinkOut (s : State) (p : PortId) (n : Nat) : (s.setLoad p n).downlinkOut = s.downlinkOut := rfl
@[simp] theorem State.setLoad_port (s : State) (p : PortId) (n : Nat) (p' : PortId) : (s.setLoad p n).port p' = s.port p' := rfl
@[simp] theorem State.setLoad_record (s : State) (p : PortId) (n : Nat) (r' : RecordIx) : (s.setLoad p n).record r' = s.record r' := rfl
@[simp] theorem State.setLoad_holdOf (s : State) (p : PortId) (n : Nat) (n' : LaneId) : (s.setLoad p n).holdOf n' = s.holdOf n' := rfl
@[simp] theorem State.setLoad_binding (s : State) (p : PortId) (n : Nat) (n' : LaneId) : (s.setLoad p n).binding n' = s.binding n' := rfl

/-! ### `raiseLoad` -/

@[simp] theorem State.raiseLoad_pending (s : State) (p : PortId) : (s.raiseLoad p).pending = s.pending := rfl
@[simp] theorem State.raiseLoad_ports (s : State) (p : PortId) : (s.raiseLoad p).ports = s.ports := rfl
@[simp] theorem State.raiseLoad_tables (s : State) (p : PortId) : (s.raiseLoad p).tables = s.tables := rfl
@[simp] theorem State.raiseLoad_matrix (s : State) (p : PortId) : (s.raiseLoad p).matrix = s.matrix := rfl
@[simp] theorem State.raiseLoad_window (s : State) (p : PortId) : (s.raiseLoad p).window = s.window := rfl
@[simp] theorem State.raiseLoad_records (s : State) (p : PortId) : (s.raiseLoad p).records = s.records := rfl
@[simp] theorem State.raiseLoad_freeze (s : State) (p : PortId) : (s.raiseLoad p).freeze = s.freeze := rfl
@[simp] theorem State.raiseLoad_roamCounters (s : State) (p : PortId) : (s.raiseLoad p).roamCounters = s.roamCounters := rfl
@[simp] theorem State.raiseLoad_registrations (s : State) (p : PortId) : (s.raiseLoad p).registrations = s.registrations := rfl
@[simp] theorem State.raiseLoad_fullReported (s : State) (p : PortId) : (s.raiseLoad p).fullReported = s.fullReported := rfl
@[simp] theorem State.raiseLoad_denials (s : State) (p : PortId) : (s.raiseLoad p).denials = s.denials := rfl
@[simp] theorem State.raiseLoad_partition (s : State) (p : PortId) : (s.raiseLoad p).partition = s.partition := rfl
@[simp] theorem State.raiseLoad_bindings (s : State) (p : PortId) : (s.raiseLoad p).bindings = s.bindings := rfl
@[simp] theorem State.raiseLoad_cursor (s : State) (p : PortId) : (s.raiseLoad p).cursor = s.cursor := rfl
@[simp] theorem State.raiseLoad_holds (s : State) (p : PortId) : (s.raiseLoad p).holds = s.holds := rfl
@[simp] theorem State.raiseLoad_laneCounters (s : State) (p : PortId) : (s.raiseLoad p).laneCounters = s.laneCounters := rfl
@[simp] theorem State.raiseLoad_primary (s : State) (p : PortId) : (s.raiseLoad p).primary = s.primary := rfl
@[simp] theorem State.raiseLoad_secondary (s : State) (p : PortId) : (s.raiseLoad p).secondary = s.secondary := rfl
@[simp] theorem State.raiseLoad_parsedControl (s : State) (p : PortId) : (s.raiseLoad p).parsedControl = s.parsedControl := rfl
@[simp] theorem State.raiseLoad_ctlCounters (s : State) (p : PortId) : (s.raiseLoad p).ctlCounters = s.ctlCounters := rfl
@[simp] theorem State.raiseLoad_events (s : State) (p : PortId) : (s.raiseLoad p).events = s.events := rfl
@[simp] theorem State.raiseLoad_lostEvents (s : State) (p : PortId) : (s.raiseLoad p).lostEvents = s.lostEvents := rfl
@[simp] theorem State.raiseLoad_timer (s : State) (p : PortId) : (s.raiseLoad p).timer = s.timer := rfl
@[simp] theorem State.raiseLoad_params (s : State) (p : PortId) : (s.raiseLoad p).params = s.params := rfl
@[simp] theorem State.raiseLoad_pendingClose (s : State) (p : PortId) : (s.raiseLoad p).pendingClose = s.pendingClose := rfl
@[simp] theorem State.raiseLoad_sendDue (s : State) (p : PortId) : (s.raiseLoad p).sendDue = s.sendDue := rfl
@[simp] theorem State.raiseLoad_holdRequests (s : State) (p : PortId) : (s.raiseLoad p).holdRequests = s.holdRequests := rfl
@[simp] theorem State.raiseLoad_intakes (s : State) (p : PortId) : (s.raiseLoad p).intakes = s.intakes := rfl
@[simp] theorem State.raiseLoad_isolationDue (s : State) (p : PortId) : (s.raiseLoad p).isolationDue = s.isolationDue := rfl
@[simp] theorem State.raiseLoad_upstreamOut (s : State) (p : PortId) : (s.raiseLoad p).upstreamOut = s.upstreamOut := rfl
@[simp] theorem State.raiseLoad_downlinkOut (s : State) (p : PortId) : (s.raiseLoad p).downlinkOut = s.downlinkOut := rfl
@[simp] theorem State.raiseLoad_port (s : State) (p : PortId) (p' : PortId) : (s.raiseLoad p).port p' = s.port p' := rfl
@[simp] theorem State.raiseLoad_record (s : State) (p : PortId) (r' : RecordIx) : (s.raiseLoad p).record r' = s.record r' := rfl
@[simp] theorem State.raiseLoad_holdOf (s : State) (p : PortId) (n' : LaneId) : (s.raiseLoad p).holdOf n' = s.holdOf n' := rfl
@[simp] theorem State.raiseLoad_binding (s : State) (p : PortId) (n' : LaneId) : (s.raiseLoad p).binding n' = s.binding n' := rfl

/-! ### `lowerLoad` -/

@[simp] theorem State.lowerLoad_pending (s : State) (p : PortId) : (s.lowerLoad p).pending = s.pending := rfl
@[simp] theorem State.lowerLoad_ports (s : State) (p : PortId) : (s.lowerLoad p).ports = s.ports := rfl
@[simp] theorem State.lowerLoad_tables (s : State) (p : PortId) : (s.lowerLoad p).tables = s.tables := rfl
@[simp] theorem State.lowerLoad_matrix (s : State) (p : PortId) : (s.lowerLoad p).matrix = s.matrix := rfl
@[simp] theorem State.lowerLoad_window (s : State) (p : PortId) : (s.lowerLoad p).window = s.window := rfl
@[simp] theorem State.lowerLoad_records (s : State) (p : PortId) : (s.lowerLoad p).records = s.records := rfl
@[simp] theorem State.lowerLoad_freeze (s : State) (p : PortId) : (s.lowerLoad p).freeze = s.freeze := rfl
@[simp] theorem State.lowerLoad_roamCounters (s : State) (p : PortId) : (s.lowerLoad p).roamCounters = s.roamCounters := rfl
@[simp] theorem State.lowerLoad_registrations (s : State) (p : PortId) : (s.lowerLoad p).registrations = s.registrations := rfl
@[simp] theorem State.lowerLoad_fullReported (s : State) (p : PortId) : (s.lowerLoad p).fullReported = s.fullReported := rfl
@[simp] theorem State.lowerLoad_denials (s : State) (p : PortId) : (s.lowerLoad p).denials = s.denials := rfl
@[simp] theorem State.lowerLoad_partition (s : State) (p : PortId) : (s.lowerLoad p).partition = s.partition := rfl
@[simp] theorem State.lowerLoad_bindings (s : State) (p : PortId) : (s.lowerLoad p).bindings = s.bindings := rfl
@[simp] theorem State.lowerLoad_cursor (s : State) (p : PortId) : (s.lowerLoad p).cursor = s.cursor := rfl
@[simp] theorem State.lowerLoad_holds (s : State) (p : PortId) : (s.lowerLoad p).holds = s.holds := rfl
@[simp] theorem State.lowerLoad_laneCounters (s : State) (p : PortId) : (s.lowerLoad p).laneCounters = s.laneCounters := rfl
@[simp] theorem State.lowerLoad_primary (s : State) (p : PortId) : (s.lowerLoad p).primary = s.primary := rfl
@[simp] theorem State.lowerLoad_secondary (s : State) (p : PortId) : (s.lowerLoad p).secondary = s.secondary := rfl
@[simp] theorem State.lowerLoad_parsedControl (s : State) (p : PortId) : (s.lowerLoad p).parsedControl = s.parsedControl := rfl
@[simp] theorem State.lowerLoad_ctlCounters (s : State) (p : PortId) : (s.lowerLoad p).ctlCounters = s.ctlCounters := rfl
@[simp] theorem State.lowerLoad_events (s : State) (p : PortId) : (s.lowerLoad p).events = s.events := rfl
@[simp] theorem State.lowerLoad_lostEvents (s : State) (p : PortId) : (s.lowerLoad p).lostEvents = s.lostEvents := rfl
@[simp] theorem State.lowerLoad_timer (s : State) (p : PortId) : (s.lowerLoad p).timer = s.timer := rfl
@[simp] theorem State.lowerLoad_params (s : State) (p : PortId) : (s.lowerLoad p).params = s.params := rfl
@[simp] theorem State.lowerLoad_pendingClose (s : State) (p : PortId) : (s.lowerLoad p).pendingClose = s.pendingClose := rfl
@[simp] theorem State.lowerLoad_sendDue (s : State) (p : PortId) : (s.lowerLoad p).sendDue = s.sendDue := rfl
@[simp] theorem State.lowerLoad_holdRequests (s : State) (p : PortId) : (s.lowerLoad p).holdRequests = s.holdRequests := rfl
@[simp] theorem State.lowerLoad_intakes (s : State) (p : PortId) : (s.lowerLoad p).intakes = s.intakes := rfl
@[simp] theorem State.lowerLoad_isolationDue (s : State) (p : PortId) : (s.lowerLoad p).isolationDue = s.isolationDue := rfl
@[simp] theorem State.lowerLoad_upstreamOut (s : State) (p : PortId) : (s.lowerLoad p).upstreamOut = s.upstreamOut := rfl
@[simp] theorem State.lowerLoad_downlinkOut (s : State) (p : PortId) : (s.lowerLoad p).downlinkOut = s.downlinkOut := rfl
@[simp] theorem State.lowerLoad_port (s : State) (p : PortId) (p' : PortId) : (s.lowerLoad p).port p' = s.port p' := rfl
@[simp] theorem State.lowerLoad_record (s : State) (p : PortId) (r' : RecordIx) : (s.lowerLoad p).record r' = s.record r' := rfl
@[simp] theorem State.lowerLoad_holdOf (s : State) (p : PortId) (n' : LaneId) : (s.lowerLoad p).holdOf n' = s.holdOf n' := rfl
@[simp] theorem State.lowerLoad_binding (s : State) (p : PortId) (n' : LaneId) : (s.lowerLoad p).binding n' = s.binding n' := rfl

/-! ### `setHold` -/

@[simp] theorem State.setHold_pending (s : State) (n : LaneId) (h : Hold) : (s.setHold n h).pending = s.pending := rfl
@[simp] theorem State.setHold_ports (s : State) (n : LaneId) (h : Hold) : (s.setHold n h).ports = s.ports := rfl
@[simp] theorem State.setHold_tables (s : State) (n : LaneId) (h : Hold) : (s.setHold n h).tables = s.tables := rfl
@[simp] theorem State.setHold_matrix (s : State) (n : LaneId) (h : Hold) : (s.setHold n h).matrix = s.matrix := rfl
@[simp] theorem State.setHold_window (s : State) (n : LaneId) (h : Hold) : (s.setHold n h).window = s.window := rfl
@[simp] theorem State.setHold_records (s : State) (n : LaneId) (h : Hold) : (s.setHold n h).records = s.records := rfl
@[simp] theorem State.setHold_loads (s : State) (n : LaneId) (h : Hold) : (s.setHold n h).loads = s.loads := rfl
@[simp] theorem State.setHold_freeze (s : State) (n : LaneId) (h : Hold) : (s.setHold n h).freeze = s.freeze := rfl
@[simp] theorem State.setHold_roamCounters (s : State) (n : LaneId) (h : Hold) : (s.setHold n h).roamCounters = s.roamCounters := rfl
@[simp] theorem State.setHold_registrations (s : State) (n : LaneId) (h : Hold) : (s.setHold n h).registrations = s.registrations := rfl
@[simp] theorem State.setHold_fullReported (s : State) (n : LaneId) (h : Hold) : (s.setHold n h).fullReported = s.fullReported := rfl
@[simp] theorem State.setHold_denials (s : State) (n : LaneId) (h : Hold) : (s.setHold n h).denials = s.denials := rfl
@[simp] theorem State.setHold_partition (s : State) (n : LaneId) (h : Hold) : (s.setHold n h).partition = s.partition := rfl
@[simp] theorem State.setHold_bindings (s : State) (n : LaneId) (h : Hold) : (s.setHold n h).bindings = s.bindings := rfl
@[simp] theorem State.setHold_cursor (s : State) (n : LaneId) (h : Hold) : (s.setHold n h).cursor = s.cursor := rfl
@[simp] theorem State.setHold_laneCounters (s : State) (n : LaneId) (h : Hold) : (s.setHold n h).laneCounters = s.laneCounters := rfl
@[simp] theorem State.setHold_primary (s : State) (n : LaneId) (h : Hold) : (s.setHold n h).primary = s.primary := rfl
@[simp] theorem State.setHold_secondary (s : State) (n : LaneId) (h : Hold) : (s.setHold n h).secondary = s.secondary := rfl
@[simp] theorem State.setHold_parsedControl (s : State) (n : LaneId) (h : Hold) : (s.setHold n h).parsedControl = s.parsedControl := rfl
@[simp] theorem State.setHold_ctlCounters (s : State) (n : LaneId) (h : Hold) : (s.setHold n h).ctlCounters = s.ctlCounters := rfl
@[simp] theorem State.setHold_events (s : State) (n : LaneId) (h : Hold) : (s.setHold n h).events = s.events := rfl
@[simp] theorem State.setHold_lostEvents (s : State) (n : LaneId) (h : Hold) : (s.setHold n h).lostEvents = s.lostEvents := rfl
@[simp] theorem State.setHold_timer (s : State) (n : LaneId) (h : Hold) : (s.setHold n h).timer = s.timer := rfl
@[simp] theorem State.setHold_params (s : State) (n : LaneId) (h : Hold) : (s.setHold n h).params = s.params := rfl
@[simp] theorem State.setHold_pendingClose (s : State) (n : LaneId) (h : Hold) : (s.setHold n h).pendingClose = s.pendingClose := rfl
@[simp] theorem State.setHold_sendDue (s : State) (n : LaneId) (h : Hold) : (s.setHold n h).sendDue = s.sendDue := rfl
@[simp] theorem State.setHold_holdRequests (s : State) (n : LaneId) (h : Hold) : (s.setHold n h).holdRequests = s.holdRequests := rfl
@[simp] theorem State.setHold_intakes (s : State) (n : LaneId) (h : Hold) : (s.setHold n h).intakes = s.intakes := rfl
@[simp] theorem State.setHold_isolationDue (s : State) (n : LaneId) (h : Hold) : (s.setHold n h).isolationDue = s.isolationDue := rfl
@[simp] theorem State.setHold_upstreamOut (s : State) (n : LaneId) (h : Hold) : (s.setHold n h).upstreamOut = s.upstreamOut := rfl
@[simp] theorem State.setHold_downlinkOut (s : State) (n : LaneId) (h : Hold) : (s.setHold n h).downlinkOut = s.downlinkOut := rfl
@[simp] theorem State.setHold_port (s : State) (n : LaneId) (h : Hold) (p' : PortId) : (s.setHold n h).port p' = s.port p' := rfl
@[simp] theorem State.setHold_record (s : State) (n : LaneId) (h : Hold) (r' : RecordIx) : (s.setHold n h).record r' = s.record r' := rfl
@[simp] theorem State.setHold_load (s : State) (n : LaneId) (h : Hold) (p' : PortId) : (s.setHold n h).load p' = s.load p' := rfl
@[simp] theorem State.setHold_binding (s : State) (n : LaneId) (h : Hold) (n' : LaneId) : (s.setHold n h).binding n' = s.binding n' := rfl

/-! ### `silence` -/

@[simp] theorem State.silence_pending (s : State) (n : LaneId) : (s.silence n).pending = s.pending := rfl
@[simp] theorem State.silence_ports (s : State) (n : LaneId) : (s.silence n).ports = s.ports := rfl
@[simp] theorem State.silence_tables (s : State) (n : LaneId) : (s.silence n).tables = s.tables := rfl
@[simp] theorem State.silence_matrix (s : State) (n : LaneId) : (s.silence n).matrix = s.matrix := rfl
@[simp] theorem State.silence_window (s : State) (n : LaneId) : (s.silence n).window = s.window := rfl
@[simp] theorem State.silence_records (s : State) (n : LaneId) : (s.silence n).records = s.records := rfl
@[simp] theorem State.silence_loads (s : State) (n : LaneId) : (s.silence n).loads = s.loads := rfl
@[simp] theorem State.silence_freeze (s : State) (n : LaneId) : (s.silence n).freeze = s.freeze := rfl
@[simp] theorem State.silence_roamCounters (s : State) (n : LaneId) : (s.silence n).roamCounters = s.roamCounters := rfl
@[simp] theorem State.silence_registrations (s : State) (n : LaneId) : (s.silence n).registrations = s.registrations := rfl
@[simp] theorem State.silence_fullReported (s : State) (n : LaneId) : (s.silence n).fullReported = s.fullReported := rfl
@[simp] theorem State.silence_denials (s : State) (n : LaneId) : (s.silence n).denials = s.denials := rfl
@[simp] theorem State.silence_partition (s : State) (n : LaneId) : (s.silence n).partition = s.partition := rfl
@[simp] theorem State.silence_bindings (s : State) (n : LaneId) : (s.silence n).bindings = s.bindings := rfl
@[simp] theorem State.silence_cursor (s : State) (n : LaneId) : (s.silence n).cursor = s.cursor := rfl
@[simp] theorem State.silence_laneCounters (s : State) (n : LaneId) : (s.silence n).laneCounters = s.laneCounters := rfl
@[simp] theorem State.silence_primary (s : State) (n : LaneId) : (s.silence n).primary = s.primary := rfl
@[simp] theorem State.silence_secondary (s : State) (n : LaneId) : (s.silence n).secondary = s.secondary := rfl
@[simp] theorem State.silence_parsedControl (s : State) (n : LaneId) : (s.silence n).parsedControl = s.parsedControl := rfl
@[simp] theorem State.silence_ctlCounters (s : State) (n : LaneId) : (s.silence n).ctlCounters = s.ctlCounters := rfl
@[simp] theorem State.silence_events (s : State) (n : LaneId) : (s.silence n).events = s.events := rfl
@[simp] theorem State.silence_lostEvents (s : State) (n : LaneId) : (s.silence n).lostEvents = s.lostEvents := rfl
@[simp] theorem State.silence_timer (s : State) (n : LaneId) : (s.silence n).timer = s.timer := rfl
@[simp] theorem State.silence_params (s : State) (n : LaneId) : (s.silence n).params = s.params := rfl
@[simp] theorem State.silence_pendingClose (s : State) (n : LaneId) : (s.silence n).pendingClose = s.pendingClose := rfl
@[simp] theorem State.silence_sendDue (s : State) (n : LaneId) : (s.silence n).sendDue = s.sendDue := rfl
@[simp] theorem State.silence_holdRequests (s : State) (n : LaneId) : (s.silence n).holdRequests = s.holdRequests := rfl
@[simp] theorem State.silence_intakes (s : State) (n : LaneId) : (s.silence n).intakes = s.intakes := rfl
@[simp] theorem State.silence_isolationDue (s : State) (n : LaneId) : (s.silence n).isolationDue = s.isolationDue := rfl
@[simp] theorem State.silence_upstreamOut (s : State) (n : LaneId) : (s.silence n).upstreamOut = s.upstreamOut := rfl
@[simp] theorem State.silence_downlinkOut (s : State) (n : LaneId) : (s.silence n).downlinkOut = s.downlinkOut := rfl
@[simp] theorem State.silence_port (s : State) (n : LaneId) (p' : PortId) : (s.silence n).port p' = s.port p' := rfl
@[simp] theorem State.silence_record (s : State) (n : LaneId) (r' : RecordIx) : (s.silence n).record r' = s.record r' := rfl
@[simp] theorem State.silence_load (s : State) (n : LaneId) (p' : PortId) : (s.silence n).load p' = s.load p' := rfl
@[simp] theorem State.silence_binding (s : State) (n : LaneId) (n' : LaneId) : (s.silence n).binding n' = s.binding n' := rfl

/-! ### `setBinding` -/

@[simp] theorem State.setBinding_pending (s : State) (n : LaneId) (r : Option RecordIx) : (s.setBinding n r).pending = s.pending := rfl
@[simp] theorem State.setBinding_ports (s : State) (n : LaneId) (r : Option RecordIx) : (s.setBinding n r).ports = s.ports := rfl
@[simp] theorem State.setBinding_tables (s : State) (n : LaneId) (r : Option RecordIx) : (s.setBinding n r).tables = s.tables := rfl
@[simp] theorem State.setBinding_matrix (s : State) (n : LaneId) (r : Option RecordIx) : (s.setBinding n r).matrix = s.matrix := rfl
@[simp] theorem State.setBinding_window (s : State) (n : LaneId) (r : Option RecordIx) : (s.setBinding n r).window = s.window := rfl
@[simp] theorem State.setBinding_records (s : State) (n : LaneId) (r : Option RecordIx) : (s.setBinding n r).records = s.records := rfl
@[simp] theorem State.setBinding_loads (s : State) (n : LaneId) (r : Option RecordIx) : (s.setBinding n r).loads = s.loads := rfl
@[simp] theorem State.setBinding_freeze (s : State) (n : LaneId) (r : Option RecordIx) : (s.setBinding n r).freeze = s.freeze := rfl
@[simp] theorem State.setBinding_roamCounters (s : State) (n : LaneId) (r : Option RecordIx) : (s.setBinding n r).roamCounters = s.roamCounters := rfl
@[simp] theorem State.setBinding_registrations (s : State) (n : LaneId) (r : Option RecordIx) : (s.setBinding n r).registrations = s.registrations := rfl
@[simp] theorem State.setBinding_fullReported (s : State) (n : LaneId) (r : Option RecordIx) : (s.setBinding n r).fullReported = s.fullReported := rfl
@[simp] theorem State.setBinding_denials (s : State) (n : LaneId) (r : Option RecordIx) : (s.setBinding n r).denials = s.denials := rfl
@[simp] theorem State.setBinding_partition (s : State) (n : LaneId) (r : Option RecordIx) : (s.setBinding n r).partition = s.partition := rfl
@[simp] theorem State.setBinding_cursor (s : State) (n : LaneId) (r : Option RecordIx) : (s.setBinding n r).cursor = s.cursor := rfl
@[simp] theorem State.setBinding_holds (s : State) (n : LaneId) (r : Option RecordIx) : (s.setBinding n r).holds = s.holds := rfl
@[simp] theorem State.setBinding_laneCounters (s : State) (n : LaneId) (r : Option RecordIx) : (s.setBinding n r).laneCounters = s.laneCounters := rfl
@[simp] theorem State.setBinding_primary (s : State) (n : LaneId) (r : Option RecordIx) : (s.setBinding n r).primary = s.primary := rfl
@[simp] theorem State.setBinding_secondary (s : State) (n : LaneId) (r : Option RecordIx) : (s.setBinding n r).secondary = s.secondary := rfl
@[simp] theorem State.setBinding_parsedControl (s : State) (n : LaneId) (r : Option RecordIx) : (s.setBinding n r).parsedControl = s.parsedControl := rfl
@[simp] theorem State.setBinding_ctlCounters (s : State) (n : LaneId) (r : Option RecordIx) : (s.setBinding n r).ctlCounters = s.ctlCounters := rfl
@[simp] theorem State.setBinding_events (s : State) (n : LaneId) (r : Option RecordIx) : (s.setBinding n r).events = s.events := rfl
@[simp] theorem State.setBinding_lostEvents (s : State) (n : LaneId) (r : Option RecordIx) : (s.setBinding n r).lostEvents = s.lostEvents := rfl
@[simp] theorem State.setBinding_timer (s : State) (n : LaneId) (r : Option RecordIx) : (s.setBinding n r).timer = s.timer := rfl
@[simp] theorem State.setBinding_params (s : State) (n : LaneId) (r : Option RecordIx) : (s.setBinding n r).params = s.params := rfl
@[simp] theorem State.setBinding_pendingClose (s : State) (n : LaneId) (r : Option RecordIx) : (s.setBinding n r).pendingClose = s.pendingClose := rfl
@[simp] theorem State.setBinding_sendDue (s : State) (n : LaneId) (r : Option RecordIx) : (s.setBinding n r).sendDue = s.sendDue := rfl
@[simp] theorem State.setBinding_holdRequests (s : State) (n : LaneId) (r : Option RecordIx) : (s.setBinding n r).holdRequests = s.holdRequests := rfl
@[simp] theorem State.setBinding_intakes (s : State) (n : LaneId) (r : Option RecordIx) : (s.setBinding n r).intakes = s.intakes := rfl
@[simp] theorem State.setBinding_isolationDue (s : State) (n : LaneId) (r : Option RecordIx) : (s.setBinding n r).isolationDue = s.isolationDue := rfl
@[simp] theorem State.setBinding_upstreamOut (s : State) (n : LaneId) (r : Option RecordIx) : (s.setBinding n r).upstreamOut = s.upstreamOut := rfl
@[simp] theorem State.setBinding_downlinkOut (s : State) (n : LaneId) (r : Option RecordIx) : (s.setBinding n r).downlinkOut = s.downlinkOut := rfl
@[simp] theorem State.setBinding_port (s : State) (n : LaneId) (r : Option RecordIx) (p' : PortId) : (s.setBinding n r).port p' = s.port p' := rfl
@[simp] theorem State.setBinding_record (s : State) (n : LaneId) (r : Option RecordIx) (r' : RecordIx) : (s.setBinding n r).record r' = s.record r' := rfl
@[simp] theorem State.setBinding_load (s : State) (n : LaneId) (r : Option RecordIx) (p' : PortId) : (s.setBinding n r).load p' = s.load p' := rfl
@[simp] theorem State.setBinding_holdOf (s : State) (n : LaneId) (r : Option RecordIx) (n' : LaneId) : (s.setBinding n r).holdOf n' = s.holdOf n' := rfl

/-! ### `returnLane` -/

@[simp] theorem State.returnLane_pending (s : State) (n : LaneId) : (s.returnLane n).pending = s.pending := rfl
@[simp] theorem State.returnLane_ports (s : State) (n : LaneId) : (s.returnLane n).ports = s.ports := rfl
@[simp] theorem State.returnLane_tables (s : State) (n : LaneId) : (s.returnLane n).tables = s.tables := rfl
@[simp] theorem State.returnLane_matrix (s : State) (n : LaneId) : (s.returnLane n).matrix = s.matrix := rfl
@[simp] theorem State.returnLane_window (s : State) (n : LaneId) : (s.returnLane n).window = s.window := rfl
@[simp] theorem State.returnLane_records (s : State) (n : LaneId) : (s.returnLane n).records = s.records := rfl
@[simp] theorem State.returnLane_loads (s : State) (n : LaneId) : (s.returnLane n).loads = s.loads := rfl
@[simp] theorem State.returnLane_freeze (s : State) (n : LaneId) : (s.returnLane n).freeze = s.freeze := rfl
@[simp] theorem State.returnLane_roamCounters (s : State) (n : LaneId) : (s.returnLane n).roamCounters = s.roamCounters := rfl
@[simp] theorem State.returnLane_registrations (s : State) (n : LaneId) : (s.returnLane n).registrations = s.registrations := rfl
@[simp] theorem State.returnLane_fullReported (s : State) (n : LaneId) : (s.returnLane n).fullReported = s.fullReported := rfl
@[simp] theorem State.returnLane_denials (s : State) (n : LaneId) : (s.returnLane n).denials = s.denials := rfl
@[simp] theorem State.returnLane_partition (s : State) (n : LaneId) : (s.returnLane n).partition = s.partition := rfl
@[simp] theorem State.returnLane_cursor (s : State) (n : LaneId) : (s.returnLane n).cursor = s.cursor := rfl
@[simp] theorem State.returnLane_laneCounters (s : State) (n : LaneId) : (s.returnLane n).laneCounters = s.laneCounters := rfl
@[simp] theorem State.returnLane_primary (s : State) (n : LaneId) : (s.returnLane n).primary = s.primary := rfl
@[simp] theorem State.returnLane_secondary (s : State) (n : LaneId) : (s.returnLane n).secondary = s.secondary := rfl
@[simp] theorem State.returnLane_parsedControl (s : State) (n : LaneId) : (s.returnLane n).parsedControl = s.parsedControl := rfl
@[simp] theorem State.returnLane_ctlCounters (s : State) (n : LaneId) : (s.returnLane n).ctlCounters = s.ctlCounters := rfl
@[simp] theorem State.returnLane_events (s : State) (n : LaneId) : (s.returnLane n).events = s.events := rfl
@[simp] theorem State.returnLane_lostEvents (s : State) (n : LaneId) : (s.returnLane n).lostEvents = s.lostEvents := rfl
@[simp] theorem State.returnLane_timer (s : State) (n : LaneId) : (s.returnLane n).timer = s.timer := rfl
@[simp] theorem State.returnLane_params (s : State) (n : LaneId) : (s.returnLane n).params = s.params := rfl
@[simp] theorem State.returnLane_pendingClose (s : State) (n : LaneId) : (s.returnLane n).pendingClose = s.pendingClose := rfl
@[simp] theorem State.returnLane_sendDue (s : State) (n : LaneId) : (s.returnLane n).sendDue = s.sendDue := rfl
@[simp] theorem State.returnLane_holdRequests (s : State) (n : LaneId) : (s.returnLane n).holdRequests = s.holdRequests := rfl
@[simp] theorem State.returnLane_intakes (s : State) (n : LaneId) : (s.returnLane n).intakes = s.intakes := rfl
@[simp] theorem State.returnLane_isolationDue (s : State) (n : LaneId) : (s.returnLane n).isolationDue = s.isolationDue := rfl
@[simp] theorem State.returnLane_upstreamOut (s : State) (n : LaneId) : (s.returnLane n).upstreamOut = s.upstreamOut := rfl
@[simp] theorem State.returnLane_downlinkOut (s : State) (n : LaneId) : (s.returnLane n).downlinkOut = s.downlinkOut := rfl
@[simp] theorem State.returnLane_port (s : State) (n : LaneId) (p' : PortId) : (s.returnLane n).port p' = s.port p' := rfl
@[simp] theorem State.returnLane_record (s : State) (n : LaneId) (r' : RecordIx) : (s.returnLane n).record r' = s.record r' := rfl
@[simp] theorem State.returnLane_load (s : State) (n : LaneId) (p' : PortId) : (s.returnLane n).load p' = s.load p' := rfl

/-! ### `bumpRoam` -/

@[simp] theorem State.bumpRoam_pending (s : State) (k : RoamCounter) : (s.bumpRoam k).pending = s.pending := rfl
@[simp] theorem State.bumpRoam_ports (s : State) (k : RoamCounter) : (s.bumpRoam k).ports = s.ports := rfl
@[simp] theorem State.bumpRoam_tables (s : State) (k : RoamCounter) : (s.bumpRoam k).tables = s.tables := rfl
@[simp] theorem State.bumpRoam_matrix (s : State) (k : RoamCounter) : (s.bumpRoam k).matrix = s.matrix := rfl
@[simp] theorem State.bumpRoam_window (s : State) (k : RoamCounter) : (s.bumpRoam k).window = s.window := rfl
@[simp] theorem State.bumpRoam_records (s : State) (k : RoamCounter) : (s.bumpRoam k).records = s.records := rfl
@[simp] theorem State.bumpRoam_loads (s : State) (k : RoamCounter) : (s.bumpRoam k).loads = s.loads := rfl
@[simp] theorem State.bumpRoam_freeze (s : State) (k : RoamCounter) : (s.bumpRoam k).freeze = s.freeze := rfl
@[simp] theorem State.bumpRoam_registrations (s : State) (k : RoamCounter) : (s.bumpRoam k).registrations = s.registrations := rfl
@[simp] theorem State.bumpRoam_fullReported (s : State) (k : RoamCounter) : (s.bumpRoam k).fullReported = s.fullReported := rfl
@[simp] theorem State.bumpRoam_denials (s : State) (k : RoamCounter) : (s.bumpRoam k).denials = s.denials := rfl
@[simp] theorem State.bumpRoam_partition (s : State) (k : RoamCounter) : (s.bumpRoam k).partition = s.partition := rfl
@[simp] theorem State.bumpRoam_bindings (s : State) (k : RoamCounter) : (s.bumpRoam k).bindings = s.bindings := rfl
@[simp] theorem State.bumpRoam_cursor (s : State) (k : RoamCounter) : (s.bumpRoam k).cursor = s.cursor := rfl
@[simp] theorem State.bumpRoam_holds (s : State) (k : RoamCounter) : (s.bumpRoam k).holds = s.holds := rfl
@[simp] theorem State.bumpRoam_laneCounters (s : State) (k : RoamCounter) : (s.bumpRoam k).laneCounters = s.laneCounters := rfl
@[simp] theorem State.bumpRoam_primary (s : State) (k : RoamCounter) : (s.bumpRoam k).primary = s.primary := rfl
@[simp] theorem State.bumpRoam_secondary (s : State) (k : RoamCounter) : (s.bumpRoam k).secondary = s.secondary := rfl
@[simp] theorem State.bumpRoam_parsedControl (s : State) (k : RoamCounter) : (s.bumpRoam k).parsedControl = s.parsedControl := rfl
@[simp] theorem State.bumpRoam_ctlCounters (s : State) (k : RoamCounter) : (s.bumpRoam k).ctlCounters = s.ctlCounters := rfl
@[simp] theorem State.bumpRoam_events (s : State) (k : RoamCounter) : (s.bumpRoam k).events = s.events := rfl
@[simp] theorem State.bumpRoam_lostEvents (s : State) (k : RoamCounter) : (s.bumpRoam k).lostEvents = s.lostEvents := rfl
@[simp] theorem State.bumpRoam_timer (s : State) (k : RoamCounter) : (s.bumpRoam k).timer = s.timer := rfl
@[simp] theorem State.bumpRoam_params (s : State) (k : RoamCounter) : (s.bumpRoam k).params = s.params := rfl
@[simp] theorem State.bumpRoam_pendingClose (s : State) (k : RoamCounter) : (s.bumpRoam k).pendingClose = s.pendingClose := rfl
@[simp] theorem State.bumpRoam_sendDue (s : State) (k : RoamCounter) : (s.bumpRoam k).sendDue = s.sendDue := rfl
@[simp] theorem State.bumpRoam_holdRequests (s : State) (k : RoamCounter) : (s.bumpRoam k).holdRequests = s.holdRequests := rfl
@[simp] theorem State.bumpRoam_intakes (s : State) (k : RoamCounter) : (s.bumpRoam k).intakes = s.intakes := rfl
@[simp] theorem State.bumpRoam_isolationDue (s : State) (k : RoamCounter) : (s.bumpRoam k).isolationDue = s.isolationDue := rfl
@[simp] theorem State.bumpRoam_upstreamOut (s : State) (k : RoamCounter) : (s.bumpRoam k).upstreamOut = s.upstreamOut := rfl
@[simp] theorem State.bumpRoam_downlinkOut (s : State) (k : RoamCounter) : (s.bumpRoam k).downlinkOut = s.downlinkOut := rfl
@[simp] theorem State.bumpRoam_port (s : State) (k : RoamCounter) (p' : PortId) : (s.bumpRoam k).port p' = s.port p' := rfl
@[simp] theorem State.bumpRoam_record (s : State) (k : RoamCounter) (r' : RecordIx) : (s.bumpRoam k).record r' = s.record r' := rfl
@[simp] theorem State.bumpRoam_load (s : State) (k : RoamCounter) (p' : PortId) : (s.bumpRoam k).load p' = s.load p' := rfl
@[simp] theorem State.bumpRoam_holdOf (s : State) (k : RoamCounter) (n' : LaneId) : (s.bumpRoam k).holdOf n' = s.holdOf n' := rfl
@[simp] theorem State.bumpRoam_binding (s : State) (k : RoamCounter) (n' : LaneId) : (s.bumpRoam k).binding n' = s.binding n' := rfl

/-! ### `bumpCtl` -/

@[simp] theorem State.bumpCtl_pending (s : State) (k : CtlCounter) : (s.bumpCtl k).pending = s.pending := rfl
@[simp] theorem State.bumpCtl_ports (s : State) (k : CtlCounter) : (s.bumpCtl k).ports = s.ports := rfl
@[simp] theorem State.bumpCtl_tables (s : State) (k : CtlCounter) : (s.bumpCtl k).tables = s.tables := rfl
@[simp] theorem State.bumpCtl_matrix (s : State) (k : CtlCounter) : (s.bumpCtl k).matrix = s.matrix := rfl
@[simp] theorem State.bumpCtl_window (s : State) (k : CtlCounter) : (s.bumpCtl k).window = s.window := rfl
@[simp] theorem State.bumpCtl_records (s : State) (k : CtlCounter) : (s.bumpCtl k).records = s.records := rfl
@[simp] theorem State.bumpCtl_loads (s : State) (k : CtlCounter) : (s.bumpCtl k).loads = s.loads := rfl
@[simp] theorem State.bumpCtl_freeze (s : State) (k : CtlCounter) : (s.bumpCtl k).freeze = s.freeze := rfl
@[simp] theorem State.bumpCtl_roamCounters (s : State) (k : CtlCounter) : (s.bumpCtl k).roamCounters = s.roamCounters := rfl
@[simp] theorem State.bumpCtl_registrations (s : State) (k : CtlCounter) : (s.bumpCtl k).registrations = s.registrations := rfl
@[simp] theorem State.bumpCtl_fullReported (s : State) (k : CtlCounter) : (s.bumpCtl k).fullReported = s.fullReported := rfl
@[simp] theorem State.bumpCtl_denials (s : State) (k : CtlCounter) : (s.bumpCtl k).denials = s.denials := rfl
@[simp] theorem State.bumpCtl_partition (s : State) (k : CtlCounter) : (s.bumpCtl k).partition = s.partition := rfl
@[simp] theorem State.bumpCtl_bindings (s : State) (k : CtlCounter) : (s.bumpCtl k).bindings = s.bindings := rfl
@[simp] theorem State.bumpCtl_cursor (s : State) (k : CtlCounter) : (s.bumpCtl k).cursor = s.cursor := rfl
@[simp] theorem State.bumpCtl_holds (s : State) (k : CtlCounter) : (s.bumpCtl k).holds = s.holds := rfl
@[simp] theorem State.bumpCtl_laneCounters (s : State) (k : CtlCounter) : (s.bumpCtl k).laneCounters = s.laneCounters := rfl
@[simp] theorem State.bumpCtl_primary (s : State) (k : CtlCounter) : (s.bumpCtl k).primary = s.primary := rfl
@[simp] theorem State.bumpCtl_secondary (s : State) (k : CtlCounter) : (s.bumpCtl k).secondary = s.secondary := rfl
@[simp] theorem State.bumpCtl_parsedControl (s : State) (k : CtlCounter) : (s.bumpCtl k).parsedControl = s.parsedControl := rfl
@[simp] theorem State.bumpCtl_events (s : State) (k : CtlCounter) : (s.bumpCtl k).events = s.events := rfl
@[simp] theorem State.bumpCtl_lostEvents (s : State) (k : CtlCounter) : (s.bumpCtl k).lostEvents = s.lostEvents := rfl
@[simp] theorem State.bumpCtl_timer (s : State) (k : CtlCounter) : (s.bumpCtl k).timer = s.timer := rfl
@[simp] theorem State.bumpCtl_params (s : State) (k : CtlCounter) : (s.bumpCtl k).params = s.params := rfl
@[simp] theorem State.bumpCtl_pendingClose (s : State) (k : CtlCounter) : (s.bumpCtl k).pendingClose = s.pendingClose := rfl
@[simp] theorem State.bumpCtl_sendDue (s : State) (k : CtlCounter) : (s.bumpCtl k).sendDue = s.sendDue := rfl
@[simp] theorem State.bumpCtl_holdRequests (s : State) (k : CtlCounter) : (s.bumpCtl k).holdRequests = s.holdRequests := rfl
@[simp] theorem State.bumpCtl_intakes (s : State) (k : CtlCounter) : (s.bumpCtl k).intakes = s.intakes := rfl
@[simp] theorem State.bumpCtl_isolationDue (s : State) (k : CtlCounter) : (s.bumpCtl k).isolationDue = s.isolationDue := rfl
@[simp] theorem State.bumpCtl_upstreamOut (s : State) (k : CtlCounter) : (s.bumpCtl k).upstreamOut = s.upstreamOut := rfl
@[simp] theorem State.bumpCtl_downlinkOut (s : State) (k : CtlCounter) : (s.bumpCtl k).downlinkOut = s.downlinkOut := rfl
@[simp] theorem State.bumpCtl_port (s : State) (k : CtlCounter) (p' : PortId) : (s.bumpCtl k).port p' = s.port p' := rfl
@[simp] theorem State.bumpCtl_record (s : State) (k : CtlCounter) (r' : RecordIx) : (s.bumpCtl k).record r' = s.record r' := rfl
@[simp] theorem State.bumpCtl_load (s : State) (k : CtlCounter) (p' : PortId) : (s.bumpCtl k).load p' = s.load p' := rfl
@[simp] theorem State.bumpCtl_holdOf (s : State) (k : CtlCounter) (n' : LaneId) : (s.bumpCtl k).holdOf n' = s.holdOf n' := rfl
@[simp] theorem State.bumpCtl_binding (s : State) (k : CtlCounter) (n' : LaneId) : (s.bumpCtl k).binding n' = s.binding n' := rfl

/-! ### `bumpLane` -/

@[simp] theorem State.bumpLane_pending (s : State) (n : LaneId) (k : LaneCounter) : (s.bumpLane n k).pending = s.pending := rfl
@[simp] theorem State.bumpLane_ports (s : State) (n : LaneId) (k : LaneCounter) : (s.bumpLane n k).ports = s.ports := rfl
@[simp] theorem State.bumpLane_tables (s : State) (n : LaneId) (k : LaneCounter) : (s.bumpLane n k).tables = s.tables := rfl
@[simp] theorem State.bumpLane_matrix (s : State) (n : LaneId) (k : LaneCounter) : (s.bumpLane n k).matrix = s.matrix := rfl
@[simp] theorem State.bumpLane_window (s : State) (n : LaneId) (k : LaneCounter) : (s.bumpLane n k).window = s.window := rfl
@[simp] theorem State.bumpLane_records (s : State) (n : LaneId) (k : LaneCounter) : (s.bumpLane n k).records = s.records := rfl
@[simp] theorem State.bumpLane_loads (s : State) (n : LaneId) (k : LaneCounter) : (s.bumpLane n k).loads = s.loads := rfl
@[simp] theorem State.bumpLane_freeze (s : State) (n : LaneId) (k : LaneCounter) : (s.bumpLane n k).freeze = s.freeze := rfl
@[simp] theorem State.bumpLane_roamCounters (s : State) (n : LaneId) (k : LaneCounter) : (s.bumpLane n k).roamCounters = s.roamCounters := rfl
@[simp] theorem State.bumpLane_registrations (s : State) (n : LaneId) (k : LaneCounter) : (s.bumpLane n k).registrations = s.registrations := rfl
@[simp] theorem State.bumpLane_fullReported (s : State) (n : LaneId) (k : LaneCounter) : (s.bumpLane n k).fullReported = s.fullReported := rfl
@[simp] theorem State.bumpLane_denials (s : State) (n : LaneId) (k : LaneCounter) : (s.bumpLane n k).denials = s.denials := rfl
@[simp] theorem State.bumpLane_partition (s : State) (n : LaneId) (k : LaneCounter) : (s.bumpLane n k).partition = s.partition := rfl
@[simp] theorem State.bumpLane_bindings (s : State) (n : LaneId) (k : LaneCounter) : (s.bumpLane n k).bindings = s.bindings := rfl
@[simp] theorem State.bumpLane_cursor (s : State) (n : LaneId) (k : LaneCounter) : (s.bumpLane n k).cursor = s.cursor := rfl
@[simp] theorem State.bumpLane_holds (s : State) (n : LaneId) (k : LaneCounter) : (s.bumpLane n k).holds = s.holds := rfl
@[simp] theorem State.bumpLane_primary (s : State) (n : LaneId) (k : LaneCounter) : (s.bumpLane n k).primary = s.primary := rfl
@[simp] theorem State.bumpLane_secondary (s : State) (n : LaneId) (k : LaneCounter) : (s.bumpLane n k).secondary = s.secondary := rfl
@[simp] theorem State.bumpLane_parsedControl (s : State) (n : LaneId) (k : LaneCounter) : (s.bumpLane n k).parsedControl = s.parsedControl := rfl
@[simp] theorem State.bumpLane_ctlCounters (s : State) (n : LaneId) (k : LaneCounter) : (s.bumpLane n k).ctlCounters = s.ctlCounters := rfl
@[simp] theorem State.bumpLane_events (s : State) (n : LaneId) (k : LaneCounter) : (s.bumpLane n k).events = s.events := rfl
@[simp] theorem State.bumpLane_lostEvents (s : State) (n : LaneId) (k : LaneCounter) : (s.bumpLane n k).lostEvents = s.lostEvents := rfl
@[simp] theorem State.bumpLane_timer (s : State) (n : LaneId) (k : LaneCounter) : (s.bumpLane n k).timer = s.timer := rfl
@[simp] theorem State.bumpLane_params (s : State) (n : LaneId) (k : LaneCounter) : (s.bumpLane n k).params = s.params := rfl
@[simp] theorem State.bumpLane_pendingClose (s : State) (n : LaneId) (k : LaneCounter) : (s.bumpLane n k).pendingClose = s.pendingClose := rfl
@[simp] theorem State.bumpLane_sendDue (s : State) (n : LaneId) (k : LaneCounter) : (s.bumpLane n k).sendDue = s.sendDue := rfl
@[simp] theorem State.bumpLane_holdRequests (s : State) (n : LaneId) (k : LaneCounter) : (s.bumpLane n k).holdRequests = s.holdRequests := rfl
@[simp] theorem State.bumpLane_intakes (s : State) (n : LaneId) (k : LaneCounter) : (s.bumpLane n k).intakes = s.intakes := rfl
@[simp] theorem State.bumpLane_isolationDue (s : State) (n : LaneId) (k : LaneCounter) : (s.bumpLane n k).isolationDue = s.isolationDue := rfl
@[simp] theorem State.bumpLane_upstreamOut (s : State) (n : LaneId) (k : LaneCounter) : (s.bumpLane n k).upstreamOut = s.upstreamOut := rfl
@[simp] theorem State.bumpLane_downlinkOut (s : State) (n : LaneId) (k : LaneCounter) : (s.bumpLane n k).downlinkOut = s.downlinkOut := rfl
@[simp] theorem State.bumpLane_port (s : State) (n : LaneId) (k : LaneCounter) (p' : PortId) : (s.bumpLane n k).port p' = s.port p' := rfl
@[simp] theorem State.bumpLane_record (s : State) (n : LaneId) (k : LaneCounter) (r' : RecordIx) : (s.bumpLane n k).record r' = s.record r' := rfl
@[simp] theorem State.bumpLane_load (s : State) (n : LaneId) (k : LaneCounter) (p' : PortId) : (s.bumpLane n k).load p' = s.load p' := rfl
@[simp] theorem State.bumpLane_holdOf (s : State) (n : LaneId) (k : LaneCounter) (n' : LaneId) : (s.bumpLane n k).holdOf n' = s.holdOf n' := rfl
@[simp] theorem State.bumpLane_binding (s : State) (n : LaneId) (k : LaneCounter) (n' : LaneId) : (s.bumpLane n k).binding n' = s.binding n' := rfl

/-! ### `setLane` -/

@[simp] theorem State.setLane_pending (s : State) (l : CtlLane) (c : ControlLane) : (s.setLane l c).pending = s.pending := by cases l <;> rfl
@[simp] theorem State.setLane_ports (s : State) (l : CtlLane) (c : ControlLane) : (s.setLane l c).ports = s.ports := by cases l <;> rfl
@[simp] theorem State.setLane_tables (s : State) (l : CtlLane) (c : ControlLane) : (s.setLane l c).tables = s.tables := by cases l <;> rfl
@[simp] theorem State.setLane_matrix (s : State) (l : CtlLane) (c : ControlLane) : (s.setLane l c).matrix = s.matrix := by cases l <;> rfl
@[simp] theorem State.setLane_window (s : State) (l : CtlLane) (c : ControlLane) : (s.setLane l c).window = s.window := by cases l <;> rfl
@[simp] theorem State.setLane_records (s : State) (l : CtlLane) (c : ControlLane) : (s.setLane l c).records = s.records := by cases l <;> rfl
@[simp] theorem State.setLane_loads (s : State) (l : CtlLane) (c : ControlLane) : (s.setLane l c).loads = s.loads := by cases l <;> rfl
@[simp] theorem State.setLane_freeze (s : State) (l : CtlLane) (c : ControlLane) : (s.setLane l c).freeze = s.freeze := by cases l <;> rfl
@[simp] theorem State.setLane_roamCounters (s : State) (l : CtlLane) (c : ControlLane) : (s.setLane l c).roamCounters = s.roamCounters := by cases l <;> rfl
@[simp] theorem State.setLane_registrations (s : State) (l : CtlLane) (c : ControlLane) : (s.setLane l c).registrations = s.registrations := by cases l <;> rfl
@[simp] theorem State.setLane_fullReported (s : State) (l : CtlLane) (c : ControlLane) : (s.setLane l c).fullReported = s.fullReported := by cases l <;> rfl
@[simp] theorem State.setLane_denials (s : State) (l : CtlLane) (c : ControlLane) : (s.setLane l c).denials = s.denials := by cases l <;> rfl
@[simp] theorem State.setLane_partition (s : State) (l : CtlLane) (c : ControlLane) : (s.setLane l c).partition = s.partition := by cases l <;> rfl
@[simp] theorem State.setLane_bindings (s : State) (l : CtlLane) (c : ControlLane) : (s.setLane l c).bindings = s.bindings := by cases l <;> rfl
@[simp] theorem State.setLane_cursor (s : State) (l : CtlLane) (c : ControlLane) : (s.setLane l c).cursor = s.cursor := by cases l <;> rfl
@[simp] theorem State.setLane_holds (s : State) (l : CtlLane) (c : ControlLane) : (s.setLane l c).holds = s.holds := by cases l <;> rfl
@[simp] theorem State.setLane_laneCounters (s : State) (l : CtlLane) (c : ControlLane) : (s.setLane l c).laneCounters = s.laneCounters := by cases l <;> rfl
@[simp] theorem State.setLane_parsedControl (s : State) (l : CtlLane) (c : ControlLane) : (s.setLane l c).parsedControl = s.parsedControl := by cases l <;> rfl
@[simp] theorem State.setLane_ctlCounters (s : State) (l : CtlLane) (c : ControlLane) : (s.setLane l c).ctlCounters = s.ctlCounters := by cases l <;> rfl
@[simp] theorem State.setLane_events (s : State) (l : CtlLane) (c : ControlLane) : (s.setLane l c).events = s.events := by cases l <;> rfl
@[simp] theorem State.setLane_lostEvents (s : State) (l : CtlLane) (c : ControlLane) : (s.setLane l c).lostEvents = s.lostEvents := by cases l <;> rfl
@[simp] theorem State.setLane_timer (s : State) (l : CtlLane) (c : ControlLane) : (s.setLane l c).timer = s.timer := by cases l <;> rfl
@[simp] theorem State.setLane_params (s : State) (l : CtlLane) (c : ControlLane) : (s.setLane l c).params = s.params := by cases l <;> rfl
@[simp] theorem State.setLane_pendingClose (s : State) (l : CtlLane) (c : ControlLane) : (s.setLane l c).pendingClose = s.pendingClose := by cases l <;> rfl
@[simp] theorem State.setLane_sendDue (s : State) (l : CtlLane) (c : ControlLane) : (s.setLane l c).sendDue = s.sendDue := by cases l <;> rfl
@[simp] theorem State.setLane_holdRequests (s : State) (l : CtlLane) (c : ControlLane) : (s.setLane l c).holdRequests = s.holdRequests := by cases l <;> rfl
@[simp] theorem State.setLane_intakes (s : State) (l : CtlLane) (c : ControlLane) : (s.setLane l c).intakes = s.intakes := by cases l <;> rfl
@[simp] theorem State.setLane_isolationDue (s : State) (l : CtlLane) (c : ControlLane) : (s.setLane l c).isolationDue = s.isolationDue := by cases l <;> rfl
@[simp] theorem State.setLane_upstreamOut (s : State) (l : CtlLane) (c : ControlLane) : (s.setLane l c).upstreamOut = s.upstreamOut := by cases l <;> rfl
@[simp] theorem State.setLane_downlinkOut (s : State) (l : CtlLane) (c : ControlLane) : (s.setLane l c).downlinkOut = s.downlinkOut := by cases l <;> rfl
@[simp] theorem State.setLane_port (s : State) (l : CtlLane) (c : ControlLane) (p' : PortId) : (s.setLane l c).port p' = s.port p' := by simp [State.port]
@[simp] theorem State.setLane_record (s : State) (l : CtlLane) (c : ControlLane) (r' : RecordIx) : (s.setLane l c).record r' = s.record r' := by simp [State.record]
@[simp] theorem State.setLane_load (s : State) (l : CtlLane) (c : ControlLane) (p' : PortId) : (s.setLane l c).load p' = s.load p' := by simp [State.load]
@[simp] theorem State.setLane_holdOf (s : State) (l : CtlLane) (c : ControlLane) (n' : LaneId) : (s.setLane l c).holdOf n' = s.holdOf n' := by simp [State.holdOf]
@[simp] theorem State.setLane_binding (s : State) (l : CtlLane) (c : ControlLane) (n' : LaneId) : (s.setLane l c).binding n' = s.binding n' := by simp [State.binding]

/-! ### `respond` -/

@[simp] theorem State.respond_pending (s : State) (l : CtlLane) (x : Response) : (s.respond l x).pending = s.pending := by cases l <;> rfl
@[simp] theorem State.respond_ports (s : State) (l : CtlLane) (x : Response) : (s.respond l x).ports = s.ports := by cases l <;> rfl
@[simp] theorem State.respond_tables (s : State) (l : CtlLane) (x : Response) : (s.respond l x).tables = s.tables := by cases l <;> rfl
@[simp] theorem State.respond_matrix (s : State) (l : CtlLane) (x : Response) : (s.respond l x).matrix = s.matrix := by cases l <;> rfl
@[simp] theorem State.respond_window (s : State) (l : CtlLane) (x : Response) : (s.respond l x).window = s.window := by cases l <;> rfl
@[simp] theorem State.respond_records (s : State) (l : CtlLane) (x : Response) : (s.respond l x).records = s.records := by cases l <;> rfl
@[simp] theorem State.respond_loads (s : State) (l : CtlLane) (x : Response) : (s.respond l x).loads = s.loads := by cases l <;> rfl
@[simp] theorem State.respond_freeze (s : State) (l : CtlLane) (x : Response) : (s.respond l x).freeze = s.freeze := by cases l <;> rfl
@[simp] theorem State.respond_roamCounters (s : State) (l : CtlLane) (x : Response) : (s.respond l x).roamCounters = s.roamCounters := by cases l <;> rfl
@[simp] theorem State.respond_registrations (s : State) (l : CtlLane) (x : Response) : (s.respond l x).registrations = s.registrations := by cases l <;> rfl
@[simp] theorem State.respond_fullReported (s : State) (l : CtlLane) (x : Response) : (s.respond l x).fullReported = s.fullReported := by cases l <;> rfl
@[simp] theorem State.respond_denials (s : State) (l : CtlLane) (x : Response) : (s.respond l x).denials = s.denials := by cases l <;> rfl
@[simp] theorem State.respond_partition (s : State) (l : CtlLane) (x : Response) : (s.respond l x).partition = s.partition := by cases l <;> rfl
@[simp] theorem State.respond_bindings (s : State) (l : CtlLane) (x : Response) : (s.respond l x).bindings = s.bindings := by cases l <;> rfl
@[simp] theorem State.respond_cursor (s : State) (l : CtlLane) (x : Response) : (s.respond l x).cursor = s.cursor := by cases l <;> rfl
@[simp] theorem State.respond_holds (s : State) (l : CtlLane) (x : Response) : (s.respond l x).holds = s.holds := by cases l <;> rfl
@[simp] theorem State.respond_laneCounters (s : State) (l : CtlLane) (x : Response) : (s.respond l x).laneCounters = s.laneCounters := by cases l <;> rfl
@[simp] theorem State.respond_parsedControl (s : State) (l : CtlLane) (x : Response) : (s.respond l x).parsedControl = s.parsedControl := by cases l <;> rfl
@[simp] theorem State.respond_ctlCounters (s : State) (l : CtlLane) (x : Response) : (s.respond l x).ctlCounters = s.ctlCounters := by cases l <;> rfl
@[simp] theorem State.respond_events (s : State) (l : CtlLane) (x : Response) : (s.respond l x).events = s.events := by cases l <;> rfl
@[simp] theorem State.respond_lostEvents (s : State) (l : CtlLane) (x : Response) : (s.respond l x).lostEvents = s.lostEvents := by cases l <;> rfl
@[simp] theorem State.respond_timer (s : State) (l : CtlLane) (x : Response) : (s.respond l x).timer = s.timer := by cases l <;> rfl
@[simp] theorem State.respond_params (s : State) (l : CtlLane) (x : Response) : (s.respond l x).params = s.params := by cases l <;> rfl
@[simp] theorem State.respond_pendingClose (s : State) (l : CtlLane) (x : Response) : (s.respond l x).pendingClose = s.pendingClose := by cases l <;> rfl
@[simp] theorem State.respond_sendDue (s : State) (l : CtlLane) (x : Response) : (s.respond l x).sendDue = s.sendDue := by cases l <;> rfl
@[simp] theorem State.respond_holdRequests (s : State) (l : CtlLane) (x : Response) : (s.respond l x).holdRequests = s.holdRequests := by cases l <;> rfl
@[simp] theorem State.respond_intakes (s : State) (l : CtlLane) (x : Response) : (s.respond l x).intakes = s.intakes := by cases l <;> rfl
@[simp] theorem State.respond_isolationDue (s : State) (l : CtlLane) (x : Response) : (s.respond l x).isolationDue = s.isolationDue := by cases l <;> rfl
@[simp] theorem State.respond_upstreamOut (s : State) (l : CtlLane) (x : Response) : (s.respond l x).upstreamOut = s.upstreamOut := by cases l <;> rfl
@[simp] theorem State.respond_downlinkOut (s : State) (l : CtlLane) (x : Response) : (s.respond l x).downlinkOut = s.downlinkOut := by cases l <;> rfl
@[simp] theorem State.respond_port (s : State) (l : CtlLane) (x : Response) (p' : PortId) : (s.respond l x).port p' = s.port p' := by simp [State.port]
@[simp] theorem State.respond_record (s : State) (l : CtlLane) (x : Response) (r' : RecordIx) : (s.respond l x).record r' = s.record r' := by simp [State.record]
@[simp] theorem State.respond_load (s : State) (l : CtlLane) (x : Response) (p' : PortId) : (s.respond l x).load p' = s.load p' := by simp [State.load]
@[simp] theorem State.respond_holdOf (s : State) (l : CtlLane) (x : Response) (n' : LaneId) : (s.respond l x).holdOf n' = s.holdOf n' := by simp [State.holdOf]
@[simp] theorem State.respond_binding (s : State) (l : CtlLane) (x : Response) (n' : LaneId) : (s.respond l x).binding n' = s.binding n' := by simp [State.binding]

/-! ### `shedOn` -/

@[simp] theorem State.shedOn_pending (s : State) (l : CtlLane) (tag : Byte) : (s.shedOn l tag).pending = s.pending := by cases l <;> rfl
@[simp] theorem State.shedOn_ports (s : State) (l : CtlLane) (tag : Byte) : (s.shedOn l tag).ports = s.ports := by cases l <;> rfl
@[simp] theorem State.shedOn_tables (s : State) (l : CtlLane) (tag : Byte) : (s.shedOn l tag).tables = s.tables := by cases l <;> rfl
@[simp] theorem State.shedOn_matrix (s : State) (l : CtlLane) (tag : Byte) : (s.shedOn l tag).matrix = s.matrix := by cases l <;> rfl
@[simp] theorem State.shedOn_window (s : State) (l : CtlLane) (tag : Byte) : (s.shedOn l tag).window = s.window := by cases l <;> rfl
@[simp] theorem State.shedOn_records (s : State) (l : CtlLane) (tag : Byte) : (s.shedOn l tag).records = s.records := by cases l <;> rfl
@[simp] theorem State.shedOn_loads (s : State) (l : CtlLane) (tag : Byte) : (s.shedOn l tag).loads = s.loads := by cases l <;> rfl
@[simp] theorem State.shedOn_freeze (s : State) (l : CtlLane) (tag : Byte) : (s.shedOn l tag).freeze = s.freeze := by cases l <;> rfl
@[simp] theorem State.shedOn_roamCounters (s : State) (l : CtlLane) (tag : Byte) : (s.shedOn l tag).roamCounters = s.roamCounters := by cases l <;> rfl
@[simp] theorem State.shedOn_registrations (s : State) (l : CtlLane) (tag : Byte) : (s.shedOn l tag).registrations = s.registrations := by cases l <;> rfl
@[simp] theorem State.shedOn_fullReported (s : State) (l : CtlLane) (tag : Byte) : (s.shedOn l tag).fullReported = s.fullReported := by cases l <;> rfl
@[simp] theorem State.shedOn_denials (s : State) (l : CtlLane) (tag : Byte) : (s.shedOn l tag).denials = s.denials := by cases l <;> rfl
@[simp] theorem State.shedOn_partition (s : State) (l : CtlLane) (tag : Byte) : (s.shedOn l tag).partition = s.partition := by cases l <;> rfl
@[simp] theorem State.shedOn_bindings (s : State) (l : CtlLane) (tag : Byte) : (s.shedOn l tag).bindings = s.bindings := by cases l <;> rfl
@[simp] theorem State.shedOn_cursor (s : State) (l : CtlLane) (tag : Byte) : (s.shedOn l tag).cursor = s.cursor := by cases l <;> rfl
@[simp] theorem State.shedOn_holds (s : State) (l : CtlLane) (tag : Byte) : (s.shedOn l tag).holds = s.holds := by cases l <;> rfl
@[simp] theorem State.shedOn_laneCounters (s : State) (l : CtlLane) (tag : Byte) : (s.shedOn l tag).laneCounters = s.laneCounters := by cases l <;> rfl
@[simp] theorem State.shedOn_parsedControl (s : State) (l : CtlLane) (tag : Byte) : (s.shedOn l tag).parsedControl = s.parsedControl := by cases l <;> rfl
@[simp] theorem State.shedOn_events (s : State) (l : CtlLane) (tag : Byte) : (s.shedOn l tag).events = s.events := by cases l <;> rfl
@[simp] theorem State.shedOn_lostEvents (s : State) (l : CtlLane) (tag : Byte) : (s.shedOn l tag).lostEvents = s.lostEvents := by cases l <;> rfl
@[simp] theorem State.shedOn_timer (s : State) (l : CtlLane) (tag : Byte) : (s.shedOn l tag).timer = s.timer := by cases l <;> rfl
@[simp] theorem State.shedOn_params (s : State) (l : CtlLane) (tag : Byte) : (s.shedOn l tag).params = s.params := by cases l <;> rfl
@[simp] theorem State.shedOn_pendingClose (s : State) (l : CtlLane) (tag : Byte) : (s.shedOn l tag).pendingClose = s.pendingClose := by cases l <;> rfl
@[simp] theorem State.shedOn_sendDue (s : State) (l : CtlLane) (tag : Byte) : (s.shedOn l tag).sendDue = s.sendDue := by cases l <;> rfl
@[simp] theorem State.shedOn_holdRequests (s : State) (l : CtlLane) (tag : Byte) : (s.shedOn l tag).holdRequests = s.holdRequests := by cases l <;> rfl
@[simp] theorem State.shedOn_intakes (s : State) (l : CtlLane) (tag : Byte) : (s.shedOn l tag).intakes = s.intakes := by cases l <;> rfl
@[simp] theorem State.shedOn_isolationDue (s : State) (l : CtlLane) (tag : Byte) : (s.shedOn l tag).isolationDue = s.isolationDue := by cases l <;> rfl
@[simp] theorem State.shedOn_upstreamOut (s : State) (l : CtlLane) (tag : Byte) : (s.shedOn l tag).upstreamOut = s.upstreamOut := by cases l <;> rfl
@[simp] theorem State.shedOn_downlinkOut (s : State) (l : CtlLane) (tag : Byte) : (s.shedOn l tag).downlinkOut = s.downlinkOut := by cases l <;> rfl
@[simp] theorem State.shedOn_port (s : State) (l : CtlLane) (tag : Byte) (p' : PortId) : (s.shedOn l tag).port p' = s.port p' := by simp [State.port]
@[simp] theorem State.shedOn_record (s : State) (l : CtlLane) (tag : Byte) (r' : RecordIx) : (s.shedOn l tag).record r' = s.record r' := by simp [State.record]
@[simp] theorem State.shedOn_load (s : State) (l : CtlLane) (tag : Byte) (p' : PortId) : (s.shedOn l tag).load p' = s.load p' := by simp [State.load]
@[simp] theorem State.shedOn_holdOf (s : State) (l : CtlLane) (tag : Byte) (n' : LaneId) : (s.shedOn l tag).holdOf n' = s.holdOf n' := by simp [State.holdOf]
@[simp] theorem State.shedOn_binding (s : State) (l : CtlLane) (tag : Byte) (n' : LaneId) : (s.shedOn l tag).binding n' = s.binding n' := by simp [State.binding]

/-! ### `post` -/

@[simp] theorem State.post_pending (s : State) (c : EventClass) (k : EventKind) (p : Option PortId) (i : Option HeadsetId) (n : Option LaneId) (d : Byte) : (s.post c k p i n d).pending = s.pending := by unfold State.post; split <;> rfl
@[simp] theorem State.post_ports (s : State) (c : EventClass) (k : EventKind) (p : Option PortId) (i : Option HeadsetId) (n : Option LaneId) (d : Byte) : (s.post c k p i n d).ports = s.ports := by unfold State.post; split <;> rfl
@[simp] theorem State.post_tables (s : State) (c : EventClass) (k : EventKind) (p : Option PortId) (i : Option HeadsetId) (n : Option LaneId) (d : Byte) : (s.post c k p i n d).tables = s.tables := by unfold State.post; split <;> rfl
@[simp] theorem State.post_matrix (s : State) (c : EventClass) (k : EventKind) (p : Option PortId) (i : Option HeadsetId) (n : Option LaneId) (d : Byte) : (s.post c k p i n d).matrix = s.matrix := by unfold State.post; split <;> rfl
@[simp] theorem State.post_window (s : State) (c : EventClass) (k : EventKind) (p : Option PortId) (i : Option HeadsetId) (n : Option LaneId) (d : Byte) : (s.post c k p i n d).window = s.window := by unfold State.post; split <;> rfl
@[simp] theorem State.post_records (s : State) (c : EventClass) (k : EventKind) (p : Option PortId) (i : Option HeadsetId) (n : Option LaneId) (d : Byte) : (s.post c k p i n d).records = s.records := by unfold State.post; split <;> rfl
@[simp] theorem State.post_loads (s : State) (c : EventClass) (k : EventKind) (p : Option PortId) (i : Option HeadsetId) (n : Option LaneId) (d : Byte) : (s.post c k p i n d).loads = s.loads := by unfold State.post; split <;> rfl
@[simp] theorem State.post_freeze (s : State) (c : EventClass) (k : EventKind) (p : Option PortId) (i : Option HeadsetId) (n : Option LaneId) (d : Byte) : (s.post c k p i n d).freeze = s.freeze := by unfold State.post; split <;> rfl
@[simp] theorem State.post_roamCounters (s : State) (c : EventClass) (k : EventKind) (p : Option PortId) (i : Option HeadsetId) (n : Option LaneId) (d : Byte) : (s.post c k p i n d).roamCounters = s.roamCounters := by unfold State.post; split <;> rfl
@[simp] theorem State.post_registrations (s : State) (c : EventClass) (k : EventKind) (p : Option PortId) (i : Option HeadsetId) (n : Option LaneId) (d : Byte) : (s.post c k p i n d).registrations = s.registrations := by unfold State.post; split <;> rfl
@[simp] theorem State.post_fullReported (s : State) (c : EventClass) (k : EventKind) (p : Option PortId) (i : Option HeadsetId) (n : Option LaneId) (d : Byte) : (s.post c k p i n d).fullReported = s.fullReported := by unfold State.post; split <;> rfl
@[simp] theorem State.post_denials (s : State) (c : EventClass) (k : EventKind) (p : Option PortId) (i : Option HeadsetId) (n : Option LaneId) (d : Byte) : (s.post c k p i n d).denials = s.denials := by unfold State.post; split <;> rfl
@[simp] theorem State.post_partition (s : State) (c : EventClass) (k : EventKind) (p : Option PortId) (i : Option HeadsetId) (n : Option LaneId) (d : Byte) : (s.post c k p i n d).partition = s.partition := by unfold State.post; split <;> rfl
@[simp] theorem State.post_bindings (s : State) (c : EventClass) (k : EventKind) (p : Option PortId) (i : Option HeadsetId) (n : Option LaneId) (d : Byte) : (s.post c k p i n d).bindings = s.bindings := by unfold State.post; split <;> rfl
@[simp] theorem State.post_cursor (s : State) (c : EventClass) (k : EventKind) (p : Option PortId) (i : Option HeadsetId) (n : Option LaneId) (d : Byte) : (s.post c k p i n d).cursor = s.cursor := by unfold State.post; split <;> rfl
@[simp] theorem State.post_holds (s : State) (c : EventClass) (k : EventKind) (p : Option PortId) (i : Option HeadsetId) (n : Option LaneId) (d : Byte) : (s.post c k p i n d).holds = s.holds := by unfold State.post; split <;> rfl
@[simp] theorem State.post_laneCounters (s : State) (c : EventClass) (k : EventKind) (p : Option PortId) (i : Option HeadsetId) (n : Option LaneId) (d : Byte) : (s.post c k p i n d).laneCounters = s.laneCounters := by unfold State.post; split <;> rfl
@[simp] theorem State.post_primary (s : State) (c : EventClass) (k : EventKind) (p : Option PortId) (i : Option HeadsetId) (n : Option LaneId) (d : Byte) : (s.post c k p i n d).primary = s.primary := by unfold State.post; split <;> rfl
@[simp] theorem State.post_secondary (s : State) (c : EventClass) (k : EventKind) (p : Option PortId) (i : Option HeadsetId) (n : Option LaneId) (d : Byte) : (s.post c k p i n d).secondary = s.secondary := by unfold State.post; split <;> rfl
@[simp] theorem State.post_parsedControl (s : State) (c : EventClass) (k : EventKind) (p : Option PortId) (i : Option HeadsetId) (n : Option LaneId) (d : Byte) : (s.post c k p i n d).parsedControl = s.parsedControl := by unfold State.post; split <;> rfl
@[simp] theorem State.post_ctlCounters (s : State) (c : EventClass) (k : EventKind) (p : Option PortId) (i : Option HeadsetId) (n : Option LaneId) (d : Byte) : (s.post c k p i n d).ctlCounters = s.ctlCounters := by unfold State.post; split <;> rfl
@[simp] theorem State.post_timer (s : State) (c : EventClass) (k : EventKind) (p : Option PortId) (i : Option HeadsetId) (n : Option LaneId) (d : Byte) : (s.post c k p i n d).timer = s.timer := by unfold State.post; split <;> rfl
@[simp] theorem State.post_params (s : State) (c : EventClass) (k : EventKind) (p : Option PortId) (i : Option HeadsetId) (n : Option LaneId) (d : Byte) : (s.post c k p i n d).params = s.params := by unfold State.post; split <;> rfl
@[simp] theorem State.post_pendingClose (s : State) (c : EventClass) (k : EventKind) (p : Option PortId) (i : Option HeadsetId) (n : Option LaneId) (d : Byte) : (s.post c k p i n d).pendingClose = s.pendingClose := by unfold State.post; split <;> rfl
@[simp] theorem State.post_sendDue (s : State) (c : EventClass) (k : EventKind) (p : Option PortId) (i : Option HeadsetId) (n : Option LaneId) (d : Byte) : (s.post c k p i n d).sendDue = s.sendDue := by unfold State.post; split <;> rfl
@[simp] theorem State.post_holdRequests (s : State) (c : EventClass) (k : EventKind) (p : Option PortId) (i : Option HeadsetId) (n : Option LaneId) (d : Byte) : (s.post c k p i n d).holdRequests = s.holdRequests := by unfold State.post; split <;> rfl
@[simp] theorem State.post_intakes (s : State) (c : EventClass) (k : EventKind) (p : Option PortId) (i : Option HeadsetId) (n : Option LaneId) (d : Byte) : (s.post c k p i n d).intakes = s.intakes := by unfold State.post; split <;> rfl
@[simp] theorem State.post_isolationDue (s : State) (c : EventClass) (k : EventKind) (p : Option PortId) (i : Option HeadsetId) (n : Option LaneId) (d : Byte) : (s.post c k p i n d).isolationDue = s.isolationDue := by unfold State.post; split <;> rfl
@[simp] theorem State.post_upstreamOut (s : State) (c : EventClass) (k : EventKind) (p : Option PortId) (i : Option HeadsetId) (n : Option LaneId) (d : Byte) : (s.post c k p i n d).upstreamOut = s.upstreamOut := by unfold State.post; split <;> rfl
@[simp] theorem State.post_downlinkOut (s : State) (c : EventClass) (k : EventKind) (p : Option PortId) (i : Option HeadsetId) (n : Option LaneId) (d : Byte) : (s.post c k p i n d).downlinkOut = s.downlinkOut := by unfold State.post; split <;> rfl
@[simp] theorem State.post_port (s : State) (c : EventClass) (k : EventKind) (p : Option PortId) (i : Option HeadsetId) (n : Option LaneId) (d : Byte) (p' : PortId) : (s.post c k p i n d).port p' = s.port p' := by simp [State.port]
@[simp] theorem State.post_record (s : State) (c : EventClass) (k : EventKind) (p : Option PortId) (i : Option HeadsetId) (n : Option LaneId) (d : Byte) (r' : RecordIx) : (s.post c k p i n d).record r' = s.record r' := by simp [State.record]
@[simp] theorem State.post_load (s : State) (c : EventClass) (k : EventKind) (p : Option PortId) (i : Option HeadsetId) (n : Option LaneId) (d : Byte) (p' : PortId) : (s.post c k p i n d).load p' = s.load p' := by simp [State.load]
@[simp] theorem State.post_holdOf (s : State) (c : EventClass) (k : EventKind) (p : Option PortId) (i : Option HeadsetId) (n : Option LaneId) (d : Byte) (n' : LaneId) : (s.post c k p i n d).holdOf n' = s.holdOf n' := by simp [State.holdOf]
@[simp] theorem State.post_binding (s : State) (c : EventClass) (k : EventKind) (p : Option PortId) (i : Option HeadsetId) (n : Option LaneId) (d : Byte) (n' : LaneId) : (s.post c k p i n d).binding n' = s.binding n' := by simp [State.binding]

/-! ### `postFor` -/

@[simp] theorem State.postFor_pending (s : State) (c : EventClass) (k : EventKind) (p : Option PortId) (rd : Record) (d : Byte) : (s.postFor c k p rd d).pending = s.pending := by unfold State.postFor State.post; split <;> rfl
@[simp] theorem State.postFor_ports (s : State) (c : EventClass) (k : EventKind) (p : Option PortId) (rd : Record) (d : Byte) : (s.postFor c k p rd d).ports = s.ports := by unfold State.postFor State.post; split <;> rfl
@[simp] theorem State.postFor_tables (s : State) (c : EventClass) (k : EventKind) (p : Option PortId) (rd : Record) (d : Byte) : (s.postFor c k p rd d).tables = s.tables := by unfold State.postFor State.post; split <;> rfl
@[simp] theorem State.postFor_matrix (s : State) (c : EventClass) (k : EventKind) (p : Option PortId) (rd : Record) (d : Byte) : (s.postFor c k p rd d).matrix = s.matrix := by unfold State.postFor State.post; split <;> rfl
@[simp] theorem State.postFor_window (s : State) (c : EventClass) (k : EventKind) (p : Option PortId) (rd : Record) (d : Byte) : (s.postFor c k p rd d).window = s.window := by unfold State.postFor State.post; split <;> rfl
@[simp] theorem State.postFor_records (s : State) (c : EventClass) (k : EventKind) (p : Option PortId) (rd : Record) (d : Byte) : (s.postFor c k p rd d).records = s.records := by unfold State.postFor State.post; split <;> rfl
@[simp] theorem State.postFor_loads (s : State) (c : EventClass) (k : EventKind) (p : Option PortId) (rd : Record) (d : Byte) : (s.postFor c k p rd d).loads = s.loads := by unfold State.postFor State.post; split <;> rfl
@[simp] theorem State.postFor_freeze (s : State) (c : EventClass) (k : EventKind) (p : Option PortId) (rd : Record) (d : Byte) : (s.postFor c k p rd d).freeze = s.freeze := by unfold State.postFor State.post; split <;> rfl
@[simp] theorem State.postFor_roamCounters (s : State) (c : EventClass) (k : EventKind) (p : Option PortId) (rd : Record) (d : Byte) : (s.postFor c k p rd d).roamCounters = s.roamCounters := by unfold State.postFor State.post; split <;> rfl
@[simp] theorem State.postFor_registrations (s : State) (c : EventClass) (k : EventKind) (p : Option PortId) (rd : Record) (d : Byte) : (s.postFor c k p rd d).registrations = s.registrations := by unfold State.postFor State.post; split <;> rfl
@[simp] theorem State.postFor_fullReported (s : State) (c : EventClass) (k : EventKind) (p : Option PortId) (rd : Record) (d : Byte) : (s.postFor c k p rd d).fullReported = s.fullReported := by unfold State.postFor State.post; split <;> rfl
@[simp] theorem State.postFor_denials (s : State) (c : EventClass) (k : EventKind) (p : Option PortId) (rd : Record) (d : Byte) : (s.postFor c k p rd d).denials = s.denials := by unfold State.postFor State.post; split <;> rfl
@[simp] theorem State.postFor_partition (s : State) (c : EventClass) (k : EventKind) (p : Option PortId) (rd : Record) (d : Byte) : (s.postFor c k p rd d).partition = s.partition := by unfold State.postFor State.post; split <;> rfl
@[simp] theorem State.postFor_bindings (s : State) (c : EventClass) (k : EventKind) (p : Option PortId) (rd : Record) (d : Byte) : (s.postFor c k p rd d).bindings = s.bindings := by unfold State.postFor State.post; split <;> rfl
@[simp] theorem State.postFor_cursor (s : State) (c : EventClass) (k : EventKind) (p : Option PortId) (rd : Record) (d : Byte) : (s.postFor c k p rd d).cursor = s.cursor := by unfold State.postFor State.post; split <;> rfl
@[simp] theorem State.postFor_holds (s : State) (c : EventClass) (k : EventKind) (p : Option PortId) (rd : Record) (d : Byte) : (s.postFor c k p rd d).holds = s.holds := by unfold State.postFor State.post; split <;> rfl
@[simp] theorem State.postFor_laneCounters (s : State) (c : EventClass) (k : EventKind) (p : Option PortId) (rd : Record) (d : Byte) : (s.postFor c k p rd d).laneCounters = s.laneCounters := by unfold State.postFor State.post; split <;> rfl
@[simp] theorem State.postFor_primary (s : State) (c : EventClass) (k : EventKind) (p : Option PortId) (rd : Record) (d : Byte) : (s.postFor c k p rd d).primary = s.primary := by unfold State.postFor State.post; split <;> rfl
@[simp] theorem State.postFor_secondary (s : State) (c : EventClass) (k : EventKind) (p : Option PortId) (rd : Record) (d : Byte) : (s.postFor c k p rd d).secondary = s.secondary := by unfold State.postFor State.post; split <;> rfl
@[simp] theorem State.postFor_parsedControl (s : State) (c : EventClass) (k : EventKind) (p : Option PortId) (rd : Record) (d : Byte) : (s.postFor c k p rd d).parsedControl = s.parsedControl := by unfold State.postFor State.post; split <;> rfl
@[simp] theorem State.postFor_ctlCounters (s : State) (c : EventClass) (k : EventKind) (p : Option PortId) (rd : Record) (d : Byte) : (s.postFor c k p rd d).ctlCounters = s.ctlCounters := by unfold State.postFor State.post; split <;> rfl
@[simp] theorem State.postFor_timer (s : State) (c : EventClass) (k : EventKind) (p : Option PortId) (rd : Record) (d : Byte) : (s.postFor c k p rd d).timer = s.timer := by unfold State.postFor State.post; split <;> rfl
@[simp] theorem State.postFor_params (s : State) (c : EventClass) (k : EventKind) (p : Option PortId) (rd : Record) (d : Byte) : (s.postFor c k p rd d).params = s.params := by unfold State.postFor State.post; split <;> rfl
@[simp] theorem State.postFor_pendingClose (s : State) (c : EventClass) (k : EventKind) (p : Option PortId) (rd : Record) (d : Byte) : (s.postFor c k p rd d).pendingClose = s.pendingClose := by unfold State.postFor State.post; split <;> rfl
@[simp] theorem State.postFor_sendDue (s : State) (c : EventClass) (k : EventKind) (p : Option PortId) (rd : Record) (d : Byte) : (s.postFor c k p rd d).sendDue = s.sendDue := by unfold State.postFor State.post; split <;> rfl
@[simp] theorem State.postFor_holdRequests (s : State) (c : EventClass) (k : EventKind) (p : Option PortId) (rd : Record) (d : Byte) : (s.postFor c k p rd d).holdRequests = s.holdRequests := by unfold State.postFor State.post; split <;> rfl
@[simp] theorem State.postFor_intakes (s : State) (c : EventClass) (k : EventKind) (p : Option PortId) (rd : Record) (d : Byte) : (s.postFor c k p rd d).intakes = s.intakes := by unfold State.postFor State.post; split <;> rfl
@[simp] theorem State.postFor_isolationDue (s : State) (c : EventClass) (k : EventKind) (p : Option PortId) (rd : Record) (d : Byte) : (s.postFor c k p rd d).isolationDue = s.isolationDue := by unfold State.postFor State.post; split <;> rfl
@[simp] theorem State.postFor_upstreamOut (s : State) (c : EventClass) (k : EventKind) (p : Option PortId) (rd : Record) (d : Byte) : (s.postFor c k p rd d).upstreamOut = s.upstreamOut := by unfold State.postFor State.post; split <;> rfl
@[simp] theorem State.postFor_downlinkOut (s : State) (c : EventClass) (k : EventKind) (p : Option PortId) (rd : Record) (d : Byte) : (s.postFor c k p rd d).downlinkOut = s.downlinkOut := by unfold State.postFor State.post; split <;> rfl
@[simp] theorem State.postFor_port (s : State) (c : EventClass) (k : EventKind) (p : Option PortId) (rd : Record) (d : Byte) (p' : PortId) : (s.postFor c k p rd d).port p' = s.port p' := by simp [State.port]
@[simp] theorem State.postFor_record (s : State) (c : EventClass) (k : EventKind) (p : Option PortId) (rd : Record) (d : Byte) (r' : RecordIx) : (s.postFor c k p rd d).record r' = s.record r' := by simp [State.record]
@[simp] theorem State.postFor_load (s : State) (c : EventClass) (k : EventKind) (p : Option PortId) (rd : Record) (d : Byte) (p' : PortId) : (s.postFor c k p rd d).load p' = s.load p' := by simp [State.load]
@[simp] theorem State.postFor_holdOf (s : State) (c : EventClass) (k : EventKind) (p : Option PortId) (rd : Record) (d : Byte) (n' : LaneId) : (s.postFor c k p rd d).holdOf n' = s.holdOf n' := by simp [State.holdOf]
@[simp] theorem State.postFor_binding (s : State) (c : EventClass) (k : EventKind) (p : Option PortId) (rd : Record) (d : Byte) (n' : LaneId) : (s.postFor c k p rd d).binding n' = s.binding n' := by simp [State.binding]

end Sys2Proof.Machine
end

