-- ==== Sys2Proof/Laws/Ops.lean ====
section
/-! SUPPORT. For each shared operation a lemma that says what it can do, for proofs to cite in place of unfolding it. -/

namespace Sys2Proof.Machine

/-! ### Counters -/

theorem satInc_le (n : Nat) (h : n ≤ Config.counterMax) : satInc n ≤ Config.counterMax := by
  unfold satInc; split <;> omega

/-! ### The Event Queue -/

theorem placeEvent_length (e : Event) (q : List Event) : (placeEvent e q).length = q.length + 1 := by
  induction q with
  | nil => rfl
  | cons x xs ih => simp only [placeEvent]; split <;> simp [ih]

theorem mem_placeEvent (e x : Event) (q : List Event) : x ∈ placeEvent e q ↔ x = e ∨ x ∈ q := by
  induction q with
  | nil => simp [placeEvent]
  | cons y ys ih => simp only [placeEvent]; split <;> simp [ih, or_left_comm]

theorem queueEvent_length (q : List Event) (e : Event) (h : q.length ≤ Config.maxEvents) :
    (queueEvent q e).1.length ≤ Config.maxEvents := by
  unfold queueEvent
  split
  · simp only [placeEvent_length]; omega
  · split
    · exact h
    · split
      · rename_i x hx _
        have : q ≠ [] := by rintro rfl; simp at hx
        have := List.length_pos_iff.mpr this
        simp only [placeEvent_length, List.length_dropLast]; omega
      · exact h

/-- Posting either leaves the state alone (an Info event while Info Events is off) or queues the event. -/
theorem State.post_cases (s : State) (c : EventClass) (k : EventKind) (p : Option PortId) (i : Option HeadsetId)
    (n : Option LaneId) (d : Byte) :
    (c = .info ∧ s.params.infoEvents = false ∧ s.post c k p i n d = s) ∨
      s.post c k p i n d =
        { s with
          events := (queueEvent s.events ⟨c, k, s.timer.cycle, p, i, n, d⟩).1
          lostEvents := s.lostEvents || (queueEvent s.events ⟨c, k, s.timer.cycle, p, i, n, d⟩).2 } := by
  unfold State.post
  split
  · rename_i h; exact .inl ⟨h.1, h.2, rfl⟩
  · exact .inr rfl

/-! ### The order queue -/

theorem takeOrder_length (q : List Order) (k : OrderKind) (x : HeadsetId) (h : q.length ≤ Config.maxOrders) :
    (takeOrder q k x).2.length ≤ Config.maxOrders := by
  unfold takeOrder
  split
  · exact (List.length_filter_le _ _).trans h
  · split
    · rename_i hx
      have := List.length_filter_lt_length_iff_exists (p := fun o : Order => o ≠ ⟨.drop, x⟩) (l := q)
      have h' : (q.filter fun o => o ≠ ⟨.drop, x⟩).length < q.length := this.mpr ⟨_, hx.2, by simp⟩
      simp only [List.length_append, List.length_cons, List.length_nil]
      omega
    · split
      · exact h
      · split
        · simp only [List.length_append, List.length_cons, List.length_nil]; omega
        · split
          · simpa using h
          · exact h

/-- What asking a port for an order can come to (R118 to R120). -/
theorem State.requestOrder_cases (s : State) (p : PortId) (k : OrderKind) (x : HeadsetId) :
    (((s.port p).state = .off ∨ (s.port p).state = .isolated) ∧ s.requestOrder p k x = (noPlace k, s)) ∨
      (∃ o q, takeOrder (s.port p).orders k x = (o, q) ∧ o ≠ .discarded ∧
        s.requestOrder p k x = (o, s.modPort p fun y => { y with orders := q })) ∨
      (∃ q, takeOrder (s.port p).orders k x = (.discarded, q) ∧
        s.requestOrder p k x = (.discarded,
          ((s.modPort p fun y => { y with orders := q }).bumpPort p .orderDrops).post
            .warning .orderLost (some p) (some x) none k.code)) := by
  unfold State.requestOrder
  split
  · rename_i h; exact .inl ⟨h, rfl⟩
  · rcases ht : takeOrder (s.port p).orders k x with ⟨o, q⟩
    by_cases ho : o = .discarded
    · subst ho; exact .inr (.inr ⟨q, rfl, by simp⟩)
    · exact .inr (.inl ⟨o, q, rfl, ho, by simp [ho]⟩)

/-- An order request changes nothing but the ports, the Event Queue and Lost-Events. -/
theorem State.requestOrder_frame (s : State) (p : PortId) (k : OrderKind) (x : HeadsetId) :
    (s.requestOrder p k x).2 =
      { s with
        ports := (s.requestOrder p k x).2.ports
        events := (s.requestOrder p k x).2.events
        lostEvents := (s.requestOrder p k x).2.lostEvents } := by
  rcases s.requestOrder_cases p k x with ⟨-, h⟩ | ⟨o, q, -, -, h⟩ | ⟨q, -, h⟩ <;> rw [h]
  · rfl
  · unfold State.post
    split <;> rfl

/-- A request that is discarded leaves the queue as it was (R119). -/
theorem takeOrder_discarded {q : List Order} {k : OrderKind} {x : HeadsetId}
    (h : (takeOrder q k x).1 = .discarded) : (takeOrder q k x).2 = q := by
  unfold takeOrder at h ⊢
  repeat' split
  all_goals simp_all

/-- The port asked for a Drop takes it or counts it, every other port is as it was (R118 to R120). -/
theorem State.dropAt_port (s : State) (p q : PortId) (x : HeadsetId) :
    (s.dropAt p x).port q = if q = p then (s.port p).askedDrop x else s.port q := by
  have hb : (takeOrder (s.port p).orders .drop x).1 = .discarded →
      ({ s.port p with orders := (takeOrder (s.port p).orders .drop x).2 } : Port) = s.port p := by
    intro h; rw [takeOrder_discarded h]
  unfold State.dropAt State.requestOrder Port.askedDrop
  by_cases hd : (takeOrder (s.port p).orders .drop x).1 = .discarded <;> by_cases hq : q = p <;>
    cases hs : (s.port p).state <;> simp_all [State.modPort_port, State.bumpPort]

/-- What a Drop at a port that may be absent does to ports and loads (Table 3-2). -/
theorem State.dropAndLower_droppedAt (s : State) (p : Option PortId) (x : HeadsetId) :
    s.DroppedAt (s.dropAndLower p x) p.toList x := by
  cases p with
  | none => exact ⟨fun _ => by simp [State.dropAndLower], fun _ => by simp [State.dropAndLower]⟩
  | some a =>
    refine ⟨fun q => ?_, fun q => ?_⟩
    · have : (s.dropAt a x).load = s.load := by
        funext b; unfold State.dropAt; rw [s.requestOrder_frame]; rfl
      simp only [State.dropAndLower, State.lowerLoad_load, this]
      by_cases h : q = a <;> simp [h]
    · have : (s.dropAndLower (some a) x).port q = (s.dropAt a x).port q := rfl
      rw [this, State.dropAt_port]
      by_cases h : q = a <;> simp [h]

/-- What a Drop at a port that may be absent posts: Order Lost where a full queue discards it (R119). -/
theorem State.dropAndLower_events (s : State) (p : Option PortId) (x : HeadsetId) :
    (s.dropAndLower p x).events = (s.postLostDrops p.toList x).events ∧
      (s.dropAndLower p x).lostEvents = (s.postLostDrops p.toList x).lostEvents := by
  cases p with
  | none => exact ⟨rfl, rfl⟩
  | some a =>
    have hl : ∀ t : State, (t.lowerLoad a).events = t.events ∧ (t.lowerLoad a).lostEvents = t.lostEvents :=
      fun _ => ⟨rfl, rfl⟩
    simp only [State.dropAndLower, hl, State.postLostDrops, State.dropAt, State.requestOrder, Option.toList_some]
    by_cases hd : (takeOrder (s.port a).orders .drop x).1 = .discarded <;>
      cases hs : (s.port a).state <;> simp [hd, hs, List.filter, State.post, OrderKind.code]

/-! ### Control lanes -/

/-- Serving a packet sheds it, refuses it without authority, or hands it to its owner and queues the answer
(R138, R139, R141). -/
theorem serve_cases (o : Origin) (p : Permission) (owner : State → Reply × State) (s : State) :
    ((s.lane o.lane).full = true ∧ serve o p owner s = s.shedOn o.lane o.tag) ∨
      ((s.lane o.lane).full = false ∧ p.allows o.lane s.params.authority = false ∧
        serve o p owner s = s.refused o 6) ∨
      ((s.lane o.lane).full = false ∧ p.allows o.lane s.params.authority = true ∧
        serve o p owner s = (owner s).2.respond o.lane ((owner s).1.response o)) := by
  unfold serve
  cases hf : (s.lane o.lane).full
  · cases ha : p.allows o.lane s.params.authority
    · exact .inr (.inl ⟨rfl, rfl, by simp [State.refused, Reply.response, resultError, Reason.code]⟩)
    · exact .inr (.inr ⟨rfl, rfl, by simp⟩)
  · exact .inl ⟨rfl, by simp⟩

theorem Reply.response_done (o : Origin) (p : List Byte) :
    (Reply.done p).response o = ⟨if o.corrected then 0x02 else 0x01, o.tag, p⟩ := rfl

/-- A packet that can be served is handed to its owner. -/
theorem serve_of_serves {o : Origin} {p : Permission} {s : State} (h : s.Serves o p) (owner : State → Reply × State) :
    serve o p owner s = (owner s).2.respond o.lane ((owner s).1.response o) := by
  have hf : (s.lane o.lane).full = false := by simpa [ControlLane.full] using h.1
  rcases serve_cases o p owner s with ⟨h', -⟩ | ⟨-, h', -⟩ | ⟨-, -, h'⟩
  · rw [hf] at h'; cases h'
  · rw [h.2] at h'; cases h'
  · exact h'

/-- The queue of the lane after a response. -/
theorem State.respond_queue (s : State) (l : CtlLane) (x : Response) :
    ((s.respond l x).lane l).queue = (s.lane l).queue ++ [x] := by
  cases l <;> rfl

/-- Placing responses splits the queue in two (R144). -/
theorem takeResponses_append (room : Nat) (q : List Response) :
    (takeResponses room q).1 ++ (takeResponses room q).2 = q := by
  induction q generalizing room with
  | nil => rfl
  | cons x xs ih =>
    simp only [takeResponses]
    split
    · simp [ih]
    · rfl

/-- The responses placed fit the room (R144). -/
theorem takeResponses_room (room : Nat) (q : List Response) :
    ((takeResponses room q).1.map Response.size).sum ≤ room := by
  induction q generalizing room with
  | nil => simp [takeResponses]
  | cons x xs ih =>
    simp only [takeResponses]
    split
    · have := ih (room - x.size)
      simp only [List.map_cons, List.sum_cons]
      omega
    · simp

/-- Filler is skipped (R133). -/
theorem parseBlock_filler (l : CtlLane) (fuel n : Nat) (s : State) :
    parseBlock l fuel (List.replicate n 0) s = s := by
  induction fuel generalizing n with
  | zero => rfl
  | succ k ih =>
    cases n with
    | zero => rfl
    | succ n => simpa [List.replicate_succ, parseBlock] using ih n

/-! ### Registration Queue -/

/-- Taking entries out keeps the others in order and re-arms Registration Full (R73). -/
theorem State.removeRegistrations_registrations (s : State) (leaves : Registration → Bool) :
    (s.removeRegistrations leaves).registrations = s.registrations.filter fun x => !leaves x := by
  unfold State.removeRegistrations
  split
  · rfl
  · rename_i h
    simp only [List.any_eq_true, not_exists, not_and, Bool.not_eq_true] at h
    exact (List.filter_eq_self.mpr fun x hx => by simp [h x hx]).symm

/-- Taking entries out changes nothing but the queue and Full Reported. -/
theorem State.removeRegistrations_frame (s : State) (leaves : Registration → Bool) :
    ∃ full, s.removeRegistrations leaves =
      { s with registrations := s.registrations.filter fun x => !leaves x, fullReported := full } := by
  by_cases h : s.registrations.any leaves = true
  · exact ⟨_, by unfold State.removeRegistrations; rw [if_pos h]⟩
  · refine ⟨s.fullReported, ?_⟩
    have hk := s.removeRegistrations_registrations leaves
    have hs : s.removeRegistrations leaves = s := by unfold State.removeRegistrations; rw [if_neg h]
    rw [hs] at hk ⊢
    rw [← hk]

/-! ### Candidate lists -/

theorem mem_insertCand (c x : Candidate) (l : List Candidate) : x ∈ insertCand c l ↔ x = c ∨ x ∈ l := by
  induction l with
  | nil => simp [insertCand]
  | cons y ys ih => simp only [insertCand]; split <;> simp [ih, or_left_comm]

theorem insertCand_length (c : Candidate) (l : List Candidate) : (insertCand c l).length = l.length + 1 := by
  induction l with
  | nil => rfl
  | cons y ys ih => simp only [insertCand]; split <;> simp [ih]

/-- Inserting keeps a list in order (R3, R37). -/
theorem insertCand_ordered (c : Candidate) (l : List Candidate) (h : l.Pairwise fun x y => y.q ≤ x.q) :
    (insertCand c l).Pairwise fun x y => y.q ≤ x.q := by
  induction l with
  | nil => simp [insertCand]
  | cons y ys ih =>
    obtain ⟨hy, hys⟩ := List.pairwise_cons.mp h
    simp only [insertCand]
    split
    · refine List.pairwise_cons.mpr ⟨fun z hz => ?_, h⟩
      rcases List.mem_cons.mp hz with rfl | hz
      · omega
      · have := hy z hz; omega
    · refine List.pairwise_cons.mpr ⟨fun z hz => ?_, ih hys⟩
      rcases (mem_insertCand c z ys).mp hz with rfl | hz
      · omega
      · exact hy z hz

/-! ### A port leaving service -/

/-- A record that does not name the port is untouched by its departure (R23, R24). -/
theorem Record.departed_of_unnamed {p : PortId} {rd : Record} (n : Nat) (hs : rd.serving ≠ some p)
    (ht : rd.target ≠ some p) : rd.departed p n = rd := by
  simp [Record.departed, hs, ht]

/-- A record that does not name the port adds nothing to its departure (R23, R24). -/
theorem Record.leavePort_of_unnamed {p : PortId} {rd : Record} (d : Bool) (v : State) (hs : rd.serving ≠ some p)
    (ht : rd.target ≠ some p) : rd.leavePort p d v = v := by
  simp [Record.leavePort, hs, ht]

/-- The departure of a port that no record names changes nothing. -/
theorem State.leftBy_of_unnamed {s : State} {p : PortId} (d : Bool) (v : State)
    (h : ∀ r, (s.record r).serving ≠ some p ∧ (s.record r).target ≠ some p) : s.leftBy p d v = v := by
  simp only [State.leftBy, Record.leavePort_of_unnamed d _ (h _).1 (h _).2]
  induction List.finRange 192 <;> simp_all

end Sys2Proof.Machine
end

