-- ==== Sys2Proof/Laws/PerInstr.lean ====
section
/-! SUPPORT. Statements made per command. PacketFitsBlock: a well-formed command packet, as its sender makes it, fits a
control block (R136). -/

namespace Sys2Proof.Laws

open Sys2Proof.Machine

theorem packetBytes_length (code tag : Byte) (p : List Byte) :
    (packetBytes code tag p).length = if p = [] then 4 else 4 + p.length + 2 := by
  unfold packetBytes
  split
  · rfl
  · simp [halfBytes]; omega

theorem packetBytes_fits (code tag : Byte) (p : List Byte) (h : p.length ≤ Config.maxCommandPayload) :
    (packetBytes code tag p).length ≤ Config.controlBlockBytes := by
  rw [packetBytes_length]
  have : Config.maxCommandPayload = 58 := rfl
  have : Config.controlBlockBytes = 64 := rfl
  split <;> omega

namespace PacketFitsBlock

/-- The packet of a well-formed command fits a control block, whatever its code and tag (R136). -/
def Statement (i : Instr) : Prop :=
  i.wellFormed = true → ∀ p, i.packetPayload = some p → ∀ code tag : Byte,
    (packetBytes code tag p).length ≤ Config.controlBlockBytes

theorem of_payload {i : Instr} (p : List Byte) (hp : i.packetPayload = some p)
    (hw : i.wellFormed = true → p.length ≤ Config.maxCommandPayload) : Statement i := by
  intro h q hq code tag
  have : p = q := Option.some.inj (hp.symm.trans hq)
  exact packetBytes_fits code tag q (this ▸ hw h)

theorem of_none {i : Instr} (hp : i.packetPayload = none) : Statement i := by
  intro _ q hq
  rw [hp] at hq
  cases hq

theorem powerOnReset : Statement (.powerOnReset) := of_none rfl

theorem downstreamArrival (after : Nat) (order : StartOrder) (frame : List Byte) : Statement (.downstreamArrival after order frame) := of_none rfl

theorem localCycleStart (order : StartOrder) : Statement (.localCycleStart order) := of_none rfl

theorem holdoverWatchExpiry (order : StartOrder) : Statement (.holdoverWatchExpiry order) := of_none rfl

theorem freezeExpired : Statement (.freezeExpired) := of_none rfl

theorem registrationAgeOut : Statement (.registrationAgeOut) := of_none rfl

theorem denyListingExpiry (id : HeadsetId) : Statement (.denyListingExpiry id) := of_none rfl

theorem downlinkSend (port : PortId) : Statement (.downlinkSend port) := of_none rfl

theorem cycleClose : Statement (.cycleClose) := of_none rfl

theorem linkLost (rd : RecordIx) : Statement (.linkLost rd) := of_none rfl

theorem holdWrite : Statement (.holdWrite) := of_none rfl

theorem bridgeTimeout (rd : RecordIx) : Statement (.bridgeTimeout rd) := of_none rfl

theorem attachTimeout (rd : RecordIx) : Statement (.attachTimeout rd) := of_none rfl

theorem headsetDropped (rd : RecordIx) : Statement (.headsetDropped rd) := of_none rfl

theorem barTimerExpiry (rd : RecordIx) (antenna : PortId) : Statement (.barTimerExpiry rd antenna) := of_none rfl

theorem portIsolated (port : PortId) : Statement (.portIsolated port) := of_none rfl

theorem registrationIntake : Statement (.registrationIntake) := of_none rfl

theorem uplinkFrame (port : PortId) (bytes : List Byte) : Statement (.uplinkFrame port bytes) := of_none rfl

theorem echo (o : Origin) (payload : List Byte) : Statement (.echo o payload) :=
  of_payload payload rfl fun h => of_decide_eq_true h

theorem identify (o : Origin) (payload : List Byte) : Statement (.identify o payload) :=
  of_payload payload rfl fun h => of_decide_eq_true h

theorem readStatus (o : Origin) (payload : List Byte) : Statement (.readStatus o payload) :=
  of_payload payload rfl fun h => of_decide_eq_true h

theorem configure (o : Origin) (payload : List Byte) : Statement (.configure o payload) :=
  of_payload payload rfl fun h => of_decide_eq_true h

theorem readParameters (o : Origin) (payload : List Byte) : Statement (.readParameters o payload) :=
  of_payload payload rfl fun h => of_decide_eq_true h

theorem setPartition (o : Origin) (payload : List Byte) : Statement (.setPartition o payload) :=
  of_payload payload rfl fun h => of_decide_eq_true h

theorem restart (o : Origin) (payload : List Byte) : Statement (.restart o payload) :=
  of_payload payload rfl fun h => of_decide_eq_true h

theorem clearShed (o : Origin) (payload : List Byte) : Statement (.clearShed o payload) :=
  of_payload payload rfl fun h => of_decide_eq_true h

theorem counterExchangeAdd (o : Origin) (payload : List Byte) : Statement (.counterExchangeAdd o payload) :=
  of_payload payload rfl fun h => of_decide_eq_true h

theorem activate (o : Origin) (port cls : Byte) : Statement (.activate o port cls) :=
  of_payload _ rfl fun _ => by simp [Config.maxCommandPayload]

theorem makeDormant (o : Origin) (port cls : Byte) : Statement (.makeDormant o port cls) :=
  of_payload _ rfl fun _ => by simp [Config.maxCommandPayload]

theorem turnOff (o : Origin) (port cls : Byte) : Statement (.turnOff o port cls) :=
  of_payload _ rfl fun _ => by simp [Config.maxCommandPayload]

theorem portReset (o : Origin) (port cls : Byte) : Statement (.portReset o port cls) :=
  of_payload _ rfl fun _ => by simp [Config.maxCommandPayload]

theorem setClass (o : Origin) (port cls : Byte) : Statement (.setClass o port cls) :=
  of_payload _ rfl fun _ => by simp [Config.maxCommandPayload]

theorem loadTranslate (o : Origin) (payload : List Byte) : Statement (.loadTranslate o payload) :=
  of_payload payload rfl fun h => of_decide_eq_true h

theorem readTranslate (o : Origin) (payload : List Byte) : Statement (.readTranslate o payload) :=
  of_payload payload rfl fun h => of_decide_eq_true h

theorem setWindow (o : Origin) (payload : List Byte) : Statement (.setWindow o payload) :=
  of_payload payload rfl fun h => of_decide_eq_true h

theorem writeWindow (o : Origin) (payload : List Byte) : Statement (.writeWindow o payload) :=
  of_payload payload rfl fun h => of_decide_eq_true h

theorem readWindow (o : Origin) (payload : List Byte) : Statement (.readWindow o payload) :=
  of_payload payload rfl fun h => of_decide_eq_true h

theorem fetchRegistrations (o : Origin) (payload : List Byte) : Statement (.fetchRegistrations o payload) :=
  of_payload payload rfl fun h => of_decide_eq_true h

theorem admitHeadset (o : Origin) (payload : List Byte) : Statement (.admitHeadset o payload) :=
  of_payload payload rfl fun h => of_decide_eq_true h

theorem deny (o : Origin) (payload : List Byte) : Statement (.deny o payload) :=
  of_payload payload rfl fun h => of_decide_eq_true h

theorem release (o : Origin) (payload : List Byte) : Statement (.release o payload) :=
  of_payload payload rfl fun h => of_decide_eq_true h

theorem readRecord (o : Origin) (payload : List Byte) : Statement (.readRecord o payload) :=
  of_payload payload rfl fun h => of_decide_eq_true h

theorem forceHandoff (o : Origin) (payload : List Byte) : Statement (.forceHandoff o payload) :=
  of_payload payload rfl fun h => of_decide_eq_true h

theorem freezeOn (o : Origin) (duration : Half) : Statement (.freezeOn o duration) :=
  of_payload _ rfl fun _ => by simp [Config.maxCommandPayload]

theorem freezeOff (o : Origin) (duration : Half) : Statement (.freezeOff o duration) :=
  of_payload _ rfl fun _ => by simp [Config.maxCommandPayload]

theorem fetchEvents (o : Origin) (payload : List Byte) : Statement (.fetchEvents o payload) :=
  of_payload payload rfl fun h => of_decide_eq_true h

end PacketFitsBlock

end Sys2Proof.Laws
end

