-- ==== Sys2Proof/Tests/Slice0.lean ====
section
/-! SUPPORT. The model's own tests: the smoke tests of WellFormed, the spec's worked examples one step at a time, and
for every statement with hypotheses a witness: a concrete state and operands that meet them, clause by clause. -/

namespace Sys2Proof.Tests

open Sys2Proof.Machine

set_option Elab.async false

/-! ### WellFormed refuses an ill-formed term -/

theorem test_wellFormed_frame_size :
    (Instr.downstreamArrival 16 ⟨false, false, false⟩ (List.replicate 4114 0)).wellFormed = false ∧
      (Instr.downstreamArrival 16 ⟨false, false, false⟩ (List.replicate 4115 0)).wellFormed = true := by
  decide +kernel

theorem test_wellFormed_packet_size :
    (Instr.echo ⟨.primary, 0, false⟩ (List.replicate 59 0)).wellFormed = false ∧
      (Instr.echo ⟨.primary, 0, false⟩ (List.replicate 58 0)).wellFormed = true := by
  decide

/-! ### A small state: four records in use on antennas 2 and 3 -/

/-- The ID of 00_scope.md 4.3. -/
def marshal : HeadsetId := 0x33A71C

/-- A packet's origin on the primary lane. -/
def lead : Origin := ⟨.primary, 5, false⟩

/-- A packet's origin on the secondary lane. -/
def second : Origin := ⟨.secondary, 6, false⟩

/-- Record 0 of the stage, ACTIVE on antenna 2. -/
def carried : Record :=
  { Record.free with
    state := .active, id := some marshal, lane := some 30, serving := some 2
    cands := [⟨3, 1180, 0, 0⟩, ⟨2, 1100, 0, 0⟩] }

/-- Record 1 of the stage, BRIDGING from antenna 2 to antenna 3. -/
def bridging : Record :=
  { Record.free with
    state := .bridging, id := some 0x100001, lane := some 31, serving := some 2, target := some 3
    kind := some .automatic, cands := [⟨3, 1180, 0, 0⟩, ⟨2, 1100, 0, 0⟩] }

/-- Record 2 of the stage, ATTACHING on antenna 3. -/
def attaching : Record :=
  { Record.free with
    state := .attaching, id := some 0x200002, lane := some 32, target := some 3, cands := [⟨3, 656, 0, 0⟩] }

/-- Record 3 of the stage, SEARCHING. -/
def searching : Record := { Record.free with state := .searching, id := some 0x300003, lane := some 33 }

/-- The ports of the stage: 2 and 3 ACTIVE, 7 DORMANT, 8 ISOLATED, the rest OFF. -/
def stagePorts : Vector Port 24 :=
  vset (vset (vset (vset (Vector.replicate 24 Port.powerOn) 2 { Port.powerOn with state := .active })
    3 { Port.powerOn with state := .active }) 7 { Port.powerOn with state := .dormant })
    8 { Port.powerOn with state := .isolated, returnState := .active }

/-- Records 0 to 3 in use, each on its lane, and a close waiting at the front of the queue. -/
def stage : State :=
  { State.reset with
    pending := [.cycleClose]
    ports := stagePorts
    records := vset (vset (vset (vset (Vector.replicate 192 Record.free) 0 carried) 1 bridging) 2 attaching) 3 searching
    loads := vset (vset (Vector.replicate 24 0) 2 2) 3 2
    bindings := vset (vset (vset (vset (Vector.replicate 64 none) 30 (some 0)) 31 (some 1)) 32 (some 2)) 33 (some 3) }

/-- The stage with another record in place of record 0. -/
def withRecord (rd : Record) : State := stage.setRecord 0 rd

theorem stage_record (r : RecordIx) : stage.record r =
    if r = 3 then searching else if r = 2 then attaching else if r = 1 then bridging else if r = 0 then carried
    else Record.free := by
  simp [State.record, stage, vset_get]

theorem stage_binding (n : LaneId) : stage.binding n =
    if n = 33 then some 3 else if n = 32 then some 2 else if n = 31 then some 1 else if n = 30 then some 0
    else none := by
  simp [State.binding, stage, vset_get]

/-- Records of the stage's shape with record 0 replaced stay lawful when the new record keeps its shape, ID and lane. -/
theorem withRecord_ok (rd : Record) (hs : rd.shapeOk) (hi : rd.id = some marshal) (hl : rd.lane = some 30) :
    (withRecord rd).RecordsOk := by
  have hr : ∀ r, (withRecord rd).record r = if r = 0 then rd else stage.record r := by
    intro r; simp [withRecord, State.record, State.setRecord, vset_get]
  have hb : ∀ n, (withRecord rd).binding n = stage.binding n := fun _ => rfl
  constructor
  · intro r
    rw [hr, stage_record]
    split
    · exact hs
    · repeat' split
      all_goals simp [Record.shapeOk, searching, attaching, bridging, Record.free]
  · intro r r' x
    rw [hr, hr, stage_record, stage_record]
    repeat' split
    all_goals subst_vars
    all_goals simp_all [searching, attaching, bridging, Record.free, marshal]
    all_goals (intro h1 h2; rw [← h1] at h2; revert h2; decide)
  · intro r x
    rw [hr, stage_record]
    repeat' split
    all_goals simp_all [searching, attaching, bridging, Record.free, marshal]
    all_goals (rintro rfl; decide)
  · have hlane : ∀ r, ((withRecord rd).record r).lane =
        if r = 0 then some 30 else if r = 1 then some 31 else if r = 2 then some 32 else if r = 3 then some 33
        else none := by
      intro r
      rw [hr, stage_record]
      repeat' split
      all_goals simp_all [searching, attaching, bridging, Record.free]
    intro n r
    rw [hlane, hb, stage_binding]
    revert n r
    decide +kernel

/-- The stage as a lawful state. -/
def live : State := withRecord carried

theorem live_record (r : RecordIx) : live.record r = stage.record r := by
  simp only [live, withRecord, State.record, State.setRecord, vset_get]
  split
  · subst_vars; rfl
  · rfl

theorem live_recordsOk : live.RecordsOk := withRecord_ok carried (by simp [Record.shapeOk, carried, Record.free]) rfl rfl

theorem live_loadsOk : live.LoadsOk where
  counted := by unfold State.named; decide +kernel
  bounded := by decide +kernel
  inService := by decide +kernel

theorem live_candidatesOk : live.CandidatesOk := by
  intro r
  rw [live_record, stage_record]
  repeat' split
  all_goals constructor
  all_goals decide

theorem live_admissionOk : live.AdmissionOk := by constructor <;> simp [live, withRecord, stage, State.reset,
  State.powerOn, State.setRecord]

theorem live_laneMapOk : live.LaneMapOk where
  total := rfl
  control := .inl rfl
  voice := by decide +kernel
  spared := by simp [live, withRecord, stage, State.reset, State.powerOn, State.setRecord, Params.default]
  allCall := by simp [live, withRecord, stage, State.reset, State.powerOn, State.setRecord, Params.default]
  cursorLow := by decide
  cursorHigh := .inl (by decide)

theorem live_ordersOk : live.OrdersOk := by
  have h : ∀ p, (live.port p).orders = [] := by decide +kernel
  intro p
  rw [h]
  exact ⟨by decide, by simp⟩

theorem live_voiceOk : live.VoiceOk where
  room := by decide +kernel
  distinct := by decide +kernel
  conceal := by decide +kernel

theorem live_controlOk : live.ControlOk := by
  refine ⟨⟨?_, fun _ => rfl⟩, ?_, fun _ => rfl⟩ <;> decide

theorem live_eventsOk : eventsOk live.events := by constructor <;> decide

theorem live_countersOk : live.CountersOk := by
  have hp : ∀ p : PortId, ∀ k : Fin 7, (live.port p).counters.get k ≤ Config.counterMax := by decide +kernel
  have hl : ∀ n : LaneId, ∀ k : Fin 4, (live.laneCounters.get n).get k ≤ Config.counterMax := by decide +kernel
  have hr : ∀ k : Fin 4, live.roamCounters.get k ≤ Config.counterMax := by decide +kernel
  have hc : ∀ k : Fin 5, live.ctlCounters.get k ≤ Config.counterMax := by decide +kernel
  intro c
  cases c <;> simp only [State.counter] <;> first | exact hp _ _ | exact hl _ _ | exact hr _ | exact hc _

theorem live_paramsOk : live.params.Ok := by constructor <;> decide

theorem live_windowOk : live.window.ok := by
  refine ⟨?_, ?_, ⟨?_, ?_⟩, ?_, ?_⟩ <;> decide

/-- A close at the front of the queue always answers a next state. -/
theorem step_cycleClose (s : State) (rest : List Instr) (h : s.pending = .cycleClose :: rest) :
    ∃ t, step s = .next t := by
  unfold step
  rw [h]
  exact ⟨_, rfl⟩

theorem live_steps : ∃ t, step live = .next t := step_cycleClose live [] rfl

/-! ### Witnesses: the laws that every step keeps -/

theorem witness_EveryWellFormedCommandCompletes :
    (Instr.echo lead (List.replicate 58 0)).wellFormed = true ∧ (List.replicate 4114 (0 : Byte)).length ≠ 4115 := by
  decide +kernel

theorem witness_QueuesAndCountersStayInRange :
    (∃ t, step live = .next t) ∧ eventsOk live.events ∧ live.CountersOk ∧ live.ControlOk :=
  ⟨live_steps, live_eventsOk, live_countersOk, live_controlOk⟩

theorem witness_PortQueuesAndHoldsStayBounded :
    (∃ t, step live = .next t) ∧ live.OrdersOk ∧ live.params.Ok ∧ live.VoiceOk :=
  ⟨live_steps, live_ordersOk, live_paramsOk, live_voiceOk⟩

theorem witness_LaneMapStaysLawful : live.LaneMapOk ∧ ∃ t, step live = .next t :=
  ⟨live_laneMapOk, live_steps⟩

theorem witness_ParametersFreezeAndWindowStayInRange :
    live.params.Ok ∧ live.freeze.ok ∧ live.window.ok ∧ ∃ t, step live = .next t :=
  ⟨live_paramsOk, by unfold Freeze.ok; decide, live_windowOk, live_steps⟩

theorem witness_AdmissionListsStayLawful :
    live.params.Ok ∧ live.AdmissionOk ∧ ∃ t, step live = .next t :=
  ⟨live_paramsOk, live_admissionOk, live_steps⟩

theorem witness_RecordsKeepTheirShape : live.RecordsOk ∧ ∃ t, step live = .next t :=
  ⟨live_recordsOk, live_steps⟩

theorem witness_LoadsCountTheRecords : live.RecordsOk ∧ live.LoadsOk ∧ ∃ t, step live = .next t :=
  ⟨live_recordsOk, live_loadsOk, live_steps⟩

theorem witness_CandidateListsStayLawful : live.CandidatesOk ∧ ∃ t, step live = .next t :=
  ⟨live_candidatesOk, live_steps⟩

/-! ### Witnesses: control lanes and commands of the part as a whole -/

/-- A control lane whose queue holds n responses. -/
def queued (n : Nat) : ControlLane := ⟨List.replicate n ⟨0x01, 0, []⟩, true, false, 0⟩

/-- The live state with 15 responses on each control lane: room for one more. -/
def room : State := { live with primary := queued 15, secondary := queued 15 }

/-- The live state with full Response Queues. -/
def full : State := { live with primary := queued 16, secondary := queued 16 }

theorem room_open : (∀ l, (room.lane l).queue.length < 16) ∧ lead.lane = .primary ∧ second.lane = .secondary := by
  refine ⟨fun l => ?_, rfl, rfl⟩
  cases l <;> decide

theorem witness_FullQueueShedsUntilCleared :
    (Instr.echo lead []).origin = some lead ∧ 16 ≤ (full.lane lead.lane).queue.length ∧
      (room.lane second.lane).queue.length < 16 ∧ [(0 : Byte)] ≠ [] := by
  decide

theorem witness_SecondaryLaneIsRefused :
    (Instr.release second []).origin = some second ∧ second.lane = .secondary ∧
      (room.lane second.lane).queue.length < 16 ∧
      (Instr.release second []).deniedSecondary room.params.authority = true ∧
      (Instr.counterExchangeAdd second [0, 0, 0, 0, 0, 1]).deniedSecondary .full = true := by
  decide

theorem witness_PacketReachesItsCommand :
    (Instr.echo lead (List.replicate 58 7)).origin = some lead ∧ lead.corrected = false ∧
      (Instr.echo lead (List.replicate 58 7)).code = some 0x01 ∧
      (Instr.echo lead (List.replicate 58 7)).packetPayload = some (List.replicate 58 7) ∧
      (List.replicate 58 (7 : Byte)).length ≤ 58 := by
  decide

/- The Echo header of 8.8 with one bit wrong, and an Identify packet amid a block. -/
theorem witness_PacketReachesItsCommand_amid :
    (Instr.echo ⟨.primary, 5, true⟩ [7, 7]).origin = some ⟨.primary, 5, true⟩ ∧
      checkHeader 0x01 0x01 0x02 0x36 = .use 0x01 5 (byteOf [(7 : Byte), 7].length) true ∧
      (Instr.identify lead []).code = some 0x02 ∧
      checkHeader 0x02 0x05 0 (checkByte 0x02 0x05 0) = .use 0x02 lead.tag 0 lead.corrected := by
  decide +kernel

/-- A CRC laid out behind a payload is read there. -/
theorem crc_behind (p : List Byte) (c : BitVec 16) :
    ((p ++ halfBytes c).drop p.length).take 2 = halfBytes c ∧ p.length + 2 ≤ (p ++ halfBytes c).length := by
  simp [halfBytes]

theorem witness_ParseErrorsAreReported :
    [(0 : Byte)].length ≤ 1 ∧ [(0 : Byte), 0].length < 3 ∧ checkHeader 0x05 0x04 0x02 0x36 = .broken ∧
      checkHeader 0x01 0x05 0x02 0x36 = .use 0x01 0x05 2 false ∧
      [(0 : Byte), 0, 0].length < 2 + 2 ∧ 2 + 2 ≤ [(0 : Byte), 0, 0, 0].length ∧
      checkHeader 0x0A 0 0 (checkByte 0x0A 0 0) = .use 0x0A 0 0 false ∧
      checkHeader 0x10 0 3 (checkByte 0x10 0 3) = .use 0x10 0 3 false ∧
      (∀ port action cls : Byte, [(0 : Byte), 5, 0] = [port, action, cls] → 4 < action.toNat) ∧
      checkHeader 0x41 0 0 (checkByte 0x41 0 0) = .use 0x41 0 0 false ∧
      ∀ action hi lo : Byte, [] = [action, hi, lo] → 1 < action.toNat :=
  ⟨by decide, by decide, by decide +kernel, by decide +kernel, by decide, by decide, by decide +kernel,
    by decide +kernel, by intro _ _ _ h; cases h; decide, by decide +kernel, by intro _ _ _ h; cases h⟩

theorem witness_ParseErrorsAreReported_crc :
    ¬([(0 : Byte), 0, 0, 0].drop 2).take 2 = halfBytes (crc16 ([0x01, 0x05, 0x02, 0x36] ++ [0, 0])) := by
  simp [crc16, crcByte, crcBit, halfBytes]

theorem witness_HeaderCheckMendsOneBitAndFindsTwo :
    (∃ i, i = 29 ∧ i < 30) ∧ ∃ i j, i = 28 ∧ j = 29 ∧ i < j ∧ j < 30 :=
  ⟨⟨29, by decide⟩, 28, 29, by decide⟩

theorem witness_ControlBlockCarriesTheResponses :
    1 ≤ room.partition.control ∧ 2 ≤ ({ room with partition := ⟨8, 54, 2⟩ } : State).partition.control ∧
      ((sendLane 63 room).2.primary.queue.length = 0 ∧ (sendLane 63 room).2.primary.hold = false) ∧
      (sendLane 63 full).2.primary.queue.length = 1 ∧ (sendLane 63 full).2.primary.hold = true := by
  decide +kernel

theorem witness_EchoAndIdentifyAnswer :
    (room.lane second.lane).queue.length < 16 ∧ (List.replicate 54 (0 : Byte)).length ≤ 54 ∧
      54 < (List.replicate 55 (0 : Byte)).length ∧ [(0 : Byte)] ≠ [] := by
  decide

theorem witness_StatusAndParametersAreRead :
    (room.lane lead.lane).queue.length < 16 ∧
      (let p := (1 : Byte) :: List.replicate 17 22
       p ≠ [] ∧ p.length ≤ 18 ∧ ∀ b ∈ p, 1 ≤ b.toNat ∧ b.toNat ≤ 22) ∧
      18 < (List.replicate 19 (1 : Byte)).length ∧ (∃ b ∈ [(0 : Byte)], b.toNat = 0 ∨ 22 < b.toNat) ∧
      ∃ b ∈ [(23 : Byte)], b.toNat = 0 ∨ 22 < b.toNat := by
  decide

theorem witness_CounterExchangeAddStoresTheSum :
    (room.lane lead.lane).queue.length < 16 ∧ (190 : Byte).toNat = 8 * (23 : PortId).val + (6 : Fin 7).val ∧
      lead.lane = .primary ∧ (255 : Byte).toNat = 4 * (63 : LaneId).val + (3 : Fin 4).val ∧
      [(0 : Byte), 0, 0, 0] = [0, 0, 0, 0] ∧ [(2 : Byte), 113, 0, 0, 0].length ≠ 6 ∧
      ∀ (p : PortId) (k : Fin 7), (7 : Byte).toNat ≠ 8 * p.val + k.val := by
  decide

/-- A Configure of 18 pairs, the most there can be. -/
def pairs18 : List (Byte × Half) := (22, 0xFFFF) :: List.replicate 17 (1, 0)

theorem witness_ConfigureStoresValuesInRange :
    lead.lane = .primary ∧ (room.lane lead.lane).queue.length < 16 ∧ pairs18 ≠ [] ∧ pairs18.length ≤ 18 ∧
      (∀ x ∈ pairs18, (1 ≤ x.1.toNat ∧ x.1.toNat ≤ 22) ∧ (x.1 = 22 → x.2 = 0xFFFF)) ∧
      (∃ x ∈ [((23 : Byte), (0 : Half))], ¬(1 ≤ x.1.toNat ∧ x.1.toNat ≤ 22)) ∧
      (List.replicate 55 (1 : Byte)).length % 3 ≠ 0 ∧ 54 < (List.replicate 57 (1 : Byte)).length := by
  refine ⟨rfl, by decide, by decide, by decide, ?_, ⟨_, List.mem_singleton.mpr rfl, by decide⟩, by decide, by decide⟩
  intro x hx
  have : x = (22, 0xFFFF) ∨ x = (1, 0) := by simpa [pairs18] using hx
  rcases this with rfl | rfl <;> simp

/-- A partition with an All-Call lane, at which no lane is bound. -/
def unbound : State :=
  { State.reset with partition := ⟨8, 54, 2⟩, cursor := 8, params := { Params.default with allCall := some 7 } }

theorem witness_SetPartitionReplacesThePartition :
    lead.lane = .primary ∧ (unbound.lane lead.lane).queue.length < 16 ∧
      ((8 : Byte).toNat + (54 : Byte).toNat + (2 : Byte).toNat = 64 ∧ ((2 : Byte) = 1 ∨ (2 : Byte) = 2)) ∧
      (∀ n, unbound.binding n = none) ∧ stage.binding 30 = some 0 ∧
      ¬((8 : Byte).toNat + (54 : Byte).toNat + (1 : Byte).toNat = 64) ∧ [(8 : Byte), 54].length ≠ 3 := by
  decide +kernel

theorem witness_RestartClearsTheWorkingState :
    lead.lane = .primary ∧ (room.lane lead.lane).queue.length < 16 ∧ [(0 : Byte)] ≠ [] := by
  decide

theorem witness_EventsAreQueuedByClassAndFetched :
    lead.lane = .primary ∧ (room.lane lead.lane).queue.length < 16 ∧ [(5 : Byte), 0].length ≠ 1 := by
  decide

/- A posting with Info Events off, one with room, and one at a full queue of Warnings and a newest Notice. -/
theorem witness_EventsAreQueuedByClassAndFetched_posting :
    let event := fun (c : EventClass) (n : Byte) => (⟨c, .powerOn, 0, none, none, none, n⟩ : Event)
    let q := List.replicate 30 (event .warning 0) ++ [event .notice 1, event .notice 2]
    eventsOk live.events ∧ live.params.infoEvents = false ∧ live.events.length < 32 ∧ eventsOk q ∧ q.length = 32 ∧
      q = q.take 31 ++ event .notice 2 :: [] ∧ (∀ y ∈ q, 1 ≤ y.cls.rank) ∧ EventClass.rank .notice = 1 ∧
      EventClass.rank .warning = 2 := by
  refine ⟨live_eventsOk, by decide, by decide, ?_, by decide, by decide, by decide, by decide, by decide⟩
  constructor <;> decide

theorem witness_TranslateTablesAreLoadedAndRead :
    lead.lane = .primary ∧ (room.lane lead.lane).queue.length < 16 ∧ 1 ≤ (List.replicate 1 (0 : Byte)).length ∧
      (List.replicate 56 (0 : Byte)).length ≤ 56 ∧ [(0 : Byte), 0].length < 3 ∧
      58 < (List.replicate 59 (0 : Byte)).length ∧ 3 < (4 : Byte).toNat ∧ [(0 : Byte), 0].length ≠ 3 := by
  decide

theorem witness_WindowIsSetAndWritten :
    lead.lane = .primary ∧ (room.lane lead.lane).queue.length < 16 ∧ room.window.ok ∧
      1 ≤ (List.replicate 1 (0 : Byte)).length ∧ (List.replicate 58 (0 : Byte)).length ≤ 58 ∧
      58 < (List.replicate 59 (0 : Byte)).length ∧ ((23 : Fin 24) ≤ 23 ∧ (0 : Fin 24) ≤ 23) ∧ 2 < (3 : Byte).toNat ∧
      (2 : Byte).toNat ≤ 2 ∧ 23 < (24 : Byte).toNat ∧ (4 : Byte).toNat < (5 : Byte).toNat ∧
      [(0 : Byte)].length ≠ 5 :=
  ⟨rfl, by decide, live_windowOk, by decide⟩

theorem witness_ReadWindowReturnsTheCells :
    lead.lane = .primary ∧ (room.lane lead.lane).queue.length < 16 ∧ room.window.ok ∧ [(0 : Byte), 0].length ≠ 1 :=
  ⟨rfl, by decide, live_windowOk, by decide⟩

/-! ### Witnesses: order queues -/

/-- A full order queue: sixteen orders, the ninth of them the one given. -/
def orders16 (o : Order) : List Order :=
  List.replicate 8 ⟨.drop, 0x500005⟩ ++ o :: List.replicate 7 ⟨.drop, 0x500005⟩

/-- A state with another order queue at port 3. -/
def ordersAt3 (q : List Order) (s : State) : State := s.setPort 3 { s.port 3 with orders := q }

theorem witness_OrderRequestsFindTheirPlace :
    (⟨.acquire, marshal⟩ : Order) ∈ orders16 ⟨.acquire, marshal⟩ ∧ (⟨.drop, marshal⟩ : Order) ∈ orders16 ⟨.drop, marshal⟩ ∧
      (⟨.deny, marshal⟩ : Order) ∈ orders16 ⟨.deny, marshal⟩ ∧ (List.replicate 15 (⟨.drop, 1⟩ : Order)).length < 16 ∧
      (∀ k, (⟨k, marshal⟩ : Order) ∉ List.replicate 15 (⟨.drop, 1⟩ : Order)) ∧
      16 ≤ (orders16 ⟨.deny, marshal⟩).length ∧
      (∀ y ∈ List.replicate 8 (⟨.drop, 0x500005⟩ : Order), y.id ≠ marshal) ∧
      (∀ y ∈ orders16 ⟨.drop, 0x500005⟩, y.id ≠ marshal) ∧ (live.port 9).state = .off ∧
      (live.port 8).state = .isolated ∧ (live.port 7).state = .dormant ∧ (live.port 3).state = .active ∧
      (takeOrder (live.port 7).orders .deny marshal).1 ≠ .discarded ∧
      (takeOrder (orders16 ⟨.drop, 0x500005⟩) .deny marshal).1 = .discarded := by
  refine ⟨by decide, by decide, by decide, by decide, ?_, by decide, by decide, by decide, by decide +kernel⟩
  intro k
  cases k <;> decide

/-! ### Witnesses: Port Control, the roaming table, admission -/

theorem room_recordsOk : room.RecordsOk := by
  obtain ⟨a, b, c, d⟩ := live_recordsOk
  exact ⟨a, b, c, d⟩

theorem room_loadsOk : room.LoadsOk := by
  obtain ⟨a, b, c⟩ := live_loadsOk
  exact ⟨a, b, c⟩

theorem room_countersOk : room.CountersOk := live_countersOk

theorem room_laneMapOk : room.LaneMapOk := by
  obtain ⟨a, b, c, d, e, f, g⟩ := live_laneMapOk
  exact ⟨a, b, c, d, e, f, g⟩

theorem witness_PortControlChangesOnePort :
    lead.lane = .primary ∧ (room.lane lead.lane).queue.length < 16 ∧ (room.port 23).state ≠ .active ∧
      (room.port 7).state ≠ .active ∧ (room.port 8).state ≠ .active ∧ 23 < (24 : Byte).toNat ∧ 3 < (4 : Byte).toNat := by
  decide +kernel

theorem witness_PortLeavingServiceMovesItsRecords :
    lead.lane = .primary ∧ (room.lane lead.lane).queue.length < 16 ∧ room.RecordsOk ∧ room.LoadsOk ∧ room.CountersOk ∧
      (room.port 2).state = .active ∧ (room.port 7).state = .dormant ∧ (room.port 8).state = .isolated ∧
      (room.port 23).state = .off :=
  ⟨rfl, by decide, room_recordsOk, room_loadsOk, room_countersOk, by decide +kernel⟩

theorem witness_SelectorsNameRecordsAndReadReportsThem :
    lead.lane = .primary ∧ (room.lane lead.lane).queue.length < 16 ∧ 1 < (2 : Byte).toNat ∧
      191 < (id24 0 0 192).toNat ∧ canonical (id24 0x43 0xA7 0x1C) = false ∧ canonical (id24 0x40 0x00 0x04) = true ∧
      (∀ r, (room.record r).id = some (id24 0x40 0x00 0x04) → (room.record r).state = .free) ∧
      [(0 : Byte), 0, 0].length ≠ 4 ∧ [(0 : Byte), 0, 0, 0].length ≠ 5 ∧
      ([0, 0, 0, byteOf 191] : List Byte) = [0, 0, 0, byteOf (191 : RecordIx).val] ∧ canonical marshal = true ∧
      (room.record 0).id = some marshal ∧ (room.record 0).state ≠ .free ∧
      ∀ r, (room.record r).id = some marshal → r = 0 := by
  decide +kernel

theorem witness_ReleaseFreesTheRecord :
    lead.lane = .primary ∧ (room.lane lead.lane).queue.length < 16 ∧ room.RecordsOk ∧ (room.record 191).state = .free ∧
      (room.record 1).id = some 0x100001 ∧ (room.record 1).lane = some 31 :=
  ⟨rfl, by decide, room_recordsOk, by decide +kernel⟩

/-- The room with all the slots of port 3 taken. -/
def crowded : State := room.setLoad 3 12

theorem witness_ForceHandoffBeginsABridge :
    lead.lane = .primary ∧ (room.lane lead.lane).queue.length < 16 ∧ room.RecordsOk ∧ crowded.RecordsOk ∧
      (room.record 1).id = some 0x100001 ∧ (room.record 1).state ≠ .active ∧ (room.record 0).id = some marshal ∧
      (room.record 0).state = .active ∧ 23 < (24 : Byte).toNat ∧ (room.port 7).state ≠ .active ∧
      ((room.port 3).state = .active ∧ (room.port 3).flags.rfOverload = false ∧
        (room.port 3).flags.referenceLost = false) ∧ 12 ≤ crowded.load 3 ∧ room.load 3 < 12 ∧
      (room.record 0).serving = some 2 ∧ (room.record 0).serving ≠ some 3 ∧ (room.port 3).orders.length < 16 ∧
      ∀ k, (⟨k, marshal⟩ : Order) ∉ (room.port 3).orders := by
  refine ⟨rfl, by decide, room_recordsOk, ?_, by decide +kernel, by decide +kernel, by decide +kernel,
    by decide +kernel, by decide, by decide +kernel, by decide +kernel, by decide +kernel, by decide +kernel,
    by decide +kernel, by decide +kernel, by decide +kernel, ?_⟩
  · obtain ⟨a, b, c, d⟩ := room_recordsOk
    exact ⟨a, b, c, d⟩
  · have h : (room.port 3).orders = [] := by decide +kernel
    intro k
    simp [h]

/- The last two clauses: a full order queue without an order for the headset, and a full list without the antenna. -/
theorem witness_ForceHandoffBeginsABridge_full :
    (room.record 191).state = .free ∧
      (takeOrder (room.port 3).orders .acquire marshal).1 ≠ .refused ∧
      (takeOrder (orders16 ⟨.drop, 0x500005⟩) .acquire marshal).1 = .refused ∧
      (let cands : List Candidate := [⟨2, 900, 0, 0⟩, ⟨11, 520, 0, 0⟩, ⟨14, 520, 0, 0⟩, ⟨6, 530, 0, 0⟩]
       let rd : Record := { carried with cands := cands }
       rd.serving = some 2 ∧ 4 ≤ rd.cands.length ∧ (rd.cands.map (·.antenna)).Nodup ∧
        (∀ c ∈ rd.cands, c.antenna ≠ (3 : PortId)) ∧
        rd.cands = cands.take 2 ++ ⟨14, 520, 0, 0⟩ :: cands.drop 3 ∧ rd.serving ≠ some 14 ∧
        (∀ c ∈ cands.take 2, rd.serving = some c.antenna ∨ 520 ≤ c.q) ∧
        ∀ c ∈ cands.drop 3, rd.serving = some c.antenna ∨ 520 < c.q) := by
  decide +kernel

theorem witness_FreezeOrRequest :
    (room.lane second.lane).queue.length < 16 ∧ lead.lane = .primary ∧ second.lane = .secondary ∧
      room.params.authority = .noAuthority := by
  decide

theorem witness_FetchRegistrationsReadsFour :
    lead.lane = .primary ∧ (room.lane lead.lane).queue.length < 16 ∧ (15 : Byte).toNat ≤ 15 ∧ 15 < (16 : Byte).toNat ∧
      [(0 : Byte), 0].length ≠ 1 := by
  decide

/-- The room with a fixed region of 31 lanes, so that lane 30 is a bound fixed lane. -/
def fixedRoom : State := { room with partition := ⟨31, 32, 1⟩, cursor := 31 }

/-- No pool at all, and no lane bound. -/
def poolless : State :=
  { State.reset with partition := ⟨63, 0, 1⟩, cursor := 63 }

/-- Every record in use. -/
def packed : State := { poolless with records := Vector.replicate 192 searching }

theorem fixedRoom_laneMapOk : fixedRoom.LaneMapOk where
  total := rfl
  control := .inl rfl
  voice := by
    intro n r h
    have : n.val < 63 := room_laneMapOk.voice n r h
    exact this
  spared := room_laneMapOk.spared
  allCall := by intro n h; cases h
  cursorLow := by decide
  cursorHigh := .inl (by decide)

theorem poolless_laneMapOk : poolless.LaneMapOk where
  total := rfl
  control := .inl rfl
  voice := by decide +kernel
  spared := by intro n r _ h; cases h
  allCall := by intro n h; cases h
  cursorLow := by decide
  cursorHigh := .inr ⟨rfl, rfl⟩

theorem witness_AdmitChecksInOrder :
    lead.lane = .primary ∧ (fixedRoom.lane lead.lane).queue.length < 16 ∧ fixedRoom.LaneMapOk ∧
      canonical (id24 0x43 0xA7 0x1C) = false ∧
      (canonical marshal = true ∧ (fixedRoom.record 0).state ≠ .free ∧ (fixedRoom.record 0).id = some marshal) ∧
      (canonical 0x400004 = true ∧ (∀ r, (fixedRoom.record r).id ≠ some 0x400004) ∧
        (fixedRoom.record 191).state = .free) ∧
      (31 : Byte).toNat = fixedRoom.partition.fixed ∧
      ((30 : LaneId).val = (30 : Byte).toNat ∧ (30 : LaneId).val < fixedRoom.partition.fixed ∧
        fixedRoom.params.allCall ≠ some 30 ∧ fixedRoom.binding 30 ≠ none) ∧ [(0 : Byte), 0, 0].length ≠ 4 :=
  ⟨rfl, by decide, fixedRoom_laneMapOk, by decide +kernel⟩

theorem witness_AdmitChecksInOrder_noRoom_noLane :
    poolless.LaneMapOk ∧ packed.LaneMapOk ∧ (packed.lane lead.lane).queue.length < 16 ∧
      (∀ r, (packed.record r).state ≠ .free) ∧ (∀ r, (packed.record r).id ≠ some 0x400004) ∧
      ∀ n : LaneId, poolless.partition.fixed ≤ n.val → n.val < poolless.partition.fixed + poolless.partition.pool →
        poolless.binding n ≠ none := by
  refine ⟨poolless_laneMapOk, ?_, by decide, by decide +kernel, by decide +kernel, by decide +kernel⟩
  obtain ⟨a, b, c, d, e, f, g⟩ := poolless_laneMapOk
  exact ⟨a, b, c, d, e, f, g⟩

/-- A registration of headset 0x400004 heard best at antenna a. -/
def heardAt (a : PortId) (level : Level) : Registration := ⟨0x400004, a, level, 0, 0⟩

/-- The room with one registration, at antenna a. -/
def registered (a : PortId) (level : Level) : State := { room with registrations := [heardAt a level] }

theorem registered_laneMapOk (a : PortId) (l : Level) : (registered a l).LaneMapOk := by
  obtain ⟨a, b, c, d, e, f, g⟩ := room_laneMapOk
  exact ⟨a, b, c, d, e, f, g⟩

theorem registered_admissionOk (a : PortId) (l : Level) : (registered a l).AdmissionOk where
  room := by simp [registered, Config.maxRegistrations]
  distinct := by simp [registered]
  unheld := by
    have h : room.findRecord 0x400004 = none := by decide +kernel
    intro e he
    have : e = heardAt a l := by simpa [registered] using he
    subst this
    exact h
  armed := by intro h; cases h
  denialRoom := Nat.zero_le _
  denialDistinct := List.nodup_nil
  counts := by intro d hd; cases hd

theorem admissible : canonical 0x400004 = true ∧
    (∀ q, (room.record q).state ≠ .free → (room.record q).id ≠ some 0x400004) ∧
    (room.record 4).state = .free ∧ ∀ q, q < 4 → (room.record q).state ≠ .free := by
  decide +kernel

theorem witness_AdmitMakesTheRecord_pool :
    lead.lane = .primary ∧ (room.lane lead.lane).queue.length < 16 ∧ (registered 3 41).LaneMapOk ∧
      (registered 3 41).AdmissionOk ∧ (registered 3 41).PoolChoice 0 ∧ room.PoolChoice 0 ∧
      (∀ e ∈ room.registrations, e.id ≠ 0x400004) ∧ heardAt 3 41 ∈ (registered 3 41).registrations ∧
      ((room.port 3).state = .active ∧ (room.port 3).flags.rfOverload = false ∧
        (room.port 3).flags.referenceLost = false ∧ room.load 3 < 12 ∧ room.params.reacquireLevel ≤ (41 : Level).val) ∧
      (room.port 3).orders.length < 16 ∧ room.params.reacquireLevel ≤ (30 : Level).val ∧
      ¬(room.params.reacquireLevel ≤ (29 : Level).val) ∧ (room.port 7).state ≠ .active := by
  refine ⟨rfl, by decide, registered_laneMapOk 3 41, registered_admissionOk 3 41, ?_, ?_, by simp [room, live,
    withRecord, stage, State.reset, State.powerOn, State.setRecord], by simp [registered], by decide +kernel⟩
  all_goals exact ⟨0, by decide, rfl, by decide +kernel, by intro j hj; omega⟩

theorem witness_AdmitMakesTheRecord_fixed :
    (0 : Byte) ≠ 0xFF ∧ (0 : LaneId).val = (0 : Byte).toNat ∧ (0 : LaneId).val < fixedRoom.partition.fixed ∧
      fixedRoom.params.allCall ≠ some 0 ∧ fixedRoom.binding 0 = none ∧ fixedRoom.LaneMapOk ∧
      (fixedRoom.lane lead.lane).queue.length < 16 :=
  ⟨by decide, rfl, by decide, by decide, by decide +kernel, fixedRoom_laneMapOk, by decide⟩

/- A full order queue at the seeded antenna, with and without an order of the headset. -/
theorem witness_AdmitMakesTheRecord_full :
    (takeOrder (orders16 ⟨.deny, 0x400004⟩) .acquire 0x400004).1 ≠ .refused ∧
      (takeOrder (orders16 ⟨.drop, 0x500005⟩) .acquire 0x400004).1 = .refused ∧
      ((ordersAt3 (orders16 ⟨.drop, 0x500005⟩) (registered 3 41)).port 3).state = .active ∧
      ((ordersAt3 (orders16 ⟨.drop, 0x500005⟩) (registered 3 41)).port 3).orders = orders16 ⟨.drop, 0x500005⟩ := by
  decide +kernel

theorem witness_DenyListsTheHeadset :
    lead.lane = .primary ∧ (room.lane lead.lane).queue.length < 16 ∧ (registered 3 41).AdmissionOk ∧
      (registered 9 41).AdmissionOk ∧ canonical (id24 0x43 0xA7 0x1C) = false ∧
      (canonical marshal = true ∧ (room.record 0).id = some marshal ∧ (room.record 0).state ≠ .free) ∧
      canonical 0x400004 = true ∧ heardAt 3 41 ∈ (registered 3 41).registrations ∧ (room.port 9).state = .off ∧
      (room.port 3).state = .active ∧ (room.port 3).orders = [] ∧ [(0 : Byte)].length ≠ 3 :=
  ⟨rfl, by decide, registered_admissionOk 3 41, registered_admissionOk 9 41, by decide +kernel⟩

/- The clauses of a port in service: waiting, with room, replaced, discarded. -/
theorem witness_DenyListsTheHeadset_orders :
    let denies : Order := ⟨.deny, 0x400004⟩
    denies ∈ orders16 denies ∧ denies ∉ (room.port 3).orders ∧ (room.port 3).orders.length < 16 ∧
      denies ∉ orders16 ⟨.acquire, 0x400004⟩ ∧ 16 ≤ (orders16 ⟨.acquire, 0x400004⟩).length ∧
      (∀ z ∈ List.replicate 8 (⟨.drop, 0x500005⟩ : Order), z.id ≠ 0x400004) ∧
      16 ≤ (orders16 ⟨.drop, 0x500005⟩).length ∧ ∀ y ∈ orders16 ⟨.drop, 0x500005⟩, y.id ≠ 0x400004 := by
  decide +kernel

/-! ### Witnesses: cycle starts, the voice path, the close, the ports -/

/-- The live state with another clock state. -/
def clocked (c : ClockState) : State := { live with timer := ⟨c, 0, 0, 0⟩ }

theorem witness_LocalCycleStartBeginsTheNextCycle :
    (clocked .follow).timer.clock = .follow ∧ (clocked .holdover).timer.clock ≠ .follow ∧
      (clocked .localClock).timer.clock ≠ .follow := by
  decide

theorem witness_HoldoverWatchEntersHoldover :
    (clocked .holdover).timer.clock ≠ .follow ∧ (clocked .follow).timer.clock = .follow ∧
      ({ clocked .follow with pendingClose := none } : State).pendingClose = none ∧
      (clocked .follow).freeze.active = false ∧ (clocked .follow).events.length < 32 := by
  decide

theorem witness_ArrivalIsACycleStartByTheClock :
    (List.replicate 4115 (0 : Byte)).length = 4115 ∧ (clocked .follow).timer.clock = .follow ∧
      ((clocked .holdover).timer.clock = .holdover ∧ 8 ≤ 8 ∧ 7 < 8) ∧
      half ((List.replicate 4115 (0 : Byte)).getD 0 0) ((List.replicate 4115 (0 : Byte)).getD 1 0) ≠
        (clocked .follow).timer.cycle + 1 ∧
      (clocked .localClock).timer.clock = .localClock ∧ (∀ b ∈ (List.replicate 4115 (0 : Byte)).drop 3, b = 0) ∧
      (clocked .localClock).parsedControl = (clocked .localClock).partition.control :=
  ⟨List.length_replicate, by decide, by decide, by decide +kernel, by decide,
    fun b hb => List.eq_of_mem_replicate (List.mem_of_mem_drop hb), by decide⟩

theorem witness_ArrivalIsACycleStartByTheClock_filler :
    let idle : State := { clocked .holdover with pendingClose := none, timer := ⟨.holdover, 65535, 0, 0⟩ }
    idle.pendingClose = none ∧ idle.freeze.active = false ∧ idle.events.length < 31 ∧
      half ((List.replicate 4115 (0 : Byte)).getD 0 0) ((List.replicate 4115 (0 : Byte)).getD 1 0) =
        idle.timer.cycle + 1 ∧ idle.parsedControl = idle.partition.control := by
  decide +kernel

/- The clock states, and a frame that finds the secondary lane retired. -/
theorem witness_ArrivalDistributesThenParses :
    (List.replicate 4115 (0 : Byte)).length = 4115 ∧ (clocked .follow).timer.clock = .follow ∧
      (clocked .holdover).timer.clock = .holdover ∧ (clocked .localClock).timer.clock = .localClock ∧
      live.partition.control = 1 ∧ ({ live with parsedControl := 2 } : State).parsedControl = 2 ∧
      unbound.partition.control = 2 :=
  ⟨List.length_replicate, by decide⟩

/-- The live state with a request for lane 30, whose hold is as given. -/
def requested (h : Hold) : State :=
  { live with holdRequests := [⟨30, 0, marshal, zeroBlock⟩], holds := vset live.holds 30 h }

theorem witness_UpstreamFrameCarriesEveryLane :
    live.partition.control = 1 ∧ unbound.partition.control = 2 ∧ live.holdRequests = [] ∧
      (requested ⟨zeroBlock, true, 0⟩).holdRequests ≠ [] ∧
      (∃ w, exec .holdWrite (requested ⟨zeroBlock, true, 0⟩) = .next w) ∧
      (∀ s : State, ∃ w, exec .cycleClose s = .next w) ∧ (clocked .holdover).timer.clock ≠ .follow ∧
      (clocked .follow).timer.clock = .follow :=
  ⟨by decide, by decide, by decide, by decide, ⟨_, rfl⟩, fun _ => ⟨_, rfl⟩, by decide, by decide⟩

theorem witness_HoldsAreWrittenAndSent :
    (requested ⟨zeroBlock, true, 0⟩).holdRequests = ⟨30, 0, marshal, zeroBlock⟩ :: [] ∧ live.holdRequests = [] ∧
      live.binding 30 = some 0 ∧ (live.record 0).id = some marshal ∧ live.binding 31 ≠ some 0 ∧
      (30 : LaneId).val < 64 - live.partition.control ∧ (62 : LaneId).val < 64 - live.partition.control ∧
      live.binding 62 = none ∧ live.params.allCall ≠ some 30 ∧
      ((requested ⟨zeroBlock, true, 0⟩).holdOf 30).fresh = true ∧
      (((requested ⟨zeroBlock, false, 2⟩).holdOf 30).fresh = false ∧
        ((requested ⟨zeroBlock, false, 2⟩).holdOf 30).conceal < live.params.concealLimit) ∧
      live.params.concealLimit ≤ ((requested ⟨zeroBlock, false, 3⟩).holdOf 30).conceal := by
  decide +kernel

/- Stage 4 on copies of one level: of the serving antenna 2 the earliest, before and behind one of the target 3. -/
theorem witness_HoldsAreWrittenAndSent_voice :
    let named : Record := bridging
    let at40 := fun p : PortId => (⟨p, ⟨0x100001, 40, false, .voice zeroBlock⟩⟩ : Evidence)
    ((live.record 1).state = .bridging ∧ (live.record 1).lane = some 31 ∧ (live.record 2).state = .attaching) ∧
      (at40 2).burst.damaged = false ∧ named.serving = some (at40 2).port ∧
      (∀ y ∈ [at40 3], y.burst.level = (at40 2).burst.level ∧ y.port ≠ (at40 2).port ∧
        named.serving = some (at40 2).port) ∧
      ∀ y ∈ [at40 2, at40 3], y.burst.level = (at40 2).burst.level ∧
        (y.port = (at40 2).port ∨ named.serving ≠ some y.port) := by
  decide +kernel

/-- A matrix frame with every lane Voice and blocks of zeros. -/
def voiced : List Byte := [0, 0, 0] ++ List.replicate 16 0x55 ++ List.replicate 4096 0

theorem witness_VoiceIsPlacedWhereTheRecordIsCarried :
    (30 : LaneId).val < 64 - live.partition.control ∧ live.RecordsOk ∧ live.CountersOk ∧
      (voiced.drop (19 + 64 * (30 : LaneId).val)).take 64 = zeroBlock.toList ∧
      (voiced.getD (3 + (30 : LaneId).val / 4) 0).toNat / 4 ^ ((30 : LaneId).val % 4) % 4 = 1 ∧
      live.params.allCall ≠ some 30 ∧ live.binding 30 = some 0 ∧ (live.record 0).id = some marshal ∧
      live.binding 62 = none ∧ ({ Params.default with allCall := some 30 } : Params).allCall = some 30 :=
  ⟨by decide, live_recordsOk, live_countersOk, by decide +kernel⟩

theorem witness_MeasurementUpdatesTheList :
    (⟨3, 2032, 255, 0⟩ : Candidate).q ≤ 2032 ∧
      ∀ a x, (fun _ : PortId => some 127) a = some x → x ≤ 127 := by
  refine ⟨by decide, ?_⟩
  intro a x h
  cases h
  decide

/- A full list whose third and fourth entries are equal: a sample of 33 evicts the fourth, one of 32 does not. -/
theorem witness_MeasurementUpdatesTheList_full :
    let l : List Candidate := [⟨3, 900, 0, 0⟩, ⟨11, 700, 0, 0⟩, ⟨14, 512, 0, 0⟩, ⟨6, 512, 0, 40⟩]
    let pinned := fun a : PortId => decide (a = 3)
    4 ≤ l.length ∧ (l.map (·.antenna)).Nodup ∧ l = l.take 3 ++ ⟨6, 512, 0, 40⟩ :: [] ∧ pinned 6 = false ∧
      (∀ c ∈ l.take 3, pinned c.antenna = true ∨ 512 ≤ c.q) ∧ 512 < 16 * 33 ∧ ¬512 < 16 * 32 ∧
      (∀ c ∈ l, (fun _ : PortId => true) c.antenna = true) ∧ (l.take 3).length < 4 := by
  decide +kernel

/- Two bursts at antenna 3, the damaged one above, and none at antenna 4. -/
theorem witness_MeasurementUpdatesTheList_sample :
    let ev : List Evidence := [⟨3, ⟨marshal, 52, true, .monitor⟩⟩, ⟨3, ⟨marshal, 41, false, .monitor⟩⟩]
    let value := fun e : Evidence => if e.burst.damaged then e.burst.level.val - 12 else e.burst.level.val
    (∀ e ∈ ev, e.port ≠ (4 : PortId)) ∧ ∃ e ∈ ev, e.port = 3 ∧ ∀ y ∈ ev, y.port = 3 → value y ≤ value e := by
  decide +kernel

/-- The live state with record 0's qualities and dwell as given; antenna 3 stands first and is usable. -/
def deciding (q3 q2 dwell miss : Nat) : State :=
  live.setRecord 0 { carried with
    dwellTarget := some 3, dwellCount := dwell, miss := miss, cands := [⟨3, q3, 0, 0⟩, ⟨2, q2, 0, 0⟩] }

theorem witness_DecisionWaitsForMarginAndDwell :
    ((deciding 1229 1100 2 0).record 0).state = .active ∧ ((deciding 1229 1100 2 0).record 0).serving = some 2 ∧
      ((deciding 1229 1100 2 0).record 0).cands.find? (fun c => c.antenna = 2) = some ⟨2, 1100, 0, 0⟩ ∧
      ((deciding 1229 1100 2 0).record 0).cands = [] ++ ⟨3, 1229, 0, 0⟩ :: [⟨2, 1100, 0, 0⟩] ∧
      ((live.port 3).state = .active ∧ (live.port 3).flags.rfOverload = false ∧
        (live.port 3).flags.referenceLost = false ∧ live.load 3 < 12 ∧ (3 : PortId) ≠ 2 ∧
        (live.cell 2 3).relation = .normal) ∧
      16 * max 0 ((live.params.hysteresisMargin : Int) + (live.cell 2 3).offset.toInt) = 128 ∧
      ¬((1100 : Int) + 128 < 1228) ∧ (1100 : Int) + 128 < 1229 ∧ min live.params.dwell (2 + 1) ≠ live.params.dwell ∧
      min live.params.dwell (3 + 1) = live.params.dwell ∧ (live.port 3).orders = [] ∧ live.freeze.active = false ∧
      live.params.rescueThreshold ≤ ((deciding 1229 1100 2 6).record 0).miss ∧
      ¬(live.params.rescueThreshold ≤ ((deciding 1229 1100 2 5).record 0).miss) := by
  decide +kernel

/- A record without a usable entry, a freeze, a full order queue, and the search of record 3. -/
theorem witness_DecisionWaitsForMarginAndDwell_further :
    (∀ c ∈ [(⟨2, 1100, 0, 0⟩ : Candidate), ⟨3, 1180, 0, 1⟩], c.antenna = 2 ∨ c.bar ≠ 0) ∧
      ({ deciding 1229 1100 3 0 with freeze := ⟨true, 1, false⟩ } : State).freeze.active = true ∧
      (takeOrder (orders16 ⟨.drop, 0x500005⟩) .acquire marshal).1 = .refused ∧
      (let s := live.setRecord 3 { searching with cands := [⟨2, 479, 0, 0⟩, ⟨3, 480, 0, 0⟩] }
       (s.record 3).state = .searching ∧ ¬16 * s.params.reacquireLevel ≤ 479 ∧ 16 * s.params.reacquireLevel ≤ 480 ∧
        (s.port 3).state = .active ∧ (s.port 3).flags.rfOverload = false ∧ (s.port 3).flags.referenceLost = false ∧
        s.load 3 < 12 ∧ (takeOrder (s.port 3).orders .acquire 0x300003).1 ≠ .refused) ∧
      (live.record 3).cands = [] ∧ (live.record 1).state ≠ .active ∧ (live.record 1).state ≠ .searching := by
  decide +kernel

theorem witness_ResultsAndVoiceEndTheAttempt :
    live.RecordsOk ∧ (live.record 0).id = some marshal ∧ (live.record 0).target ≠ some 3 ∧
      (∀ q, (live.record q).id ≠ some 0x400004) ∧ (live.record 1).id = some 0x100001 ∧
      (live.record 1).target = some 3 ∧ (live.record 1).state = .bridging ∧ (live.record 1).serving = some 2 ∧
      (live.record 1).kind = some .automatic ∧ (live.record 2).id = some 0x200002 ∧
      (live.record 2).target = some 3 ∧ (live.record 2).state = .attaching :=
  ⟨live_recordsOk, by decide +kernel⟩

theorem witness_CloseConsumesTheFrames :
    live.pendingClose = some ⟨65535, 10⟩ ∧ ({ live with pendingClose := none } : State).pendingClose = none := by
  decide

theorem witness_CloseTreatsEachRecordInSixStages :
    live.pendingClose = some ⟨65535, 10⟩ ∧ (live.record 0).state ≠ .free ∧ (live.record 191).state = .free := by
  decide +kernel

theorem witness_LinkLossAbandonsTheAntennas :
    (withRecord { carried with miss := 49 }).RecordsOk ∧ min (49 + 1) 255 = live.params.missLimit ∧
      ((withRecord { carried with miss := 49 }).record 0).state = .active ∧
      ((withRecord { carried with miss := 49 }).record 0).miss = 49 ∧
      ¬(live.params.missLimit ≤ min (((withRecord { carried with miss := 48 }).record 0).miss + 1) 255) :=
  ⟨withRecord_ok _ (by simp [Record.shapeOk, carried, Record.free]) rfl rfl, by decide +kernel⟩

theorem witness_LinkLossAbandonsTheAntennas_heard :
    0 < live.params.missLimit ∧ (live.record 1).state = .bridging ∧ (live.record 1).target = some 3 ∧
      (live.record 0).state = .active ∧ (live.record 0).serving = some 2 ∧ (live.record 2).state = .attaching := by
  decide +kernel

theorem witness_TimeoutsEndTheAttempt_bridge :
    let rd := { bridging with id := some marshal, lane := some 30, timer := 24 }
    (withRecord rd).RecordsOk ∧ ((withRecord rd).record 0).state = .bridging ∧
      (withRecord rd).params.bridgeLimit = ((withRecord rd).record 0).timer + 1 ∧
      ((withRecord rd).record 0).target = some 3 :=
  ⟨withRecord_ok _ (by simp [Record.shapeOk, bridging, Record.free]) rfl rfl, by decide +kernel⟩

theorem witness_TimeoutsEndTheAttempt_attach :
    let rd := { attaching with id := some marshal, lane := some 30, timer := 49 }
    (withRecord rd).RecordsOk ∧ ((withRecord rd).record 0).state = .attaching ∧
      (withRecord rd).params.attachLimit = ((withRecord rd).record 0).timer + 1 ∧
      ((withRecord rd).record 0).target = some 3 ∧ live.RecordsOk ∧ (live.record 2).timer + 1 < live.params.attachLimit ∧
      (live.record 1).timer + 1 < live.params.bridgeLimit :=
  ⟨withRecord_ok _ (by simp [Record.shapeOk, attaching, Record.free]) rfl rfl, by decide +kernel, by decide +kernel,
    by decide +kernel, live_recordsOk, by decide +kernel⟩

theorem witness_LostHoldFreesTheRecord :
    let rd := { searching with id := some marshal, lane := some 30, orphan := 2499 }
    (withRecord rd).RecordsOk ∧ ((withRecord rd).record 0).state = .searching ∧
      (withRecord rd).params.lostHold = ((withRecord rd).record 0).orphan + 1 ∧
      ((withRecord rd).record 0).lane = some 30 ∧ (live.record 3).orphan + 1 < live.params.lostHold :=
  ⟨withRecord_ok _ (by simp [Record.shapeOk, searching, Record.free]) rfl rfl, by decide +kernel⟩

theorem witness_CountsReachTheirEnd :
    (({ live with freeze := ⟨true, 1, false⟩ } : State).freeze.active = true ∧
        ({ live with freeze := ⟨true, 1, false⟩ } : State).freeze.remaining = 1) ∧
      1 < ({ live with freeze := ⟨true, 2, false⟩ } : State).freeze.remaining ∧ live.freeze.active = false ∧
      (registered 3 41).AdmissionOk :=
  ⟨by decide, by decide, by decide, registered_admissionOk 3 41⟩

theorem witness_CountsReachTheirEnd_stage :
    let rd := { bridging with id := some marshal, lane := some 30, timer := 24 }
    live.RecordsOk ∧ (withRecord rd).RecordsOk ∧ (live.record 1).timer + 1 < live.params.bridgeLimit ∧
      (withRecord rd).params.bridgeLimit ≤ ((withRecord rd).record 0).timer + 1 :=
  ⟨live_recordsOk, withRecord_ok _ (by simp [Record.shapeOk, bridging, Record.free]) rfl rfl, by decide +kernel,
    by decide +kernel⟩

theorem witness_DownlinkSendEmptiesTheAssembly :
    live.sendDue.get 2 = true ∧ (live.port 2).state = .active ∧ live.sendDue.get 7 = true ∧
      (live.port 7).state = .dormant ∧ (live.port 8).state = .isolated ∧ (live.port 9).state = .off ∧
      ({ live with sendDue := Vector.replicate 24 false } : State).sendDue.get 2 = false := by
  decide +kernel

theorem witness_UplinkFrameIsReadAsLaidOut :
    (⟨0, .clear, List.replicate 16 (.burst marshal 0xFF true .monitor)⟩ : Uplink).records.length ≤ 16 := by
  decide

/- A record with an unnamed flag bit set, a wrong CRC, and each way a frame can end wrongly behind one Monitor record. -/
theorem witness_UplinkFrameIsReadAsLaidOut_errors :
    let monitor : List Byte := 0x02 :: (idBytes marshal ++ [144, 0xFE])
    (0xFE : Byte).getLsbD 0 = false ∧ monitor.length = 6 ∧ [(0 : Byte), 0].length = 2 ∧ 16 < (17 : Byte).toNat ∧
      [monitor].length < (2 : Byte).toNat ∧ [monitor].length = (1 : Byte).toNat ∧ [(0 : Byte)] ≠ [] ∧
      (0x05 : Byte) ∉ [(0x01 : Byte), 0x02, 0x03, 0x04] ∧ (idBytes marshal ++ [0x03]).length + 1 = 5 ∧
      (0x03 : Byte) ≠ 0x01 ∧ (0x03 : Byte) ≠ 0x02 := by
  decide +kernel

theorem witness_UplinkFrameIsReadAsLaidOut_crc : ([0, 0] : List Byte) ≠ halfBytes (crc16 [0, 0, 0, 0]) := by
  simp [crc16, crcByte, crcBit, halfBytes]

/-- An uplink frame with one Monitor record, stamped n. -/
def monitorFrame (n : CycleNo) : Uplink := ⟨n, .clear, [.burst marshal 144 false .monitor]⟩

set_option maxRecDepth 8000 in
theorem monitorFrame_parsed (n : CycleNo) (h : n = 0 ∨ n = 1 ∨ n = 2 ∨ n = 65527 ∨ n = 65528) :
    parseUplink (monitorFrame n).bytes = some (monitorFrame n) := by
  rcases h with rfl | rfl | rfl | rfl | rfl <;>
    simp [parseUplink, uplinkHeader, Uplink.bytes, monitorFrame, UplinkRecord.bytes, crc16, crcByte, crcBit, halfBytes,
      idBytes, marshal, parseRecords, parseRecord, half, id24, byteOf, bit, ConditionFlags.byte, ConditionFlags.clear,
      ConditionFlags.ofByte]

/-- The live state whose port 2 holds a frame in both slots. -/
def holding : State :=
  live.setPort 2 { live.port 2 with gatherSlot := some ⟨0, []⟩, earlySlot := some ⟨1, []⟩ }

theorem witness_UplinkFrameFindsItsSlot :
    live.CountersOk ∧ (live.port 9).state = .off ∧ (live.port 2).state = .active ∧ parseUplink [] = none ∧
      (∀ n : CycleNo, n = 0 ∨ n = 1 ∨ n = 2 ∨ n = 65527 ∨ n = 65528 →
        parseUplink (monitorFrame n).bytes = some (monitorFrame n)) ∧
      (live.port 2).gathering = 0 ∧ (live.port 8).state = .isolated ∧ (live.port 8).gathering = 0 ∧
      ((live.port 2).gatherSlot = none ∧ (live.port 2).settling = false) ∧ (holding.port 2).gatherSlot ≠ none ∧
      (holding.port 2).earlySlot ≠ none ∧
      (live.setPort 2 { live.port 2 with settling := true } |>.port 2).settling = true :=
  ⟨live_countersOk, by decide +kernel, by decide +kernel, by decide, monitorFrame_parsed, by decide +kernel⟩

/-- An uplink frame with an Acquire Result, stamped 0. -/
def resultFrame : Uplink := ⟨0, .clear, [.result marshal .accepted, .burst marshal 144 true .monitor]⟩

set_option maxRecDepth 8000 in
theorem witness_UplinkFrameFindsItsSlot_result :
    parseUplink resultFrame.bytes = some resultFrame ∧ (live.port 7).state = .dormant ∧ (live.port 7).gathering = 0 ∧
      (live.port 7).gatherSlot = none ∧ (live.port 7).settling = false := by
  refine ⟨?_, by decide +kernel⟩
  simp [parseUplink, uplinkHeader, Uplink.bytes, resultFrame, UplinkRecord.bytes, crc16, crcByte, crcBit, halfBytes,
    idBytes, marshal, parseRecords, parseRecord, half, id24, byteOf, bit, ConditionFlags.byte, ConditionFlags.clear,
    ConditionFlags.ofByte]

/- The ISOLATED port: a frame in step, one out of step, one cut short, one with a wrong CRC. -/
theorem witness_UplinkFrameFindsItsSlot_recovery :
    let inStep : List Byte := halfBytes 1 ++ [0, 0]
    let outOfStep : List Byte := halfBytes 2 ++ [0, 0]
    (∀ body : List Byte, (body ++ halfBytes (crc16 body)).drop ((body ++ halfBytes (crc16 body)).length - 2) =
      halfBytes (crc16 ((body ++ halfBytes (crc16 body)).take ((body ++ halfBytes (crc16 body)).length - 2)))) ∧
      inStep = 0 :: 1 :: [0, 0] ∧ (half 0 1 - (live.port 8).gathering).toNat ≤ 1 ∧ outOfStep = 0 :: 2 :: [0, 0] ∧
      1 < (half 0 2 - (live.port 8).gathering).toNat ∧ ([] : List Byte).length < 4 ∧
      ¬[(0 : Byte), 0] = halfBytes (crc16 [0, 0, 0, 0]) := by
  refine ⟨?_, by decide, by decide +kernel, by decide, by decide +kernel, by decide, ?_⟩
  · intro body
    simp [halfBytes]
  · simp [crc16, crcByte, crcBit, halfBytes]

/-- The live state with the isolation of ports 2, 7 and 9 due. -/
def isolating : State :=
  { live with isolationDue := vset (vset (vset live.isolationDue 2 true) 7 true) 9 true }

theorem witness_IsolationTakesThePortDown :
    isolating.RecordsOk ∧ isolating.LoadsOk ∧ isolating.isolationDue.get 2 = true ∧
      (isolating.port 2).state = .active ∧ isolating.isolationDue.get 7 = true ∧
      (isolating.port 7).state = .dormant ∧ isolating.isolationDue.get 8 = false ∧
      isolating.isolationDue.get 9 = true ∧ (isolating.port 9).state = .off := by
  obtain ⟨a, b, c, d⟩ := live_recordsOk
  obtain ⟨e, f, g⟩ := live_loadsOk
  exact ⟨⟨a, b, c, d⟩, ⟨e, f, g⟩, by decide +kernel⟩

/-- The lawful room with an intake of one Register burst of an ID at antenna 7. -/
def hearing (x : HeadsetId) (s : State) : State := { s with intakes := [⟨0, [⟨7, x, 45⟩]⟩] }

theorem witness_RegistrationIntakeTakesEachReport :
    live.intakes = [] ∧ (hearing marshal live).intakes = ⟨0, [⟨7, marshal, 45⟩]⟩ :: [] ∧ live.AdmissionOk ∧
      ((live.record 0).state ≠ .free ∧ (live.record 0).id = some marshal) ∧
      (∀ r, (live.record r).id ≠ some 0x400004) ∧ live.denials = [] ∧ live.registrations.length < 16 ∧
      (registered 3 41).AdmissionOk ∧ heardAt 3 41 ∈ (registered 3 41).registrations ∧ (41 : Level) < 45 :=
  ⟨by decide, by decide, live_admissionOk, by decide +kernel, by decide +kernel, by decide, by decide,
    registered_admissionOk 3 41, by decide, by decide⟩

/-- The live state with sixteen registrations. -/
def enrolled : State :=
  { live with registrations := (List.range 16).map fun i => ⟨BitVec.ofNat 24 (0x400010 + i), 7, 40, 0, 0⟩ }

theorem witness_RegistrationIntakeTakesEachReport_full :
    enrolled.AdmissionOk ∧ { enrolled with fullReported := true }.AdmissionOk ∧ enrolled.registrations.length = 16 ∧
      ∀ e ∈ enrolled.registrations, e.id ≠ 0x400004 := by
  have unheld : ∀ e ∈ enrolled.registrations, enrolled.findRecord e.id = none := by decide +kernel
  refine ⟨⟨by decide, by decide +kernel, unheld, fun h => (by cases h), Nat.zero_le _, List.nodup_nil,
    (by intro d hd; cases hd)⟩, ⟨by decide, by decide +kernel, unheld, fun _ => by decide, Nat.zero_le _,
    List.nodup_nil, (by intro d hd; cases hd)⟩, by decide, by decide +kernel⟩

/- The burst list of 4.8. -/
theorem witness_RegistrationIntakeTakesEachReport_several :
    ([⟨4, 0x112345, 41⟩, ⟨6, 0x112345, 37⟩, ⟨6, 0x40BEEF, 50⟩] : List Heard).Pairwise fun x y => x.port ≤ y.port := by
  decide

/-! ### The spec's worked examples -/

/-- What a command leaves: the next state, or the state as it was. -/
def after (c : Instr) (s : State) : State :=
  match exec c s with
  | .next t => t
  | .fault _ => s
  | .refused _ => s

/-- The newest response on the primary lane: its code and payload. -/
def answered (s : State) : Option (Byte × List Byte) := s.primary.queue.getLast?.map fun x => (x.code, x.payload)

/-- The live state with nothing answered yet. -/
def quiet : State := { live with events := [] }

/- 00_scope.md 4.3: serial 0x3A71C gives 0x33A71C; 0x43A71C is not canonical. -/
theorem test_canonical_ids : canonical 0x33A71C = true ∧ canonical 0x43A71C = false ∧ canonical 0x112345 = true ∧
    canonical 0x40BEEF = true := by
  decide

set_option maxRecDepth 4000 in
/- R137: "123456789" gives 0x29B1. -/
theorem test_crc16_check_value :
    crc16 [0x31, 0x32, 0x33, 0x34, 0x35, 0x36, 0x37, 0x38, 0x39] = 0x29B1 := by
  simp [crc16, crcByte, crcBit]

/- 8.8: the check byte of an Echo header, one bit wrong, two bits wrong. -/
theorem test_check_byte_8_8 :
    checkByte 0x01 0x05 0x02 = 0x36 ∧ checkHeader 0x01 0x05 0x02 0x36 = .use 0x01 0x05 0x02 false ∧
      checkHeader 0x01 0x01 0x02 0x36 = .use 0x01 0x05 0x02 true ∧ checkHeader 0x00 0x04 0x02 0x36 = .broken := by
  decide +kernel

/- 2.10, Table 2-1: the smoothing steps of antennas 5 and 9. -/
theorem test_smoothing_2_10 :
    [smooth 3 1200 1152, smooth 3 1194 1120, smooth 3 1185 976, smooth 3 1159 0] = [1194, 1185, 1159, 1015] ∧
      [smooth 3 1440 1472, smooth 3 1444 1456, smooth 3 1445 1488] = [1444, 1445, 1450] := by
  decide +kernel

/-- A piece of evidence for 2.11. -/
def ev (p : PortId) (level : Level) (damaged : Bool) (k : BurstKind) : Evidence := ⟨p, ⟨marshal, level, damaged, k⟩⟩

/- 2.11: a full list at one close. -/
theorem test_measure_2_11 :
    measureCands Params.default (fun a => a = 3)
      [ev 3 56 false (.voice zeroBlock), ev 14 33 false .monitor, ev 20 35 false .monitor, ev 21 42 true .register,
        ev 21 28 false .monitor]
      [⟨3, 900, 0, 0⟩, ⟨11, 700, 11, 0⟩, ⟨14, 520, 4, 0⟩, ⟨6, 520, 2, 40⟩] =
        [⟨3, 900, 0, 0⟩, ⟨20, 560, 0, 0⟩, ⟨14, 521, 0, 0⟩, ⟨21, 480, 0, 0⟩] := by
  decide +kernel

/- 2.10, 3.11: margins 160 and 96, required dwell 2. -/
theorem test_margin_and_dwell :
    handoffMargin 8 2 = 160 ∧ handoffMargin 8 (-2) = 96 ∧ handoffMargin 3 (-8) = 0 ∧ requiredDwell 4 .preferred = 2 := by
  decide +kernel

/-- Record 0 before the close for cycle 502 of 3.11, after its measurement: dwell 1 of 2 for antenna 3. -/
def parade : State :=
  { (live.setRecord 0 { carried with
      dwellTarget := some 3, dwellCount := 1, cands := [⟨3, 1211, 0, 0⟩, ⟨2, 1076, 0, 0⟩] }) with
    matrix := vset live.matrix 2 (vset (live.matrix.get 2) 3 ⟨.preferred, -2⟩) }

/- 3.11, close for cycle 502: the dwell reaches 2 and the bridge begins. -/
theorem test_handoff_3_11 :
    ((decisionStage 0 parade).record 0).state = .bridging ∧ ((decisionStage 0 parade).record 0).target = some 3 ∧
      ((decisionStage 0 parade).record 0).kind = some .automatic ∧ (decisionStage 0 parade).load 3 = 3 ∧
      ((decisionStage 0 parade).port 3).orders = [⟨.acquire, marshal⟩] := by
  decide +kernel

/- 3.11, close for cycle 505: a Voice burst from the target completes the bridge of record 1. -/
theorem test_completion_3_11 :
    let t := completionStage [ev 3 84 false (.voice zeroBlock)] 1 live
    (t.record 1).state = .active ∧ (t.record 1).serving = some 3 ∧ t.load 2 = 1 ∧ t.load 3 = 2 ∧
      (t.port 2).orders = [⟨.drop, 0x100001⟩] ∧ t.roamCounters.get 0 = 1 := by
  decide +kernel

/- 3.12: a record unheard for the Rescue Threshold makes a rescue. -/
theorem test_rescue_3_12 :
    let t := decisionStage 0 (deciding 900 1100 0 6)
    (t.record 0).kind = some .rescue ∧ (t.record 0).miss = 6 ∧ t.roamCounters.get 2 = 1 ∧
      t.events.getLast? = some ⟨.notice, .rescueStarted, 0, some 3, some marshal, some 30, 0⟩ := by
  decide +kernel

/- 6.9, Table 6-4: conflicting orders at one port. -/
theorem test_orders_6_9 :
    ([(OrderKind.acquire, (1 : HeadsetId)), (.deny, 2), (.drop, 1), (.acquire, 2), (.drop, 3)].foldl
      (fun q x => (takeOrder q x.1 x.2).2) []) = [⟨.deny, 2⟩, ⟨.acquire, 2⟩, ⟨.drop, 3⟩] := by
  decide +kernel

/- 6.8, Table 6-3: where the frames go. -/
theorem test_placement_6_8 :
    placement 900 900 = .gathering ∧ placement 901 902 = .late ∧ placement 902 902 = .gathering ∧
      placement 1 903 = .misaligned ∧ placement 904 903 = .early := by
  decide

/-- The queue of 11.2 before its events. -/
def pressed : State :=
  { quiet with
    params := { Params.default with infoEvents := true }
    events := List.replicate 2 ⟨.warning, .linkLost, 0, none, none, none, 0⟩ ++
      List.replicate 20 ⟨.notice, .registrationPending, 0, none, none, none, 0⟩ ++
      List.replicate 10 ⟨.info, .headsetAttached, 0, none, none, none, 0⟩ }

/-- How many events of a class are queued. -/
def countOf (s : State) (c : EventClass) : Nat := (s.events.filter fun e => e.cls = c).length

/- 11.2: an Alarm, a Warning and an Info at a full queue. -/
theorem test_event_queue_11_2 :
    let t := ((pressed.post .alarm .portIsolated (some 14) none none 0).post .warning .linkLost none none none 0).post
      .info .handoffDone none none none 0
    (t.events.map (·.kind)).take 2 = [.portIsolated, .linkLost] ∧ t.lostEvents = true ∧
      [countOf t .alarm, countOf t .warning, countOf t .notice, countOf t .info] = [1, 3, 20, 8] := by
  decide +kernel

/-- A mirrored window on rows 2 to 3 and columns 5 to 6, its pointer at its first cell (10.4). -/
def mirrored : State := { quiet with window := ⟨2, 3, 5, 6, .mirrored, 2, 5⟩ }

/- 10.4: Set Window stores the window; Table 10-1 the cells a Write Window writes. -/
theorem test_setWindow_10_4 : (after (.setWindow lead [2, 3, 5, 6, 2]) quiet).window = mirrored.window := by
  decide +kernel

theorem test_writeWindow_10_4 :
    let t := after (.writeWindow lead [0x21, 0xE0, 0x03, 0x72]) mirrored
    [t.cell 2 5, t.cell 2 6, t.cell 3 5, t.cell 3 6] =
      [⟨.preferred, 2⟩, ⟨.normal, -2⟩, ⟨.barred, 0⟩, ⟨.barred, 7⟩] ∧
    [t.cell 5 2, t.cell 6 2, t.cell 5 3, t.cell 6 3] =
      [⟨.preferred, 2⟩, ⟨.normal, -2⟩, ⟨.barred, 0⟩, ⟨.barred, 7⟩] ∧ answered t = some (1, [4, 1, 2, 5]) := by
  decide +kernel

theorem test_readWindow_10_4 :
    let t := after (.readWindow lead [6]) (after (.writeWindow lead [0x21, 0xE0, 0x03, 0x72]) mirrored)
    answered t = some (1, [0x21, 0xE0, 0x02, 0x72, 0x21, 0xE0]) ∧ (t.window.row, t.window.col) = (3, 5) := by
  decide +kernel

/-- The part of 9.7: All-Call lane 3, fixed region of 8 lanes; lane 5 bound or not. -/
def zone (lane5 : Option RecordIx) : State :=
  { quiet with
    partition := ⟨8, 54, 2⟩, cursor := 8, params := { Params.default with allCall := some 3 }
    bindings := vset live.bindings 5 lane5 }

/- 9.7: one Configure, two ways. -/
theorem test_configure_9_7 :
    let p : List Byte := [3, 0, 0, 18, 0, 10, 8, 0, 100, 14, 0, 12, 22, 0, 5]
    answered (after (.configure lead p) (zone none)) =
      some (1, [3, 0, 1, 18, 0, 8, 8, 0, 250, 14, 0, 12, 22, 0, 5]) ∧
    answered (after (.configure lead p) (zone (some 0))) = some (0x47, []) := by
  decide +kernel

/- 11.3 and 13.6: Late at port 14 is index 113, Silence Blocks of lane 30 is index 121; a delta of -37 on 39 stores 2. -/
theorem test_counter_exchange_13_6 :
    counterOf 2 113 = some (.port 14 1) ∧ counterOf 3 121 = some (.lane 30 1) ∧
      answered (after (.counterExchangeAdd lead [2, 113, 0xFF, 0xFF, 0xFF, 0xDB]) (quiet.setCounter (.port 14 1) 39)) =
        some (1, [2, 113, 0, 39, 0, 2]) := by
  decide +kernel

/-- The zone of 4.8 with A and C registered: antenna 7 at 45 and antenna 9 at 30, ports 7 and 9 ACTIVE. -/
def arriving : State :=
  { quiet with
    registrations := [⟨0x40BEEF, 9, 30, 1202, 1202⟩, ⟨0x112345, 3, 50, 1200, 1201⟩]
    ports := vset live.ports 9 { Port.powerOn with state := .active } }

/- 4.8: Fetch Registrations, Deny with its order at port 9, and Admit seeded at Q 800. -/
theorem test_fetchRegistrations_4_8 :
    answered (after (.fetchRegistrations lead [0]) arriving) =
      some (1, [2, 2, 0x40, 0xBE, 0xEF, 9, 30, 0x04, 0xB2, 0x04, 0xB2, 0x11, 0x23, 0x45, 3, 50, 0x04, 0xB0, 0x04, 0xB1]) := by
  decide +kernel

theorem test_deny_4_8 :
    let t := after (.deny lead [0x40, 0xBE, 0xEF]) arriving
    answered t = some (1, [3, 9, 0x04, 0xE2]) ∧ t.denials = [⟨0x40BEEF, 1250⟩] ∧
      (t.port 9).orders = [⟨.deny, 0x40BEEF⟩] ∧ t.registrations.length = 1 := by
  decide +kernel

theorem test_admit_4_8 :
    let t := after (.admitHeadset lead [0x11, 0x23, 0x45, 0xFF]) arriving
    answered t = some (1, [4, 0, 2]) ∧ (t.record 4).cands = [⟨3, 800, 0, 0⟩] ∧ t.load 3 = 3 ∧ t.cursor = 1 ∧
      (t.port 3).orders = [⟨.acquire, 0x112345⟩] := by
  decide +kernel

theorem test_intake_4_8 :
    let s : State := { quiet with intakes := [⟨1200, [⟨4, 0x112345, 41⟩, ⟨6, 0x112345, 37⟩, ⟨6, 0x40BEEF, 50⟩]⟩] }
    let t := after .registrationIntake s
    t.registrations = [⟨0x112345, 4, 41, 1200, 1200⟩, ⟨0x40BEEF, 6, 50, 1200, 1200⟩] ∧
      t.events.map (·.detail) = [41, 50] := by
  decide +kernel

/- 1.13: No Slot from antenna 3 fails the attach of record 2, with a full Bar Time and no Drop. -/
theorem test_noSlot_1_13 :
    let t := takeAcquireResult 3 0x200002 .noSlot live
    (t.record 2).state = .searching ∧ (t.record 2).cands = [⟨3, 656, 0, 125⟩] ∧ t.load 3 = 1 ∧
      (t.port 3).orders = [] := by
  decide +kernel

/- 1.14: port 2 goes DORMANT: record 1, accepted by antenna 3, is promoted; record 0 loses its antenna. -/
theorem test_makeDormant_1_14 :
    let t := after (.makeDormant lead 2 0) (live.setRecord 1 { bridging with accepted := true })
    (t.record 1).state = .active ∧ (t.record 1).serving = some 3 ∧ (t.record 0).state = .searching ∧ t.load 2 = 0 ∧
      t.load 3 = 2 ∧ (t.port 2).orders = [⟨.drop, marshal⟩, ⟨.drop, 0x100001⟩] := by
  decide +kernel

/- 5.5, Table 5-3: fresh, the third concealment, silence. -/
theorem test_transmit_5_5 :
    (sendLane 30 (requested ⟨zeroBlock, true, 3⟩)).1.status = .fresh ∧
      ((sendLane 30 (requested ⟨zeroBlock, false, 2⟩)).1.status = .concealed ∧
        ((sendLane 30 (requested ⟨zeroBlock, false, 2⟩)).2.holdOf 30).conceal = 3) ∧
      (sendLane 30 (requested ⟨zeroBlock, false, 3⟩)).1.status = .silence := by
  decide +kernel

/- R90: a second write before a transmit counts an Uplink Overwrite. -/
theorem test_holdWrite_overwrites :
    let t := after .holdWrite (requested ⟨zeroBlock, true, 0⟩)
    (t.holdOf 30).fresh = true ∧ (t.laneCounters.get 30).get 2 = 1 ∧ t.holdRequests = [] := by
  decide +kernel

/-! ### Further rows, from their rules -/

theorem test_echo : answered (after (.echo lead [1, 2]) quiet) = some (1, [1, 2]) := by
  decide +kernel

theorem test_identify :
    answered (after (.identify ⟨.primary, 5, true⟩ []) quiet) = some (2, [0x46, 0x07, 0x16, 1, 24, 192, 64, 4, 4]) := by
  decide +kernel

theorem test_readStatus :
    (answered (after (.readStatus lead []) quiet)).map (fun x => x.2.take 12) =
      some [1, 0, 0, 0, 0, 0, 188, 1, 1, 1, 1, 0] := by
  decide +kernel

theorem test_readParameters : answered (after (.readParameters lead [8, 22]) quiet) =
    some (1, [8, 0x09, 0xC4, 22, 0xFF, 0xFF]) := by
  decide +kernel

theorem test_setPartition_busy : answered (after (.setPartition lead [8, 54, 2]) quiet) = some (0x4C, []) := by
  decide +kernel

theorem test_restart_9_8 :
    let t := after (.restart lead []) { quiet with freeze := ⟨true, 900, true⟩ }
    (t.record 1).state = .free ∧ t.load 3 = 0 ∧ t.binding 30 = none ∧ t.freeze = ⟨false, 0, false⟩ ∧
      t.events.map (·.kind) = [.restartDone] ∧ (t.port 8).returnState = .active ∧ t.primary.queue.length = 1 := by
  decide +kernel

theorem test_clearShed :
    let t := after (.clearShed lead []) { quiet with primary := ⟨[], false, true, 8⟩ }
    answered t = some (1, [1, 8]) ∧ t.primary.shed = false ∧ t.primary.shedTag = 0 := by
  decide +kernel

theorem test_activate_isolated : answered (after (.activate lead 7 0) quiet) = some (1, [7, 2, 1, 0]) ∧
    (after (.activate lead 7 0) quiet).port 7 = { Port.powerOn with state := .active } := by
  decide +kernel

theorem test_turnOff : ((after (.turnOff lead 3 0) quiet).record 2).state = .searching ∧
    ((after (.turnOff lead 3 0) quiet).record 1).cands = [⟨3, 1180, 0, 125⟩, ⟨2, 1100, 0, 0⟩] ∧
    (after (.turnOff lead 3 0) quiet).load 3 = 0 := by
  decide +kernel

theorem test_portReset : ((after (.portReset lead 2 0) (quiet.setCounter (.port 2 0) 9)).port 2).counters.get 0 = 0 ∧
    ((after (.portReset lead 2 0) quiet).port 2).settling = true := by
  decide +kernel

theorem test_setClass : ((after (.setClass lead 2 3) quiet).port 2).cls = 3 ∧
    answered (after (.setClass lead 2 4) quiet) = some (0x47, []) := by
  decide +kernel

theorem test_loadTranslate :
    let t := after (.loadTranslate lead [1, 254, 200, 7, 9]) quiet
    answered t = some (1, [2]) ∧ t.level 1 254 = 127 ∧ t.level 1 255 = 7 ∧ t.level 0 254 = 127 := by
  decide +kernel

theorem test_readTranslate : answered (after (.readTranslate lead [0, 253, 9]) quiet) = some (1, [126, 127, 127]) := by
  decide +kernel

theorem test_release :
    let t := after (.release lead [1, 0x10, 0x00, 0x01]) quiet
    answered t = some (1, [1, 0x10, 0x00, 0x01, 31, 4]) ∧ t.load 2 = 1 ∧ t.load 3 = 1 ∧ t.binding 31 = none ∧
      (t.port 2).orders = [⟨.drop, 0x100001⟩] := by
  decide +kernel

/- R25, R119: full queues at both antennas discard both Drops. -/
theorem test_release_full_queues :
    let s := quiet.setPort 2 { quiet.port 2 with orders := orders16 ⟨.drop, 0x500005⟩ }
    let t := after (.release lead [0, 0, 0, 1]) (ordersAt3 (orders16 ⟨.drop, 0x500005⟩) s)
    t.events.map (fun e => (e.kind, e.port, e.detail)) = [(.orderLost, some 2, 2), (.orderLost, some 3, 2)] ∧
      (t.port 2).counters.get 6 = 1 ∧ (t.port 3).counters.get 6 = 1 ∧ (t.port 2).orders.length = 16 := by
  decide +kernel

theorem test_readRecord :
    answered (after (.readRecord lead [0, 0, 0, 2]) quiet) =
      some (1, [2, 2, 0x20, 0x00, 0x02, 32, 0xFF, 3, 0, 0, 0xFF, 0, 0, 0, 0, 1, 0x83, 0x02, 0x90, 0, 0, 0]) := by
  decide +kernel

theorem test_forceHandoff :
    let t := after (.forceHandoff lead [0, 0, 0, 0, 3]) quiet
    answered t = some (1, [0, 0x33, 0xA7, 0x1C, 2, 1]) ∧ (t.record 0).kind = some .forced ∧ t.load 3 = 3 := by
  decide +kernel

theorem test_freeze_request :
    let t := after (.freezeOn second 15000) quiet
    t.freeze = ⟨false, 0, true⟩ ∧ t.events.map (·.detail) = [234] ∧
      (after (.freezeOff lead 0) t).freeze = ⟨false, 0, false⟩ := by
  decide +kernel

theorem test_fetchEvents_11_2 :
    let t := after (.fetchEvents lead [5]) { pressed with lostEvents := true }
    t.events.length = 27 ∧ t.lostEvents = false ∧ (answered t).map (fun x => x.2.take 2) = some [1, 27] := by
  decide +kernel

theorem test_linkLost :
    let t := after (.linkLost 1) (quiet.setRecord 1 { bridging with miss := 49 })
    (t.record 1).state = .searching ∧ t.load 2 = 1 ∧ t.load 3 = 1 ∧ t.events.map (·.kind) = [.linkLost] := by
  decide +kernel

theorem test_bridgeTimeout :
    let t := after (.bridgeTimeout 1) (quiet.setRecord 1 { bridging with timer := 24 })
    (t.record 1).state = .active ∧ (t.record 1).cands.map (·.bar) = [125, 0] ∧ (t.port 3).orders.length = 1 ∧
      t.events.map (·.detail) = [2] := by
  decide +kernel

theorem test_attachTimeout :
    let t := after (.attachTimeout 2) (quiet.setRecord 2 { attaching with timer := 49 })
    (t.record 2).state = .searching ∧ t.load 3 = 1 ∧ t.events.map (·.kind) = [.attachFailed] := by
  decide +kernel

theorem test_headsetDropped :
    let t := after (.headsetDropped 3) (quiet.setRecord 3 { searching with orphan := 2499 })
    t.record 3 = Record.free ∧ t.binding 33 = none ∧ t.events.map (·.kind) = [.headsetDropped] := by
  decide +kernel

theorem test_barTimerExpiry :
    ((after (.barTimerExpiry 2 3) (quiet.setRecord 2 { attaching with cands := [⟨3, 656, 0, 1⟩] })).record 2).cands =
      [⟨3, 656, 0, 0⟩] := by
  decide +kernel

theorem test_freezeExpired :
    (after .freezeExpired { quiet with freeze := ⟨true, 1, true⟩ }).freeze = ⟨false, 0, true⟩ ∧
      (after .freezeExpired { quiet with freeze := ⟨true, 1, true⟩ }).events.map (·.kind) = [.freezeExpired] := by
  decide +kernel

theorem test_ages :
    (after .registrationAgeOut { arriving with timer := ⟨.follow, 1452, 0, 0⟩ }).registrations = [] ∧
      (after .registrationAgeOut { arriving with timer := ⟨.follow, 1451, 0, 0⟩ }).registrations.length = 1 ∧
      (after (.denyListingExpiry 7) { quiet with denials := [⟨7, 1⟩, ⟨8, 1⟩] }).denials = [⟨8, 1⟩] := by
  decide +kernel

theorem test_portIsolated :
    let t := after (.portIsolated 2) isolating
    (t.port 2).state = .isolated ∧ (t.port 2).returnState = .active ∧ (t.record 0).state = .searching ∧
      t.events.map (·.kind) = [.portIsolated, .linkLost, .linkLost, .powerOn] ∧ t.load 3 = 1 := by
  decide +kernel

theorem test_downlinkSend :
    let t := after (.downlinkSend 7) (quiet.setPort 7 { quiet.port 7 with
      orders := [⟨.drop, marshal⟩], voice := [⟨marshal, 30, zeroBlock⟩] })
    (t.downlinkOut.get 7).take 7 = [0, 0, 1, 0x14, 0x33, 0xA7, 0x1C] ∧ (t.port 7).voice = [] ∧
      (t.port 7).orders = [] := by
  decide +kernel

theorem test_uplinkFrame_frameError :
    ((after (.uplinkFrame 2 [1, 2, 3]) quiet).port 2).counters.get 0 = 1 := by
  decide +kernel

theorem test_cycleClose_missing :
    let t := after .cycleClose quiet
    (t.port 2).missing = 1 ∧ (t.port 9).missing = 0 ∧ t.pendingClose = none ∧ (t.record 0).miss = 1 ∧
      (t.record 3).orphan = 1 := by
  decide +kernel

theorem test_localCycleStart :
    let t := after (.localCycleStart ⟨false, false, false⟩) quiet
    t.timer = ⟨.holdover, 1, 16, 0⟩ ∧ t.pendingClose = some ⟨0, 26⟩ ∧ t.upstreamOut.take 3 = [0, 1, 1] := by
  decide +kernel

theorem test_holdoverWatchExpiry :
    let t := after (.holdoverWatchExpiry ⟨false, false, false⟩) { quiet with timer := ⟨.follow, 7, 32, 33⟩ }
    t.timer = ⟨.holdover, 8, 53, 33⟩ ∧ t.events.map (·.kind) = [.clockHoldover] := by
  decide +kernel

end Sys2Proof.Tests
end

section
/-! SUPPORT. Laws of the shared operations that every statement about the roaming table rests on: a whole state from its
fields, what an order request leaves alone, and what a Drop with a lowered load is. -/

namespace Sys2Proof.Machine

/-! ### Vectors -/

/-- Writing an element back changes nothing. -/
@[simp] theorem vset_self {α : Type} {n : Nat} (v : Vector α n) (i : Fin n) : vset v i (v.get i) = v :=
  Vector.set_getElem_self i.isLt

/-- Of two writes of one element the later stands. -/
@[simp] theorem vset_vset {α : Type} {n : Nat} (v : Vector α n) (i : Fin n) (x y : α) :
    vset (vset v i x) i y = vset v i y := by
  simp [vset]

/-! ### Posting -/

/-- A posting changes nothing but the Event Queue and Lost-Events. -/
theorem State.post_frame (s : State) (c : EventClass) (k : EventKind) (p : Option PortId) (i : Option HeadsetId)
    (n : Option LaneId) (d : Byte) :
    s.post c k p i n d =
      { s with events := (s.post c k p i n d).events, lostEvents := (s.post c k p i n d).lostEvents } := by
  unfold State.post; split <;> rfl

/-- Two states agree in what a posting reads: the Event Queue, Lost-Events, the parameters and the cycle number. -/
def State.SameEvents (s t : State) : Prop :=
  t.events = s.events ∧ t.lostEvents = s.lostEvents ∧ t.params = s.params ∧ t.timer = s.timer

/-- States that agree in what a posting reads agree after it. -/
theorem State.SameEvents.post {s t : State} (h : s.SameEvents t) (c : EventClass) (k : EventKind) (p : Option PortId)
    (i : Option HeadsetId) (n : Option LaneId) (d : Byte) :
    (s.post c k p i n d).SameEvents (t.post c k p i n d) := by
  obtain ⟨he, hl, hp, ht⟩ := h
  refine ⟨?_, ?_, by simp [hp], by simp [ht]⟩ <;>
    simp only [State.post, he, hl, hp, ht] <;> split <;> simp_all

theorem State.SameEvents.refl (s : State) : s.SameEvents s := ⟨rfl, rfl, rfl, rfl⟩

theorem State.SameEvents.trans {s t u : State} (h : s.SameEvents t) (h' : t.SameEvents u) : s.SameEvents u :=
  ⟨h'.1.trans h.1, h'.2.1.trans h.2.1, h'.2.2.1.trans h.2.2.1, h'.2.2.2.trans h.2.2.2⟩

/-! ### Order requests -/

/-- A request for an order leaves every port's state as it was. -/
@[simp] theorem State.requestOrder_state (s : State) (p q : PortId) (k : OrderKind) (x : HeadsetId) :
    ((s.requestOrder p k x).2.port q).state = (s.port q).state := by
  rcases s.requestOrder_cases p k x with ⟨-, h⟩ | ⟨o, l, -, -, h⟩ | ⟨l, -, h⟩ <;> rw [h]
  all_goals by_cases hq : q = p <;> simp [hq, State.modPort_port, State.bumpPort, Port.bump]

/-- A field that an order request does not touch is read off its frame. -/
theorem State.requestOrder_keeps {α : Type} (f : State → α) (s : State) (p : PortId) (k : OrderKind) (x : HeadsetId)
    (hf : ∀ (ports : Vector Port 24) (events : List Event) (lost : Bool),
      f { s with ports := ports, events := events, lostEvents := lost } = f s) :
    f (s.requestOrder p k x).2 = f s := by
  rw [s.requestOrder_frame]; exact hf _ _ _

@[simp] theorem State.requestOrder_records (s : State) (p : PortId) (k : OrderKind) (x : HeadsetId) :
    (s.requestOrder p k x).2.records = s.records := s.requestOrder_keeps (·.records) p k x fun _ _ _ => rfl
@[simp] theorem State.requestOrder_record (s : State) (p : PortId) (k : OrderKind) (x : HeadsetId) (r : RecordIx) :
    (s.requestOrder p k x).2.record r = s.record r := s.requestOrder_keeps (·.record r) p k x fun _ _ _ => rfl
@[simp] theorem State.requestOrder_load (s : State) (p : PortId) (k : OrderKind) (x : HeadsetId) (q : PortId) :
    (s.requestOrder p k x).2.load q = s.load q := s.requestOrder_keeps (·.load q) p k x fun _ _ _ => rfl
@[simp] theorem State.requestOrder_bindings (s : State) (p : PortId) (k : OrderKind) (x : HeadsetId) :
    (s.requestOrder p k x).2.bindings = s.bindings := s.requestOrder_keeps (·.bindings) p k x fun _ _ _ => rfl
@[simp] theorem State.requestOrder_params (s : State) (p : PortId) (k : OrderKind) (x : HeadsetId) :
    (s.requestOrder p k x).2.params = s.params := s.requestOrder_keeps (·.params) p k x fun _ _ _ => rfl
@[simp] theorem State.requestOrder_pending (s : State) (p : PortId) (k : OrderKind) (x : HeadsetId) :
    (s.requestOrder p k x).2.pending = s.pending := s.requestOrder_keeps (·.pending) p k x fun _ _ _ => rfl

/-! ### Drops -/

/-- A Drop changes nothing but ports and events. -/
theorem State.dropAt_frame (s : State) (p : PortId) (x : HeadsetId) :
    s.dropAt p x = { s with
      ports := (s.dropAt p x).ports, events := (s.dropAt p x).events, lostEvents := (s.dropAt p x).lostEvents } :=
  s.requestOrder_frame p .drop x

@[simp] theorem State.dropAt_record (s : State) (p : PortId) (x : HeadsetId) (r : RecordIx) :
    (s.dropAt p x).record r = s.record r := s.requestOrder_record p .drop x r
@[simp] theorem State.dropAt_load (s : State) (p : PortId) (x : HeadsetId) (q : PortId) :
    (s.dropAt p x).load q = s.load q := s.requestOrder_load p .drop x q
@[simp] theorem State.dropAt_bindings (s : State) (p : PortId) (x : HeadsetId) :
    (s.dropAt p x).bindings = s.bindings := s.requestOrder_bindings p .drop x
@[simp] theorem State.dropAt_params (s : State) (p : PortId) (x : HeadsetId) :
    (s.dropAt p x).params = s.params := s.requestOrder_params p .drop x
@[simp] theorem State.dropAt_pending (s : State) (p : PortId) (x : HeadsetId) :
    (s.dropAt p x).pending = s.pending := s.requestOrder_pending p .drop x
@[simp] theorem State.dropAt_state (s : State) (p q : PortId) (x : HeadsetId) :
    ((s.dropAt p x).port q).state = (s.port q).state := s.requestOrder_state p q .drop x

/-- A Drop with a lowered load changes nothing but ports, loads and events. -/
theorem State.dropAndLower_frame (s : State) (p : Option PortId) (x : HeadsetId) :
    s.dropAndLower p x = { s with
      ports := (s.dropAndLower p x).ports
      loads := (s.dropAndLower p x).loads
      events := (s.dropAndLower p x).events
      lostEvents := (s.dropAndLower p x).lostEvents } := by
  cases p with
  | none => rfl
  | some p => simp only [State.dropAndLower]; rw [s.dropAt_frame]; rfl

@[simp] theorem State.dropAndLower_record (s : State) (p : Option PortId) (x : HeadsetId) (r : RecordIx) :
    (s.dropAndLower p x).record r = s.record r := by rw [s.dropAndLower_frame]; rfl
@[simp] theorem State.dropAndLower_records (s : State) (p : Option PortId) (x : HeadsetId) :
    (s.dropAndLower p x).records = s.records := by rw [s.dropAndLower_frame]
@[simp] theorem State.dropAndLower_bindings (s : State) (p : Option PortId) (x : HeadsetId) :
    (s.dropAndLower p x).bindings = s.bindings := by rw [s.dropAndLower_frame]
@[simp] theorem State.dropAndLower_holds (s : State) (p : Option PortId) (x : HeadsetId) :
    (s.dropAndLower p x).holds = s.holds := by rw [s.dropAndLower_frame]
@[simp] theorem State.dropAndLower_binding (s : State) (p : Option PortId) (x : HeadsetId) (n : LaneId) :
    (s.dropAndLower p x).binding n = s.binding n := by rw [s.dropAndLower_frame]; rfl
@[simp] theorem State.dropAndLower_holdOf (s : State) (p : Option PortId) (x : HeadsetId) (n : LaneId) :
    (s.dropAndLower p x).holdOf n = s.holdOf n := by rw [s.dropAndLower_frame]; rfl
@[simp] theorem State.dropAndLower_params (s : State) (p : Option PortId) (x : HeadsetId) :
    (s.dropAndLower p x).params = s.params := by rw [s.dropAndLower_frame]
@[simp] theorem State.dropAndLower_timer (s : State) (p : Option PortId) (x : HeadsetId) :
    (s.dropAndLower p x).timer = s.timer := by rw [s.dropAndLower_frame]
@[simp] theorem State.dropAndLower_pending (s : State) (p : Option PortId) (x : HeadsetId) :
    (s.dropAndLower p x).pending = s.pending := by rw [s.dropAndLower_frame]
@[simp] theorem State.dropAndLower_roamCounters (s : State) (p : Option PortId) (x : HeadsetId) :
    (s.dropAndLower p x).roamCounters = s.roamCounters := by rw [s.dropAndLower_frame]
@[simp] theorem State.dropAndLower_state (s : State) (p : Option PortId) (x : HeadsetId) (q : PortId) :
    ((s.dropAndLower p x).port q).state = (s.port q).state := by
  cases p with
  | none => rfl
  | some p => simp [State.dropAndLower]

/-- The load of a port after a Drop with a lowered load (Table 3-2). -/
theorem State.dropAndLower_load (s : State) (p : Option PortId) (x : HeadsetId) (q : PortId) :
    (s.dropAndLower p x).load q = s.load q - if q ∈ p.toList then 1 else 0 :=
  (s.dropAndLower_droppedAt p x).loads q

/-! ### Acquires -/

/-- An Acquire asked of an ACTIVE port is refused, which changes nothing, or stands in its queue and changes nothing
else; it is never discarded (R119, R120). -/
theorem State.requestOrder_acquire {s : State} {a : PortId} (h : (s.port a).state = .active) (x : HeadsetId) :
    s.requestOrder a .acquire x =
      ((takeOrder (s.port a).orders .acquire x).1,
        s.setPort a { s.port a with orders := (takeOrder (s.port a).orders .acquire x).2 }) := by
  have hd : (takeOrder (s.port a).orders .acquire x).1 ≠ .discarded := by
    unfold takeOrder
    repeat' split
    all_goals simp [noPlace]
  simp [State.requestOrder, h, hd, State.modPort]

/-- A refused Acquire leaves the queue as it was (R119). -/
theorem takeOrder_refused {q : List Order} {k : OrderKind} {x : HeadsetId}
    (h : (takeOrder q k x).1 = .refused) : (takeOrder q k x).2 = q := by
  unfold takeOrder at h ⊢
  repeat' split
  all_goals simp_all

end Sys2Proof.Machine
end

section
/-! SUPPORT. What a command can do to the roaming table, said once. `State.Turn` is the change of one record with its loads;
`State.TableStep` lists the other changes of the table; every law of the table is derived from these. -/

namespace Sys2Proof.Machine

/-! ### The antennas a record names -/

/-- How often a record names antenna a: once or not at all (R4). -/
def Record.pins (rd : Record) (a : PortId) : Nat := if rd.pinned a then 1 else 0

/-- The record's candidate list is lawful. -/
def Record.candsOk (rd : Record) : Prop := candidatesOk rd.pinned rd.cands

@[simp] theorem Record.pinned_iff (rd : Record) (a : PortId) :
    rd.pinned a = true ↔ rd.serving = some a ∨ rd.target = some a := by simp [Record.pinned]

theorem Record.mem_antennas (rd : Record) (a : PortId) : a ∈ rd.antennas ↔ rd.pinned a = true := by
  simp [Record.antennas, Record.pinned]

/-- A list stays lawful when its entries keep antenna, quality and absent count and no further antenna is pinned. -/
theorem candidatesOk.of_map {pinned pinned' : PortId → Bool} {cs : List Candidate} (h : candidatesOk pinned cs)
    (f : Candidate → Candidate) (hf : ∀ c, (f c).antenna = c.antenna ∧ (f c).q = c.q ∧ (f c).absent = c.absent)
    (hp : ∀ a, pinned' a = true → pinned a = true) : candidatesOk pinned' (cs.map f) where
  room := by simpa using h.room
  distinct := by simpa [Function.comp_def, hf] using h.distinct
  ordered := by simpa [List.pairwise_map, hf] using h.ordered
  present a ha := by
    obtain ⟨c, hc, rfl⟩ := h.present a (hp a ha)
    exact ⟨f c, List.mem_map_of_mem hc, (hf c).1⟩
  quality := by simpa [hf] using h.quality
  absent := by simpa [hf] using h.absent

/-- A list stays lawful when no further antenna is pinned. -/
theorem candidatesOk.mono {pinned pinned' : PortId → Bool} {cs : List Candidate} (h : candidatesOk pinned cs)
    (hp : ∀ a, pinned' a = true → pinned a = true) : candidatesOk pinned' cs :=
  { h with present := fun a ha => h.present a (hp a ha) }

/-- Barring an entry keeps a list lawful (R63). -/
theorem candidatesOk.barEntry {pinned pinned' : PortId → Bool} {cs : List Candidate} (h : candidatesOk pinned cs)
    (a : PortId) (n : Nat) (hp : ∀ a, pinned' a = true → pinned a = true) :
    candidatesOk pinned' (barEntry cs a n) :=
  h.of_map _ (fun c => by split <;> simp) hp

theorem candidatesOk_nil {pinned : PortId → Bool} (h : ∀ a, pinned a = false) : candidatesOk pinned [] :=
  ⟨by simp, by simp, by simp, fun a ha => by simp [h a] at ha, by simp, by simp⟩

/-! ### The turn of one record -/

/-- The load of every antenna that record r names counts it. -/
def State.Covers (s : State) (r : RecordIx) : Prop := ∀ p, (s.record r).pins p ≤ s.load p

/-- From s to t the table changes at record r alone: it keeps its ID and lane, or is freed and its lane unbound; it keeps
its shape and a lawful list; the loads move with the antennas it names, and one it comes to name is an ACTIVE port with
room. -/
structure State.Turn (s t : State) (r : RecordIx) : Prop where
  others : ∀ q, q ≠ r → t.record q = s.record q
  held : ((t.record r).id = (s.record r).id ∧ (t.record r).lane = (s.record r).lane ∧ t.bindings = s.bindings) ∨
    ((t.record r).id = none ∧ (t.record r).lane = none ∧
      ∀ m, t.binding m = if (s.record r).lane = some m then none else s.binding m)
  pending : t.pending = s.pending
  states : ∀ p, (t.port p).state = (s.port p).state
  shape : (s.record r).shapeOk → (t.record r).shapeOk
  listed : (s.record r).candsOk → (t.record r).candsOk
  loads : (s.record r).shapeOk → s.Covers r →
    ∀ p, t.load p + (s.record r).pins p = s.load p + (t.record r).pins p
  gained : (s.record r).shapeOk → s.Covers r → ∀ p, (s.record r).pins p = 0 → (t.record r).pins p = 1 →
    (s.port p).state = .active ∧ s.load p < Config.maxLoad

/-- The table is the same in both states: records, lane bindings, loads, port states and the queue of commands. -/
structure State.SameTable (s t : State) : Prop where
  records : t.records = s.records
  bindings : t.bindings = s.bindings
  loads : t.loads = s.loads
  pending : t.pending = s.pending
  states : ∀ p, (t.port p).state = (s.port p).state

theorem State.SameTable.record {s t : State} (h : s.SameTable t) (r : RecordIx) : t.record r = s.record r := by
  simp [State.record, h.records]

theorem State.SameTable.binding {s t : State} (h : s.SameTable t) (n : LaneId) : t.binding n = s.binding n := by
  simp [State.binding, h.bindings]

theorem State.SameTable.load {s t : State} (h : s.SameTable t) (p : PortId) : t.load p = s.load p := by
  simp [State.load, h.loads]

theorem State.SameTable.refl (s : State) : s.SameTable s := ⟨rfl, rfl, rfl, rfl, fun _ => rfl⟩

theorem State.SameTable.trans {s t u : State} (h : s.SameTable t) (h' : t.SameTable u) : s.SameTable u :=
  ⟨h'.records.trans h.records, h'.bindings.trans h.bindings, h'.loads.trans h.loads, h'.pending.trans h.pending,
    fun p => (h'.states p).trans (h.states p)⟩

theorem Record.pins_le_one (rd : Record) (p : PortId) : rd.pins p ≤ 1 := by
  unfold Record.pins; split <;> omega

/-- A change outside the table is a turn of any record. -/
theorem State.SameTable.turn {s t : State} (h : s.SameTable t) (r : RecordIx) : s.Turn t r where
  others q _ := h.record q
  held := .inl ⟨by rw [h.record], by rw [h.record], h.bindings⟩
  pending := h.pending
  states := h.states
  shape hs := by rwa [h.record]
  listed hs := by rwa [h.record]
  loads _ _ p := by rw [h.record, h.load]
  gained _ _ p h0 h1 := by rw [h.record, h0] at h1; cases h1

/-- After a turn the loads still count the record. -/
theorem State.Turn.covers {s t : State} {r : RecordIx} (h : s.Turn t r) (hs : (s.record r).shapeOk)
    (hc : s.Covers r) : t.Covers r := fun p => by
  have h1 := h.loads hs hc p
  have h2 := hc p
  omega

/-- Two turns of one record make one. -/
theorem State.Turn.trans {s t u : State} {r : RecordIx} (h : s.Turn t r) (h' : t.Turn u r) : s.Turn u r where
  others q hq := (h'.others q hq).trans (h.others q hq)
  held := by
    have hb : ∀ {v w : State}, w.bindings = v.bindings → ∀ m, w.binding m = v.binding m :=
      fun e m => by simp [State.binding, e]
    rcases h.held with ⟨i, l, b⟩ | ⟨i, l, b⟩ <;> rcases h'.held with ⟨i', l', b'⟩ | ⟨i', l', b'⟩
    · exact .inl ⟨i'.trans i, l'.trans l, b'.trans b⟩
    · exact .inr ⟨i', l', fun m => by rw [b' m, l, hb b m]⟩
    · exact .inr ⟨i'.trans i, l'.trans l, fun m => by rw [hb b' m, b m]⟩
    · exact .inr ⟨i', l', fun m => by rw [b' m, l, b m]; simp⟩
  pending := h'.pending.trans h.pending
  states p := (h'.states p).trans (h.states p)
  shape hs := h'.shape (h.shape hs)
  listed hs := h'.listed (h.listed hs)
  loads hs hc p := by
    have h1 := h.loads hs hc p
    have h2 := h'.loads (h.shape hs) (h.covers hs hc) p
    omega
  gained hs hc p h0 h1 := by
    have hl := h.loads hs hc p
    have hone := (t.record r).pins_le_one p
    by_cases ht : (t.record r).pins p = 1
    · exact h.gained hs hc p h0 ht
    · have ht0 : (t.record r).pins p = 0 := by omega
      have hg := h'.gained (h.shape hs) (h.covers hs hc) p ht0 h1
      exact ⟨(h.states p).symm.trans hg.1, by omega⟩

/-- The table from s to t: record r has become rd', the loads of the ports of L are lowered where the record had its
shape, and nothing else has changed. -/
structure State.Treated (s t : State) (r : RecordIx) (rd' : Record) (L : List PortId) : Prop where
  records : t.records = vset s.records r rd'
  bindings : t.bindings = s.bindings
  pending : t.pending = s.pending
  states : ∀ p, (t.port p).state = (s.port p).state
  loads : (s.record r).shapeOk → ∀ p, t.load p = s.load p - if p ∈ L then 1 else 0

theorem State.record_of_vset {s t : State} {r : RecordIx} {rd' : Record} (h : t.records = vset s.records r rd')
    (q : RecordIx) : t.record q = if q = r then rd' else s.record q := by
  simp only [State.record, h, vset_get]

theorem State.Treated.record {s t : State} {r : RecordIx} {rd' : Record} {L : List PortId} (h : s.Treated t r rd' L)
    (q : RecordIx) : t.record q = if q = r then rd' else s.record q := State.record_of_vset h.records q

/-- A record that gives up the antennas whose loads are lowered, and keeps ID, lane, shape and list, makes a turn. -/
theorem State.Treated.turn {s t : State} {r : RecordIx} {rd' : Record} {L : List PortId} (h : s.Treated t r rd' L)
    (hid : rd'.id = (s.record r).id) (hlane : rd'.lane = (s.record r).lane)
    (hshape : (s.record r).shapeOk → rd'.shapeOk) (hlist : (s.record r).candsOk → rd'.candsOk)
    (hpins : (s.record r).shapeOk → ∀ p, rd'.pins p + (if p ∈ L then 1 else 0) = (s.record r).pins p) :
    s.Turn t r := by
  have hr : t.record r = rd' := by simp [h.record]
  exact
    { others := fun q hq => by simp [h.record, hq]
      held := .inl ⟨by rw [hr, hid], by rw [hr, hlane], h.bindings⟩
      pending := h.pending
      states := h.states
      shape := by rwa [hr]
      listed := by rwa [hr]
      loads := fun hs hc p => by
        have h1 := h.loads hs p
        have h2 := hpins hs p
        have h3 := hc p
        rw [hr]; omega
      gained := fun hs _ p h0 h1 => by
        have h2 := hpins hs p
        rw [hr] at h1; omega }

/-- A record that keeps its antennas, ID and lane makes a turn when its shape and list stay lawful. -/
theorem State.turn_setRecord {s : State} {r : RecordIx} {rd' : Record} (hid : rd'.id = (s.record r).id)
    (hlane : rd'.lane = (s.record r).lane) (hserving : rd'.serving = (s.record r).serving)
    (htarget : rd'.target = (s.record r).target) (hshape : (s.record r).shapeOk → rd'.shapeOk)
    (hlist : (s.record r).candsOk → rd'.candsOk) : s.Turn (s.setRecord r rd') r :=
  State.Treated.turn (L := []) ⟨rfl, rfl, rfl, fun _ => rfl, fun _ _ => by simp⟩ hid hlane hshape hlist fun _ p => by
    simp [Record.pins, Record.pinned, hserving, htarget]

/-! ### The steps of the table -/

/-- Turns of records, one after the other. -/
inductive State.Turns : State → State → Prop where
  | refl (s) : State.Turns s s
  | next {s t u r} : State.Turns s t → t.Turn u r → State.Turns s u

/-- What a command can do to the roaming table: turns of records; a port out of ACTIVE may change its state, and an ACTIVE
port leaves it once the records naming it have been treated; an Admit; a Restart; the power-on reset. -/
inductive State.TableStep : State → State → Prop where
  /-- One record is treated. -/
  | turn {s t r} : s.Turn t r → State.TableStep s t
  /-- A port that is not ACTIVE takes any state. -/
  | port {s t : State} (p : PortId) : (s.port p).state ≠ .active → t.records = s.records → t.bindings = s.bindings →
      t.pending = s.pending → (∀ q, q ≠ p → (t.port q).state = (s.port q).state) →
      (∀ q, t.load q = s.load q ∨ q = p ∧ t.load q = 0) → State.TableStep s t
  /-- Port p leaves ACTIVE: its state changes, the records are treated, and none then names it (R23, R24). -/
  | leave {s t : State} (p : PortId) (u v : State) : u.records = s.records → u.bindings = s.bindings →
      u.pending = s.pending → u.loads = s.loads → (∀ q, q ≠ p → (u.port q).state = (s.port q).state) →
      u.Turns v → (s.RecordsOk → ∀ r, (v.record r).pinned p = false) → t.records = v.records →
      t.bindings = v.bindings → t.pending = v.pending → (∀ q, (t.port q).state = (v.port q).state) →
      (∀ q, t.load q = v.load q ∨ q = p ∧ t.load q = 0) → State.TableStep s t
  /-- A FREE record takes an ID that no record holds and a lane that is not bound (R11, R83). -/
  | admitted {s t : State} (r : RecordIx) (x : HeadsetId) (n : LaneId) (seed : Option Registration) :
      (s.record r).state = .free → canonical x = true → s.findRecord x = none → s.binding n = none →
      t.records = vset s.records r (Record.admitted x n seed) → t.bindings = vset s.bindings n (some r) →
      t.pending = s.pending → t.loads = s.loads → (∀ p, (t.port p).state = (s.port p).state) → State.TableStep s t
  /-- The table is emptied (R2). -/
  | cleared {s t : State} : (∀ r, t.record r = Record.free) → (∀ n, t.binding n = none) → (∀ p, t.load p = 0) →
      t.pending = s.pending → State.TableStep s t

/-- Steps of the table, one after the other. -/
inductive State.TableRun : State → State → Prop where
  | refl (s) : State.TableRun s s
  | next {s t u} : State.TableRun s t → t.TableStep u → State.TableRun s u

theorem State.TableRun.trans {s t u : State} (h : s.TableRun t) (h' : t.TableRun u) : s.TableRun u := by
  induction h' with
  | refl => exact h
  | next _ step ih => exact ih.next step

theorem State.TableStep.run {s t : State} (h : s.TableStep t) : s.TableRun t := (State.TableRun.refl s).next h

theorem State.Turn.run {s t : State} {r : RecordIx} (h : s.Turn t r) : s.TableRun t := (State.TableStep.turn h).run

theorem State.SameTable.run {s t : State} (h : s.SameTable t) : s.TableRun t := (h.turn 0).run

theorem State.Turns.run {s t : State} (h : s.Turns t) : s.TableRun t := by
  induction h with
  | refl => exact .refl _
  | next _ step ih => exact ih.next (.turn step)

/-- A pass over a list in which every member runs is a run. -/
theorem State.TableRun.foldl {α : Type} {f : State → α → State} (hf : ∀ (s : State) (a : α), s.TableRun (f s a)) (l : List α)
    (s : State) : s.TableRun (l.foldl f s) := by
  induction l generalizing s with
  | nil => exact .refl s
  | cons a l ih => exact (hf s a).trans (ih (f s a))

/-- A pass over records in which every one makes its turn is turns. -/
theorem State.Turns.foldl {f : State → RecordIx → State} (hf : ∀ (s : State) (r : RecordIx), s.Turn (f s r) r) (l : List RecordIx)
    (s u : State) (h : u.Turns s) : u.Turns (l.foldl f s) := by
  induction l generalizing s with
  | nil => exact h
  | cons a l ih => exact ih _ (h.next (hf s a))

/-- A law that every step of the table keeps is kept by a run. -/
theorem State.TableRun.keeps {P : State → Prop} (hP : ∀ s t, s.TableStep t → P s → P t) {s t : State}
    (h : s.TableRun t) (hs : P s) : P t := by
  induction h with
  | refl => exact hs
  | next _ step ih => exact hP _ _ step ih

end Sys2Proof.Machine
end

section
/-! SUPPORT. The measurement update, insertion and eviction keep a candidate list lawful (R3, R4, R31 to R39). -/

namespace Sys2Proof.Machine

/-! ### Order -/

theorem insertCand_perm (c : Candidate) (l : List Candidate) : (insertCand c l).Perm (c :: l) := by
  induction l with
  | nil => exact .refl _
  | cons x xs ih =>
    simp only [insertCand]
    split
    · exact .refl _
    · exact (ih.cons x).trans (.swap c x xs)

theorem resort_aux_perm (cs acc : List Candidate) :
    (cs.foldl (fun acc c => insertCand c acc) acc).Perm (cs ++ acc) := by
  induction cs generalizing acc with
  | nil => exact .refl _
  | cons c cs ih =>
    exact (ih _).trans (((insertCand_perm c acc).append_left cs).trans List.perm_middle)

/-- The re-sort keeps the entries (R35). -/
theorem resort_perm (cs : List Candidate) : (resort cs).Perm cs := by
  simpa [resort] using resort_aux_perm cs []

/-- The re-sorted list is in order (R35). -/
theorem resort_ordered (cs : List Candidate) : (resort cs).Pairwise fun x y => y.q ≤ x.q := by
  have h : ∀ (cs acc : List Candidate), acc.Pairwise (fun x y => y.q ≤ x.q) →
      (cs.foldl (fun acc c => insertCand c acc) acc).Pairwise fun x y => y.q ≤ x.q := by
    intro cs
    induction cs with
    | nil => exact fun _ h => h
    | cons c cs ih => exact fun acc h => ih _ (insertCand_ordered c acc h)
  exact h cs [] .nil

/-! ### Quality -/

/-- A quality moved toward a goal stays at or below the larger of the two (R32, R34). -/
theorem smooth_le {k q goal m : Nat} (hq : q ≤ m) (hg : goal ≤ m) : smooth k q goal ≤ m := by
  have hpow : (0 : Int) < 2 ^ k := by positivity
  unfold smooth
  rcases Nat.le_total q goal with h | h
  · have : Int.tdiv ((goal : Int) - q) (2 ^ k) ≤ (goal : Int) - q := Int.tdiv_le_self _ (by omega)
    omega
  · have hn : Int.tdiv ((goal : Int) - q) (2 ^ k) = -Int.tdiv ((q : Int) - goal) (2 ^ k) := by
      rw [← Int.neg_tdiv, neg_sub]
    have := Int.tdiv_nonneg (a := (q : Int) - goal) (by omega) hpow.le
    omega

theorem measured_le (penalty : Nat) (b : Burst) : measured penalty b ≤ 127 := by
  unfold measured; split <;> omega

/-- A sample is a level, damaged or not: at most 127 (R29, R30). -/
theorem sampleOf_le {penalty : Nat} {ev : List Evidence} {a : PortId} {x : Nat}
    (h : sampleOf penalty ev a = some x) : x ≤ 127 := by
  obtain ⟨e, -, rfl⟩ := List.mem_map.mp (List.max?_mem h)
  exact measured_le penalty e.burst

/-- The update of an entry keeps its antenna, and quality and absent count in their ranges (R32 to R34). -/
theorem updateEntry_bounds {k : Nat} {sample : PortId → Option Nat} {c : Candidate}
    (hs : ∀ a x, sample a = some x → x ≤ 127) (hq : c.q ≤ 2032) :
    (updateEntry k sample c).antenna = c.antenna ∧ (updateEntry k sample c).q ≤ 2032 ∧
      (updateEntry k sample c).absent ≤ 255 := by
  unfold updateEntry
  split
  · rename_i x hx
    have := hs _ _ hx
    exact ⟨rfl, smooth_le hq (by omega), by simp⟩
  · exact ⟨rfl, smooth_le hq (by omega), by dsimp only; omega⟩

/-- Steps 1 to 3 of the measurement update keep a list lawful (R31). -/
theorem kept_candidatesOk {pinned : PortId → Bool} {cs : List Candidate} (h : candidatesOk pinned cs) (k limit : Nat)
    {sample : PortId → Option Nat} (hs : ∀ a x, sample a = some x → x ≤ 127) :
    candidatesOk pinned (dropStale pinned limit (resort (cs.map (updateEntry k sample)))) := by
  have hu : ∀ c ∈ cs, _ := fun c hc => updateEntry_bounds (k := k) hs (h.quality c hc)
  have hperm := resort_perm (cs.map (updateEntry k sample))
  have hmap : (cs.map (updateEntry k sample)).map (·.antenna) = cs.map (·.antenna) := by
    simp only [List.map_map]
    exact List.map_congr_left fun c hc => (hu c hc).1
  have hmem : ∀ c, c ∈ dropStale pinned limit (resort (cs.map (updateEntry k sample))) →
      ∃ d ∈ cs, updateEntry k sample d = c := fun c hc =>
    List.mem_map.mp (hperm.mem_iff.mp (List.mem_filter.mp hc).1)
  refine ⟨?_, ?_, (resort_ordered _).filter _, fun a ha => ?_, fun c hc => ?_, fun c hc => ?_⟩
  · exact (List.length_filter_le _ _).trans (by rw [hperm.length_eq, List.length_map]; exact h.room)
  · exact ((hperm.map _).nodup_iff.mpr (hmap ▸ h.distinct)).sublist (List.filter_sublist.map _)
  · obtain ⟨c, hc, rfl⟩ := h.present a ha
    refine ⟨updateEntry k sample c, List.mem_filter.mpr ⟨hperm.mem_iff.mpr (List.mem_map_of_mem hc), ?_⟩, (hu c hc).1⟩
    rw [(hu c hc).1, ha]; rfl
  · obtain ⟨d, hd, rfl⟩ := hmem c hc; exact (hu d hd).2.1
  · obtain ⟨d, hd, rfl⟩ := hmem c hc; exact (hu d hd).2.2

/-! ### Eviction -/

/-- The victim is an unpinned entry of the list; there is none only where every entry is pinned (R38). -/
theorem victim_spec (pinned : PortId → Bool) (cs : List Candidate) :
    match victim pinned cs with
    | none => ∀ c ∈ cs, pinned c.antenna = true
    | some v => v ∈ cs ∧ pinned v.antenna = false := by
  unfold victim
  induction cs using List.reverseRecOn with
  | nil => simp
  | append_singleton l c ih =>
    rw [List.foldl_concat]
    generalize List.foldl _ none l = best at ih ⊢
    by_cases hp : pinned c.antenna = true
    · cases best with
      | none => simpa [hp, or_imp, forall_and] using ih
      | some b => simpa [hp] using ⟨.inl ih.1, ih.2⟩
    · have hp' : pinned c.antenna = false := by simpa using hp
      cases best with
      | none => simp [hp']
      | some b =>
        by_cases hq : c.q ≤ b.q
        · simp [hp', hq]
        · simpa [hp', hq] using ⟨.inl ih.1, ih.2⟩

theorem victim_mem {pinned : PortId → Bool} {cs : List Candidate} {v : Candidate} (h : victim pinned cs = some v) :
    v ∈ cs ∧ pinned v.antenna = false := by
  have := victim_spec pinned cs; rwa [h] at this

theorem victim_none {pinned : PortId → Bool} {cs : List Candidate} (h : victim pinned cs = none) :
    ∀ c ∈ cs, pinned c.antenna = true := by
  have := victim_spec pinned cs; rwa [h] at this

theorem entryFor_none {cs : List Candidate} {a : PortId} : entryFor cs a = none ↔ ∀ c ∈ cs, c.antenna ≠ a := by
  simp [entryFor]

theorem entryFor_some {cs : List Candidate} {a : PortId} {c : Candidate} (h : entryFor cs a = some c) :
    c ∈ cs ∧ c.antenna = a := by
  exact ⟨List.mem_of_find?_eq_some h, by simpa using List.find?_some h⟩

/-- Taking an unpinned entry out keeps a list lawful and makes room. -/
theorem removeCand_candidatesOk {pinned : PortId → Bool} {cs : List Candidate} (h : candidatesOk pinned cs)
    {v : Candidate} (hv : v ∈ cs) (hp : pinned v.antenna = false) :
    candidatesOk pinned (removeCand v.antenna cs) ∧ (removeCand v.antenna cs).length < Config.maxCandidates := by
  have hsub : (removeCand v.antenna cs).Sublist cs := List.filter_sublist
  have hlt : (removeCand v.antenna cs).length < cs.length :=
    List.length_filter_lt_length_iff_exists.mpr ⟨v, hv, by simp⟩
  refine ⟨⟨hsub.length_le.trans h.room, h.distinct.sublist (hsub.map _), h.ordered.sublist hsub, fun a ha => ?_,
    fun c hc => h.quality c (hsub.subset hc), fun c hc => h.absent c (hsub.subset hc)⟩, hlt.trans_le h.room⟩
  obtain ⟨c, hc, rfl⟩ := h.present a ha
  refine ⟨c, List.mem_filter.mpr ⟨hc, ?_⟩, rfl⟩
  simp only [ne_eq, decide_not, Bool.not_eq_eq_eq_not, Bool.not_true, decide_eq_false_iff_not]
  rintro e; rw [e, hp] at ha; cases ha

/-- Inserting an antenna's entry keeps a list with room lawful (R37). -/
theorem insertCand_candidatesOk {pinned : PortId → Bool} {cs : List Candidate} (h : candidatesOk pinned cs)
    {c : Candidate} (hroom : cs.length < Config.maxCandidates) (hnew : ∀ d ∈ cs, d.antenna ≠ c.antenna)
    (hq : c.q ≤ 2032) (ha : c.absent ≤ 255) : candidatesOk pinned (insertCand c cs) := by
  have hmem : ∀ d, d ∈ insertCand c cs ↔ d = c ∨ d ∈ cs := fun d => mem_insertCand c d cs
  refine ⟨by rw [insertCand_length]; omega, ?_, insertCand_ordered c cs h.ordered, fun a hp => ?_, ?_, ?_⟩
  · refine ((insertCand_perm c cs).map _).nodup_iff.mpr (List.nodup_cons.mpr ⟨?_, h.distinct⟩)
    rintro hm
    obtain ⟨d, hd, e⟩ := List.mem_map.mp hm
    exact hnew d hd e
  · obtain ⟨d, hd, rfl⟩ := h.present a hp
    exact ⟨d, (hmem d).mpr (.inr hd), rfl⟩
  · intro d hd
    rcases (hmem d).mp hd with rfl | hd
    exacts [hq, h.quality d hd]
  · intro d hd
    rcases (hmem d).mp hd with rfl | hd
    exacts [ha, h.absent d hd]

/-! ### Offers -/

theorem insertOffer_perm (o : PortId × Nat) (l : List (PortId × Nat)) : (insertOffer o l).Perm (o :: l) := by
  induction l with
  | nil => exact .refl _
  | cons x xs ih =>
    simp only [insertOffer]
    split
    · exact .refl _
    · exact (ih.cons x).trans (.swap o x xs)

theorem insertOffers_perm (os acc : List (PortId × Nat)) :
    (os.foldl (fun acc o => insertOffer o acc) acc).Perm (os ++ acc) := by
  induction os generalizing acc with
  | nil => exact .refl _
  | cons o os ih =>
    exact (ih _).trans (((insertOffer_perm o acc).append_left os).trans List.perm_middle)

/-- The antenna's offer, when it has a sample and no entry (R31). -/
def offerOf (sample : PortId → Option Nat) (cs : List Candidate) (a : PortId) : Option (PortId × Nat) :=
  match entryFor cs a, sample a with
  | none, some x => some (a, x)
  | _, _ => none

theorem offerOf_eq_some {sample : PortId → Option Nat} {cs : List Candidate} {a : PortId} {o : PortId × Nat}
    (h : offerOf sample cs a = some o) : o.1 = a ∧ entryFor cs a = none ∧ sample a = some o.2 := by
  unfold offerOf at h
  split at h
  · rename_i x he hx; cases h; exact ⟨rfl, he, hx⟩
  · cases h

theorem offers_perm (sample : PortId → Option Nat) (cs : List Candidate) :
    (offers sample cs).Perm ((List.finRange 24).filterMap (offerOf sample cs)) := by
  have h := insertOffers_perm ((List.finRange 24).filterMap (offerOf sample cs)) []
  rw [List.append_nil] at h
  exact h

/-- An antenna offered has a sample and no entry in the list (R31). -/
theorem mem_offers {sample : PortId → Option Nat} {cs : List Candidate} {o : PortId × Nat}
    (h : o ∈ offers sample cs) : sample o.1 = some o.2 ∧ ∀ c ∈ cs, c.antenna ≠ o.1 := by
  obtain ⟨a, -, ha⟩ := List.mem_filterMap.mp ((offers_perm sample cs).mem_iff.mp h)
  obtain ⟨rfl, he, hx⟩ := offerOf_eq_some ha
  exact ⟨hx, entryFor_none.mp he⟩

/-- No antenna is offered twice. -/
theorem offers_nodup (sample : PortId → Option Nat) (cs : List Candidate) :
    ((offers sample cs).map (·.1)).Nodup := by
  refine ((offers_perm sample cs).map _).nodup_iff.mpr ?_
  rw [List.map_filterMap]
  refine List.Nodup.filterMap (fun a a' b hb hb' => ?_) (List.nodup_finRange 24)
  obtain ⟨o, ho, rfl⟩ := Option.map_eq_some_iff.mp hb
  obtain ⟨o', ho', e⟩ := Option.map_eq_some_iff.mp hb'
  rw [← (offerOf_eq_some ho).1, ← (offerOf_eq_some ho').1, e]

/-- One offer keeps a list lawful, and adds no antenna but its own (R37, R38). -/
theorem offer_candidatesOk {pinned : PortId → Bool} {cs : List Candidate} (h : candidatesOk pinned cs) {a : PortId}
    {x : Nat} (hx : x ≤ 127) (hnew : ∀ c ∈ cs, c.antenna ≠ a) :
    candidatesOk pinned (offer pinned a x cs) ∧ ∀ c ∈ offer pinned a x cs, c.antenna = a ∨ ∃ d ∈ cs, d.antenna = c.antenna := by
  have hin : ∀ {l : List Candidate}, l ⊆ cs → ∀ c ∈ insertCand ⟨a, 16 * x, 0, 0⟩ l,
      c.antenna = a ∨ ∃ d ∈ cs, d.antenna = c.antenna := by
    intro l hl c hc
    rcases (mem_insertCand _ _ _).mp hc with rfl | hc
    exacts [.inl rfl, .inr ⟨c, hl hc, rfl⟩]
  have hsame : ∀ c ∈ cs, c.antenna = a ∨ ∃ d ∈ cs, d.antenna = c.antenna := fun c hc => .inr ⟨c, hc, rfl⟩
  unfold offer
  split
  · rename_i hroom
    exact ⟨insertCand_candidatesOk h hroom hnew (by dsimp only; omega) (by simp), hin (List.Subset.refl _)⟩
  · split
    · exact ⟨h, hsame⟩
    · rename_i v hv
      obtain ⟨hmem, hp⟩ := victim_mem hv
      obtain ⟨hok, hroom⟩ := removeCand_candidatesOk h hmem hp
      have hsub : removeCand v.antenna cs ⊆ cs := List.filter_sublist.subset
      split
      · exact ⟨insertCand_candidatesOk hok hroom (fun d hd => hnew d (hsub hd)) (by dsimp only; omega) (by simp),
          hin hsub⟩
      · exact ⟨h, hsame⟩

/-- Offers of distinct antennas without an entry keep a list lawful (R31). -/
theorem offerAll_candidatesOk {pinned : PortId → Bool} (os : List (PortId × Nat)) {cs : List Candidate}
    (h : candidatesOk pinned cs) (hx : ∀ o ∈ os, o.2 ≤ 127) (hd : (os.map (·.1)).Nodup)
    (hnew : ∀ o ∈ os, ∀ c ∈ cs, c.antenna ≠ o.1) :
    candidatesOk pinned (os.foldl (fun acc o => offer pinned o.1 o.2 acc) cs) := by
  induction os generalizing cs with
  | nil => exact h
  | cons o os ih =>
    obtain ⟨hok, hadds⟩ := offer_candidatesOk h (hx o (.head _)) (hnew o (.head _))
    obtain ⟨hfirst, hrest⟩ := List.nodup_cons.mp hd
    refine ih hok (fun o' ho' => hx o' (.tail _ ho')) hrest fun o' ho' c hc => ?_
    rcases hadds c hc with e | ⟨d, hd, e⟩
    · rw [e]; rintro e'; exact hfirst (List.mem_map.mpr ⟨o', ho', e'.symm⟩)
    · rw [← e]; exact hnew o' (.tail _ ho') d hd

/-- The measurement update keeps a list lawful (R31). -/
theorem measureCands_candidatesOk {pinned : PortId → Bool} {cs : List Candidate} (h : candidatesOk pinned cs)
    (p : Params) (ev : List Evidence) : candidatesOk pinned (measureCands p pinned ev cs) :=
  offerAll_candidatesOk _ (kept_candidatesOk h _ _ fun _ _ => sampleOf_le)
    (fun _ ho => sampleOf_le (mem_offers ho).1) (offers_nodup _ _) fun _ ho => (mem_offers ho).2

/-! ### The entry of a Forced bridge -/

/-- A record names at most two antennas, so a full list holds an unpinned entry (R3, R38). -/
theorem victim_of_full {rd : Record} (h : rd.candsOk) (hfull : ¬rd.cands.length < Config.maxCandidates) :
    ∃ v, victim rd.pinned rd.cands = some v := by
  cases hv : victim rd.pinned rd.cands with
  | some v => exact ⟨v, rfl⟩
  | none =>
    have hsub : rd.cands.map (·.antenna) ⊆ rd.antennas := fun a ha => by
      obtain ⟨c, hc, rfl⟩ := List.mem_map.mp ha
      exact (rd.mem_antennas _).mpr (victim_none hv c hc)
    have hlen := (List.subperm_of_subset h.distinct hsub).length_le
    have htwo : rd.antennas.length ≤ 2 := by
      cases hs : rd.serving <;> cases ht : rd.target <;> simp [Record.antennas, hs, ht]
    have : Config.maxCandidates = 4 := rfl
    rw [List.length_map] at hlen
    omega

/-- An entry with quality 0 in the last place keeps a list with room lawful (R39). -/
theorem append_candidatesOk {pinned : PortId → Bool} {cs : List Candidate} (h : candidatesOk pinned cs)
    (hroom : cs.length < Config.maxCandidates) {a : PortId} (hnew : ∀ c ∈ cs, c.antenna ≠ a) :
    candidatesOk pinned (cs ++ [⟨a, 0, 0, 0⟩]) := by
  refine ⟨by simpa using hroom, ?_, ?_, fun b hb => ?_, ?_, ?_⟩
  · simpa [List.nodup_append, h.distinct] using hnew
  · simp [List.pairwise_append, h.ordered]
  · obtain ⟨c, hc, rfl⟩ := h.present b hb
    exact ⟨c, by simp [hc], rfl⟩
  · simpa [or_imp, forall_and] using h.quality
  · simpa [or_imp, forall_and] using h.absent

/-- With the entry of a Forced bridge the list is lawful for the serving antenna and the target (R39). -/
theorem insertForced_candidatesOk {rd : Record} (h : rd.candsOk) {t : PortId} {pinned : PortId → Bool}
    (hp : ∀ a, pinned a = true → rd.pinned a = true ∨ a = t) : candidatesOk pinned (insertForced rd.pinned t rd.cands) := by
  have hold : ∀ {cs : List Candidate}, candidatesOk rd.pinned cs → (∃ c ∈ cs, c.antenna = t) → candidatesOk pinned cs :=
    fun h ht => { h with present := fun a ha => (hp a ha).elim (h.present a) fun e => e ▸ ht }
  unfold insertForced
  split
  · rename_i c hc
    exact hold h ⟨c, entryFor_some hc⟩
  · rename_i hnone
    have hnew := entryFor_none.mp hnone
    split
    · rename_i hroom
      exact hold (append_candidatesOk h hroom hnew) ⟨⟨t, 0, 0, 0⟩, by simp⟩
    · rename_i hfull
      obtain ⟨v, hv⟩ := victim_of_full h hfull
      obtain ⟨hmem, hpv⟩ := victim_mem hv
      obtain ⟨hok, hroom⟩ := removeCand_candidatesOk h hmem hpv
      simp only [hv]
      exact hold (append_candidatesOk hok hroom fun c hc => hnew c (List.filter_sublist.subset hc))
        ⟨⟨t, 0, 0, 0⟩, by simp⟩

end Sys2Proof.Machine
end

section
/-! SUPPORT. What each transition of a roaming record does, as one equation or as one turn of the table (R12 to R25,
R55 to R63). -/

namespace Sys2Proof.Machine

/-! ### The shape of a record, state by state (Table 1-3) -/

theorem Record.shapeOk_free {rd : Record} (h : rd.state = .free) : rd.shapeOk ↔ rd = Record.free := by
  simp [Record.shapeOk, h]

theorem Record.shapeOk_searching {rd : Record} (h : rd.state = .searching) : rd.shapeOk ↔
    rd.id.isSome ∧ rd.lane.isSome ∧ rd.serving = none ∧ rd.target = none ∧ rd.accepted = false ∧ rd.kind = none ∧
      rd.dwellTarget = none := by
  simp [Record.shapeOk, h]

theorem Record.shapeOk_attaching {rd : Record} (h : rd.state = .attaching) : rd.shapeOk ↔
    rd.id.isSome ∧ rd.lane.isSome ∧ rd.serving = none ∧ rd.target.isSome ∧ rd.kind = none ∧ rd.dwellTarget = none := by
  simp [Record.shapeOk, h]

theorem Record.shapeOk_active {rd : Record} (h : rd.state = .active) : rd.shapeOk ↔
    rd.id.isSome ∧ rd.lane.isSome ∧ rd.serving.isSome ∧ rd.target = none ∧ rd.accepted = false ∧ rd.kind = none := by
  simp [Record.shapeOk, h]

theorem Record.shapeOk_bridging {rd : Record} (h : rd.state = .bridging) : rd.shapeOk ↔
    rd.id.isSome ∧ rd.lane.isSome ∧ rd.serving.isSome ∧ rd.target.isSome ∧ rd.target ≠ rd.serving ∧ rd.kind.isSome ∧
      rd.dwellTarget = none := by
  simp [Record.shapeOk, h]

/-- The two antennas a record names are different (R1). -/
theorem Record.shapeOk.distinct {rd : Record} (h : rd.shapeOk) {a : PortId} (hs : rd.serving = some a) :
    rd.target ≠ some a := by
  cases hst : rd.state with
  | free => rw [(Record.shapeOk_free hst).mp h] at hs; cases hs
  | searching => simp [((Record.shapeOk_searching hst).mp h).2.2.1] at hs
  | attaching => simp [((Record.shapeOk_attaching hst).mp h).2.2.1] at hs
  | active => simp [((Record.shapeOk_active hst).mp h).2.2.2.1]
  | bridging => exact fun ht => ((Record.shapeOk_bridging hst).mp h).2.2.2.2.1 (ht.trans hs.symm)

/-- How often a record names antenna p, by its two fields. -/
theorem Record.pins_eq (rd : Record) (p : PortId) :
    rd.pins p = if rd.serving = some p ∨ rd.target = some p then 1 else 0 := by
  simp [Record.pins, Record.pinned]

/-! ### Undone writes -/

@[simp] theorem State.setPort_self (s : State) (p : PortId) : s.setPort p (s.port p) = s := by
  simp [State.setPort, State.port]

@[simp] theorem State.setRecord_self (s : State) (r : RecordIx) : s.setRecord r (s.record r) = s := by
  simp [State.setRecord, State.record]

@[simp] theorem State.setRecord_setRecord (s : State) (r : RecordIx) (x y : Record) :
    (s.setRecord r x).setRecord r y = s.setRecord r y := by
  simp [State.setRecord]

@[simp] theorem State.setRecord_record_same (s : State) (r : RecordIx) (x : Record) : (s.setRecord r x).record r = x := by
  simp [State.setRecord_record]

theorem State.modRecord_eq (s : State) (r : RecordIx) (f : Record → Record) :
    s.modRecord r f = s.setRecord r (f (s.record r)) := rfl

/-- A load raised and lowered again is as it was. -/
@[simp] theorem State.lowerLoad_raiseLoad (s : State) (p : PortId) : (s.raiseLoad p).lowerLoad p = s := by
  simp [State.lowerLoad, State.raiseLoad, State.setLoad, State.load]

/-! ### Beginning an attach (R12) -/

/-- Record r as it enters ATTACHING on antenna a. -/
def Record.attachBegun (rd : Record) (a : PortId) : Record :=
  { rd with state := .attaching, target := some a, accepted := false, timer := 0 }

/-- A record whose attach the port's queue refused. -/
def Record.attachRefused (rd : Record) : Record :=
  { rd with state := .searching, target := none, accepted := false, timer := 0 }

/-- An attach whose Acquire is taken raises the load and leaves the Acquire in the queue (R12). -/
theorem beginAttach_taken {s : State} {r : RecordIx} {a : PortId} (ha : (s.port a).state = .active)
    (ho : (takeOrder (s.port a).orders .acquire (s.record r).headset).1 ≠ .refused) :
    beginAttach r a s = ((s.setRecord r ((s.record r).attachBegun a)).raiseLoad a).setPort a
      { s.port a with orders := (takeOrder (s.port a).orders .acquire (s.record r).headset).2 } := by
  have hport : (((s.modRecord r fun rd => rd.attachBegun a).raiseLoad a).port a) = s.port a := rfl
  have hreq := State.requestOrder_acquire (s := (s.modRecord r fun rd => rd.attachBegun a).raiseLoad a) (a := a)
    (hport ▸ ha) (s.record r).headset
  rw [hport] at hreq
  unfold beginAttach
  unfold Record.attachBegun at hreq
  simp only [hreq, ho, if_false]
  rfl

/-- An attach whose Acquire is refused fails at once, without a bar (R12). -/
theorem beginAttach_refused {s : State} {r : RecordIx} {a : PortId} (ha : (s.port a).state = .active)
    (ho : (takeOrder (s.port a).orders .acquire (s.record r).headset).1 = .refused) :
    beginAttach r a s =
      (s.setRecord r (s.record r).attachRefused).postFor .notice .attachFailed (some a) (s.record r) 1 := by
  have hport : (((s.modRecord r fun rd => rd.attachBegun a).raiseLoad a).port a) = s.port a := rfl
  have hreq := State.requestOrder_acquire (s := (s.modRecord r fun rd => rd.attachBegun a).raiseLoad a) (a := a)
    (hport ▸ ha) (s.record r).headset
  rw [hport, takeOrder_refused ho, ← hport, State.setPort_self, hport] at hreq
  unfold beginAttach
  unfold Record.attachBegun at hreq
  simp only [hreq, ho, if_true, State.lowerLoad_raiseLoad]
  simp [State.modRecord_eq, Record.attachRefused, FailReason.code]

/-! ### Beginning a bridge (R55, R56) -/

/-- The list of a record that begins a bridge of kind k to antenna t: a Forced one has an entry for it (R39). -/
def Record.bridgeCands (rd : Record) (k : BridgeKind) (t : PortId) : List Candidate :=
  if k = .forced then insertForced rd.pinned t rd.cands else rd.cands

/-- Record r as it enters BRIDGING to antenna t (R55). -/
def Record.bridgeBegun (rd : Record) (k : BridgeKind) (t : PortId) : Record :=
  { rd with
    state := .bridging
    target := some t
    accepted := false
    timer := 0
    kind := some k
    dwellTarget := none
    dwellCount := 0
    deferred := false
    cands := rd.bridgeCands k t }

/-- A bridge whose Acquire is taken raises the load and leaves the Acquire in the queue (R55). -/
theorem beginBridge_taken {s : State} {r : RecordIx} {t : PortId} {k : BridgeKind} (ht : (s.port t).state = .active)
    (ho : (takeOrder (s.port t).orders .acquire (s.record r).headset).1 ≠ .refused) :
    beginBridge r t k s = (true, ((s.setRecord r ((s.record r).bridgeBegun k t)).raiseLoad t).setPort t
      { s.port t with orders := (takeOrder (s.port t).orders .acquire (s.record r).headset).2 }) := by
  have hport : (((s.modRecord r fun rd => rd.bridgeBegun k t).raiseLoad t).port t) = s.port t := rfl
  have hreq := State.requestOrder_acquire (s := (s.modRecord r fun rd => rd.bridgeBegun k t).raiseLoad t) (a := t)
    (hport ▸ ht) (s.record r).headset
  rw [hport] at hreq
  unfold beginBridge
  unfold Record.bridgeBegun Record.bridgeCands at hreq
  simp only [hreq, ho, if_false]
  rfl

/-- A bridge whose Acquire is refused fails at once, without a bar (R56). -/
theorem beginBridge_refused {s : State} {r : RecordIx} {t : PortId} {k : BridgeKind} (ht : (s.port t).state = .active)
    (ho : (takeOrder (s.port t).orders .acquire (s.record r).headset).1 = .refused) :
    beginBridge r t k s = (false, reportFailed (s.record r) t .noSlot
      (s.setRecord r { (s.record r).endBridge with cands := (s.record r).bridgeCands k t })) := by
  have hport : (((s.modRecord r fun rd => rd.bridgeBegun k t).raiseLoad t).port t) = s.port t := rfl
  have hreq := State.requestOrder_acquire (s := (s.modRecord r fun rd => rd.bridgeBegun k t).raiseLoad t) (a := t)
    (hport ▸ ht) (s.record r).headset
  rw [hport, takeOrder_refused ho, ← hport, State.setPort_self, hport] at hreq
  unfold beginBridge
  unfold Record.bridgeBegun Record.bridgeCands at hreq
  simp only [hreq, ho, if_true, State.lowerLoad_raiseLoad]
  simp [State.modRecord_eq, Record.endBridge, Record.bridgeCands]

/-! ### Nothing but the table's frame -/

theorem State.post_same (s : State) (c : EventClass) (k : EventKind) (p : Option PortId) (i : Option HeadsetId)
    (n : Option LaneId) (d : Byte) : s.SameTable (s.post c k p i n d) := ⟨by simp, by simp, by simp, by simp, by simp⟩

theorem State.postFor_same (s : State) (c : EventClass) (k : EventKind) (p : Option PortId) (rd : Record) (d : Byte) :
    s.SameTable (s.postFor c k p rd d) := s.post_same ..

theorem State.bumpRoam_same (s : State) (k : RoamCounter) : s.SameTable (s.bumpRoam k) :=
  ⟨rfl, rfl, rfl, rfl, fun _ => rfl⟩

theorem reportFailed_same (rd : Record) (t : PortId) (why : FailReason) (s : State) :
    s.SameTable (reportFailed rd t why s) := (s.bumpRoam_same _).trans (State.postFor_same ..)

/-- A change outside the table leaves a treatment as it is. -/
theorem State.Treated.same {s t u : State} {r : RecordIx} {rd' : Record} {L : List PortId} (h : s.Treated t r rd' L)
    (h' : t.SameTable u) : s.Treated u r rd' L where
  records := h'.records.trans h.records
  bindings := h'.bindings.trans h.bindings
  pending := h'.pending.trans h.pending
  states p := (h'.states p).trans (h.states p)
  loads hs p := (h'.load p).trans (h.loads hs p)

/-- Loads lowered before record r changes: the table is as it was but for the loads of L. -/
theorem State.Treated.setRecord {s t : State} {r : RecordIx} {L : List PortId} (h : s.Treated t r (s.record r) L)
    (rd' : Record) : s.Treated (t.setRecord r rd') r rd' L where
  records := by simp [State.setRecord, h.records]
  bindings := h.bindings
  pending := h.pending
  states := h.states
  loads := h.loads

theorem State.treated_self (s : State) (r : RecordIx) : s.Treated s r (s.record r) [] :=
  ⟨(vset_self s.records r).symm, rfl, rfl, fun _ => rfl, fun _ _ => by simp⟩

/-- The record to be treated stands unchanged while only loads are lowered. -/
theorem State.Treated.record_self {s t : State} {r : RecordIx} {L : List PortId}
    (h : s.Treated t r (s.record r) L) : t.record r = s.record r := by simp [h.record]

/-- Loads lowered before record r changes by f. -/
theorem State.Treated.modRecord {s t : State} {r : RecordIx} {L : List PortId} (h : s.Treated t r (s.record r) L)
    (f : Record → Record) : s.Treated (t.modRecord r f) r (f (s.record r)) L := by
  rw [State.modRecord_eq, h.record_self]; exact h.setRecord _

/-- A Drop at one more antenna lowers one more load. -/
theorem State.Treated.drop {s t : State} {r : RecordIx} {rd' : Record} {L : List PortId} (h : s.Treated t r rd' L)
    (p : Option PortId) (x : HeadsetId) (hp : (s.record r).shapeOk → ∀ a ∈ L, p ≠ some a) :
    s.Treated (t.dropAndLower p x) r rd' (L ++ p.toList) where
  records := by rw [State.dropAndLower_records, h.records]
  bindings := by rw [State.dropAndLower_bindings, h.bindings]
  pending := by rw [State.dropAndLower_pending, h.pending]
  states q := by rw [State.dropAndLower_state, h.states]
  loads hs q := by
    rw [State.dropAndLower_load, h.loads hs]
    by_cases hq : q ∈ L
    · have : ¬ p = some q := hp hs q hq
      simp [hq, this]
    · simp [hq]

/-! ### Turns -/

/-- Record r comes to name the ACTIVE port a, which has room, and the load of a is raised. -/
theorem State.turn_gain {s : State} {r : RecordIx} {a : PortId} {rd' : Record} {x : Port}
    (hx : x.state = (s.port a).state) (hid : rd'.id = (s.record r).id) (hlane : rd'.lane = (s.record r).lane)
    (hshape : (s.record r).shapeOk → rd'.shapeOk) (hlist : (s.record r).candsOk → rd'.candsOk)
    (hpins : (s.record r).shapeOk → ∀ p, rd'.pins p = (s.record r).pins p + if p = a then 1 else 0)
    (hact : (s.port a).state = .active) (hroom : s.load a < Config.maxLoad) :
    s.Turn (((s.setRecord r rd').raiseLoad a).setPort a x) r where
  others q hq := by simp [State.setRecord_record, hq]
  held := .inl ⟨by simpa, by simpa, rfl⟩
  pending := rfl
  states q := by
    rw [State.setPort_port]
    split
    · rename_i h; rw [hx, h]
    · rfl
  shape := by simpa using hshape
  listed := by simpa using hlist
  loads hs _ p := by
    have := hpins hs p
    by_cases hp : p = a
    · subst hp; simp [State.raiseLoad_load, this]
      omega
    · simp [State.raiseLoad_load, hp, this]
  gained hs _ p h0 h1 := by
    have := hpins hs p
    by_cases hp : p = a
    · subst hp; exact ⟨hact, hroom⟩
    · simp [hp, h0] at this; simp [this] at h1

theorem State.inService_active {s : State} {t : PortId} (h : s.inService t = true) : (s.port t).state = .active := by
  simp only [State.inService, decide_eq_true_eq] at h; exact h.1

/-- A SEARCHING record that begins an attach makes a turn (R12). -/
theorem beginAttach_turn {s : State} {r : RecordIx} {a : PortId} (hst : (s.record r).state = .searching)
    (hin : s.inService a = true) (hroom : s.load a < Config.maxLoad)
    (hlist : ∃ c ∈ (s.record r).cands, c.antenna = a) : s.Turn (beginAttach r a s) r := by
  have ha := State.inService_active hin
  have hsh := Record.shapeOk_searching hst
  by_cases ho : (takeOrder (s.port a).orders .acquire (s.record r).headset).1 = .refused
  · rw [beginAttach_refused ha ho]
    refine (((s.treated_self r).setRecord _).same (State.postFor_same ..)).turn rfl rfl ?_ ?_ ?_
    · intro hs; simp_all [Record.shapeOk, Record.attachRefused]
    · exact fun h => h.mono fun b => by simp [Record.attachRefused]; exact .inl
    · intro hs p; simp_all [Record.attachRefused, Record.pins_eq]
  · rw [beginAttach_taken ha ho]
    refine State.turn_gain rfl rfl rfl ?_ ?_ ?_ ha hroom
    · intro hs; simp_all [Record.shapeOk, Record.attachBegun]
    · intro h
      refine { h with present := fun b hb => ?_ }
      rcases (Record.pinned_iff _ b).mp hb with hb | hb
      · exact h.present b (by simpa using .inl hb)
      · cases hb; exact hlist
    · intro hs p
      obtain ⟨-, -, hn, hn', -⟩ := hsh.mp hs
      simp [Record.attachBegun, Record.pins_eq, hn, hn', eq_comm]

theorem Record.bridgeCands_ok {rd : Record} (h : rd.candsOk) {k : BridgeKind} {t : PortId} {pinned : PortId → Bool}
    (hk : k = .forced ∨ ∃ c ∈ rd.cands, c.antenna = t) (hp : ∀ a, pinned a = true → rd.pinned a = true ∨ a = t) :
    candidatesOk pinned (rd.bridgeCands k t) := by
  unfold Record.bridgeCands
  split
  · exact insertForced_candidatesOk h hp
  · rename_i hnf
    have hc := hk.resolve_left hnf
    exact { h with present := fun a ha => (hp a ha).elim (h.present a) fun e => e ▸ hc }

/-- An ACTIVE record that begins a bridge to another antenna makes a turn (R55, R56). -/
theorem beginBridge_turn {s : State} {r : RecordIx} {t : PortId} {k : BridgeKind} (hst : (s.record r).state = .active)
    (hin : s.inService t = true) (hroom : s.load t < Config.maxLoad) (hne : (s.record r).serving ≠ some t)
    (hk : k = .forced ∨ ∃ c ∈ (s.record r).cands, c.antenna = t) : s.Turn (beginBridge r t k s).2 r := by
  have ha := State.inService_active hin
  have hsh := Record.shapeOk_active hst
  by_cases ho : (takeOrder (s.port t).orders .acquire (s.record r).headset).1 = .refused
  · rw [beginBridge_refused ha ho]
    refine (((s.treated_self r).setRecord _).same (reportFailed_same ..)).turn rfl rfl ?_ ?_ ?_
    · intro hs; simp_all [Record.shapeOk, Record.endBridge]
    · exact fun h => Record.bridgeCands_ok h hk fun b => by simp [Record.endBridge]; exact fun e => .inl (.inl e)
    · intro hs p; simp_all [Record.endBridge, Record.pins_eq]
  · rw [beginBridge_taken ha ho]
    refine State.turn_gain rfl rfl rfl ?_ ?_ ?_ ha hroom
    · intro hs
      obtain ⟨hi, hl, hsv, -⟩ := hsh.mp hs
      exact (Record.shapeOk_bridging rfl).mpr ⟨hi, hl, hsv, rfl, fun e => hne e.symm, rfl, rfl⟩
    · exact fun h => Record.bridgeCands_ok h hk fun b => by
        simp only [Record.pinned_iff, Record.bridgeBegun, Option.some.injEq]
        exact fun e => e.elim (fun e => .inl (.inl e)) fun e => .inr e.symm
    · intro hs p
      obtain ⟨-, -, -, hn, -⟩ := hsh.mp hs
      simp only [Record.bridgeBegun, Record.pins_eq, hn]
      grind

/-- A completed attach makes a turn (R15). -/
theorem completeAttach_turn {s : State} {r : RecordIx} {a : PortId} (hst : (s.record r).state = .attaching)
    (ht : (s.record r).target = some a) : s.Turn (completeAttach r a s) r := by
  have hsh := Record.shapeOk_attaching hst
  unfold completeAttach
  refine (((s.treated_self r).modRecord _).same ((State.bumpRoam_same ..).trans (State.postFor_same ..))).turn
    rfl rfl ?_ ?_ ?_
  · intro hs; simp_all [Record.shapeOk]
  · exact fun h => h.mono fun b => by simp [ht]; exact .inr
  · intro hs p; simp_all [Record.pins_eq]

/-- A completed bridge makes a turn (R59). -/
theorem completeBridge_turn {s : State} {r : RecordIx} {x t : PortId} (hst : (s.record r).state = .bridging)
    (hx : (s.record r).serving = some x) (ht : (s.record r).target = some t) : s.Turn (completeBridge r x t s) r := by
  have hsh := Record.shapeOk_bridging hst
  have hdrop := (s.treated_self r).drop (some x) (s.record r).headset (by simp)
  unfold completeBridge
  refine ((hdrop.modRecord _).same ((State.bumpRoam_same ..).trans (State.postFor_same ..))).turn rfl rfl ?_ ?_ ?_
  · intro hs; simp_all [Record.shapeOk]
  · exact fun h => h.mono fun b => by simp only [Record.pinned_iff, ht]; exact fun e => .inr (by simpa using e)
  · intro hs p
    have hne := hs.distinct hx
    simp only [Record.pins_eq, hx, ht] at *
    grind

/-- A failed attach makes a turn, the target's load lowered before (R14, R16, R24). -/
theorem failAttach_turn {s t : State} {r : RecordIx} {a : PortId} (why : FailReason)
    (h : s.Treated t r (s.record r) [a]) (hst : (s.record r).state = .attaching)
    (ht : (s.record r).target = some a) : s.Turn (failAttach r a why t) r := by
  have hsh := Record.shapeOk_attaching hst
  unfold failAttach
  refine ((h.modRecord _).same (State.postFor_same ..)).turn rfl rfl ?_ ?_ ?_
  · intro hs; simp_all [Record.shapeOk]
  · exact fun hc => candidatesOk.barEntry hc _ _ fun b => by simp; exact .inl
  · intro hs p
    obtain ⟨-, -, hn, -⟩ := hsh.mp hs
    simp [Record.pins_eq, hn, ht, eq_comm]

/-- A failed bridge makes a turn, the target's load lowered before (R61). -/
theorem failBridge_turn {s t : State} {r : RecordIx} {a : PortId} (why : FailReason)
    (h : s.Treated t r (s.record r) [a]) (hst : (s.record r).state = .bridging)
    (ht : (s.record r).target = some a) : s.Turn (failBridge r a why t) r := by
  have hsh := Record.shapeOk_bridging hst
  unfold failBridge
  refine ((h.modRecord _).same (reportFailed_same ..)).turn rfl rfl ?_ ?_ ?_
  · intro hs; simp_all [Record.shapeOk, Record.endBridge]
  · exact fun hc => candidatesOk.barEntry hc _ _ fun b => by simp [Record.endBridge]; exact .inl
  · intro hs p
    have hne : ∀ b, (s.record r).serving = some b → (s.record r).target ≠ some b := fun _ => hs.distinct
    simp only [Record.pins_eq, Record.endBridge, ht] at *
    grind

/-- A promotion makes a turn, the load of the port that leaves lowered before (R23). -/
theorem promote_turn {s u : State} {r : RecordIx} {p t : PortId} (h : s.Treated u r (s.record r) [p])
    (hst : (s.record r).state = .bridging) (hp : (s.record r).serving = some p)
    (ht : (s.record r).target = some t) : s.Turn (promote r p t u) r := by
  have hsh := Record.shapeOk_bridging hst
  unfold promote
  refine ((h.modRecord _).same ((State.bumpRoam_same ..).trans (State.postFor_same ..))).turn rfl rfl ?_ ?_ ?_
  · intro hs; simp_all [Record.shapeOk]
  · exact fun hc => hc.mono fun b => by simp only [Record.pinned_iff, ht]; exact fun e => .inr (by simpa using e)
  · intro hs q
    have hne := hs.distinct hp
    simp only [Record.pins_eq, hp, ht] at *
    grind

/-- A record gives up every antenna it names. -/
theorem loseLink_turn {s t : State} {r : RecordIx} {L : List PortId} (h : s.Treated t r (s.record r).loseLink L)
    (hst : (s.record r).state = .active ∨ (s.record r).state = .bridging)
    (hL : (s.record r).shapeOk → ∀ p, p ∈ L ↔ (s.record r).pinned p = true) : s.Turn t r := by
  refine h.turn rfl rfl ?_ ?_ ?_
  · intro hs; rcases hst with hst | hst <;> simp_all [Record.shapeOk, Record.loseLink]
  · exact fun hc => hc.mono fun b => by simp [Record.loseLink]
  · intro hs p
    have : (s.record r).loseLink.pins p = 0 := by simp [Record.pins, Record.pinned, Record.loseLink]
    rw [this, Record.pins]
    simp only [hL hs p, Nat.zero_add]

/-- The Drops at every antenna a record names (R20, R25). -/
theorem State.treated_dropBoth (s : State) (r : RecordIx) (x : HeadsetId) :
    s.Treated ((s.dropAndLower (s.record r).serving x).dropAndLower (s.record r).target x) r (s.record r)
      (s.record r).antennas :=
  ((s.treated_self r).drop _ x (by simp)).drop _ x fun hs a ha => hs.distinct (by simpa using ha)

/-- Link loss makes a turn (R20). -/
theorem linkLoss_turn {s : State} {r : RecordIx}
    (hst : (s.record r).state = .active ∨ (s.record r).state = .bridging) : s.Turn (linkLoss r s) r :=
  loseLink_turn (((s.treated_dropBoth r (s.record r).headset).modRecord _).same (State.postFor_same ..)) hst
    fun _ p => (s.record r).mem_antennas p

/-- A record carried by a port that leaves ACTIVE loses its antennas in a turn (R23). -/
theorem loseServing_turn {s u : State} {r : RecordIx} {p : PortId} (h : s.Treated u r (s.record r) [p])
    (hst : (s.record r).state = .active ∨ (s.record r).state = .bridging) (hp : (s.record r).serving = some p) :
    s.Turn (loseServing r p u) r := by
  have hdrop := h.drop (s.record r).target (s.record r).headset fun hs a ha => hs.distinct (by simp_all)
  have heq := h.record_self
  refine loseLink_turn (L := [p] ++ (s.record r).target.toList) (State.Treated.same ?_ (State.postFor_same ..)) hst
    fun _ q => by rw [← Record.mem_antennas]; simp [Record.antennas, hp]
  rw [heq]
  exact hdrop.modRecord _

/-- A record freed with its antennas dropped makes a turn: its lane is returned (R22, R84). -/
theorem freeRecord_turn {s t : State} {r : RecordIx} {rd : Record} {L : List PortId} (h : s.Treated t r rd L)
    (hlane : rd.lane = (s.record r).lane)
    (hL : (s.record r).shapeOk → ∀ p, p ∈ L ↔ (s.record r).pinned p = true) : s.Turn (t.freeRecord r) r := by
  have hrec : ∀ q, (t.freeRecord r).record q = if q = r then Record.free else s.record q := fun q => by
    unfold State.freeRecord
    split <;> by_cases hq : q = r <;> simp [State.setRecord_record, h.record, hq]
  have hfree : (t.freeRecord r).record r = Record.free := by simp [hrec]
  have hload : ∀ p, (t.freeRecord r).load p = t.load p := fun p => by unfold State.freeRecord; split <;> rfl
  exact
    { others := fun q hq => by simp [hrec, hq]
      held := .inr ⟨by rw [hfree]; rfl, by rw [hfree]; rfl, fun m => by
        have hb : ∀ m, t.binding m = s.binding m := fun m => by simp [State.binding, h.bindings]
        have hl : (t.record r).lane = (s.record r).lane := by simp [h.record, hlane]
        unfold State.freeRecord
        split
        · rename_i hn; rw [← hl, hn]; simp [hb]
        · rename_i n hn; rw [← hl, hn]
          simp [State.returnLane_binding, hb, eq_comm]⟩
      pending := by rw [← h.pending]; unfold State.freeRecord; split <;> rfl
      states := fun p => by rw [← h.states p]; unfold State.freeRecord; split <;> rfl
      shape := fun _ => by rw [hfree]; simp [Record.shapeOk, Record.free]
      listed := fun _ => by rw [hfree]; exact candidatesOk_nil fun a => by simp [Record.pinned, Record.free]
      loads := fun hs hc p => by
        have h1 := h.loads hs p
        have h2 := hc p
        have h3 : (Record.free).pins p = 0 := by simp [Record.pins, Record.pinned, Record.free]
        have h4 : (s.record r).pins p = if p ∈ L then 1 else 0 := by simp only [Record.pins, hL hs p]
        rw [hload, hfree, h3]; omega
      gained := fun _ _ p _ h1 => by
        rw [hfree] at h1; simp [Record.pins, Record.pinned, Record.free] at h1 }

end Sys2Proof.Machine
end

section
/-! SUPPORT. Every command runs by steps of the table: the stages of a close, the departure of a port, Admit, Release,
Restart and every other command (`exec_tableRun`). -/

namespace Sys2Proof.Machine

/-! ### Changes outside the table -/

theorem State.setLane_same (s : State) (l : CtlLane) (c : ControlLane) : s.SameTable (s.setLane l c) := by
  cases l <;> exact ⟨rfl, rfl, rfl, rfl, fun _ => rfl⟩

theorem State.respond_same (s : State) (l : CtlLane) (x : Response) : s.SameTable (s.respond l x) := s.setLane_same ..

theorem State.bumpCtl_same (s : State) (k : CtlCounter) : s.SameTable (s.bumpCtl k) :=
  ⟨rfl, rfl, rfl, rfl, fun _ => rfl⟩

theorem State.shedOn_same (s : State) (l : CtlLane) (tag : Byte) : s.SameTable (s.shedOn l tag) :=
  (s.setLane_same ..).trans (State.bumpCtl_same ..)

theorem State.report_same (s : State) (l : CtlLane) (x : Response) : s.SameTable (s.report l x) := by
  unfold State.report; split
  exacts [s.shedOn_same .., s.respond_same ..]

/-- A port changed in anything but its state. -/
theorem State.modPort_same (s : State) (p : PortId) (f : Port → Port) (hf : (f (s.port p)).state = (s.port p).state) :
    s.SameTable (s.modPort p f) :=
  ⟨rfl, rfl, rfl, rfl, fun q => by
    rw [State.modPort_port]; split
    · rename_i h; rw [hf, h]
    · rfl⟩

theorem State.bumpPort_same (s : State) (p : PortId) (k : PortCounter) : s.SameTable (s.bumpPort p k) :=
  s.modPort_same p _ rfl

theorem State.bumpLane_same (s : State) (n : LaneId) (k : LaneCounter) : s.SameTable (s.bumpLane n k) :=
  ⟨rfl, rfl, rfl, rfl, fun _ => rfl⟩

theorem State.setHold_same (s : State) (n : LaneId) (h : Hold) : s.SameTable (s.setHold n h) :=
  ⟨rfl, rfl, rfl, rfl, fun _ => rfl⟩

theorem State.requestOrder_same (s : State) (p : PortId) (k : OrderKind) (x : HeadsetId) :
    s.SameTable (s.requestOrder p k x).2 :=
  ⟨by simp, by simp, s.requestOrder_keeps (·.loads) p k x fun _ _ _ => rfl, by simp, by simp⟩

theorem State.removeRegistrations_same (s : State) (leaves : Registration → Bool) :
    s.SameTable (s.removeRegistrations leaves) := by
  obtain ⟨_, h⟩ := s.removeRegistrations_frame leaves
  rw [h]; exact ⟨rfl, rfl, rfl, rfl, fun _ => rfl⟩

/-- A pass over a list that leaves the table alone at every member leaves it alone. -/
theorem State.SameTable.foldl {α : Type} {f : State → α → State} (hf : ∀ (s : State) (a : α), s.SameTable (f s a))
    (l : List α) (s : State) : s.SameTable (l.foldl f s) := by
  induction l generalizing s with
  | nil => exact .refl s
  | cons a l ih => exact (hf s a).trans (ih (f s a))

/-- Every port changed in anything but its state. -/
theorem State.vmapPorts_same (s : State) (f : Port → Port) (hf : ∀ q, (f q).state = q.state) :
    s.SameTable { s with ports := vmap f s.ports } :=
  ⟨rfl, rfl, rfl, rfl, fun p => by
    show ((vmap f s.ports).get p).state = _
    rw [vmap_get, hf]; rfl⟩

/-! ### The stages of a close -/

/-- Stage 1 makes a turn (R15, R59). -/
theorem completionStage_turn (ev : List Evidence) (r : RecordIx) (s : State) : s.Turn (completionStage ev r s) r := by
  have hrefl := (State.SameTable.refl s).turn r
  unfold completionStage
  dsimp only
  split
  · exact hrefl
  · rename_i t ht
    split
    · split
      · rename_i hst; exact completeAttach_turn hst ht
      · rename_i x hst hx; exact completeBridge_turn hst hx ht
      · exact hrefl
    · exact hrefl

/-- A record changed in timers and counts alone makes a turn. -/
theorem State.turn_counts {s : State} {r : RecordIx} {rd' : Record} (hst : (s.record r).state ≠ .free)
    (h : rd' = { s.record r with
      timer := rd'.timer, dwellCount := rd'.dwellCount, deferred := rd'.deferred, miss := rd'.miss,
      orphan := rd'.orphan }) : s.Turn (s.setRecord r rd') r := by
  rw [h]
  refine State.turn_setRecord rfl rfl rfl rfl (fun hs => ?_) fun h => h
  cases hst' : (s.record r).state <;> simp_all [Record.shapeOk]

/-- Stage 2 makes a turn (R31). -/
theorem measureStage_turn (ev : List Evidence) {r : RecordIx} {s : State} (hst : (s.record r).state ≠ .free) :
    s.Turn (measureStage ev r s) r := by
  unfold measureStage
  rw [State.modRecord_eq]
  refine State.turn_setRecord rfl rfl rfl rfl (fun hs => ?_) fun h => measureCands_candidatesOk h _ _
  cases hst' : (s.record r).state <;> simp_all [Record.shapeOk]

theorem Record.carried_iff (rd : Record) : rd.carried = true ↔ rd.state = .active ∨ rd.state = .bridging := by
  simp [Record.carried]

/-- Stage 3 makes a turn (R19, R20). -/
theorem missStage_turn (heard : Bool) (r : RecordIx) (s : State) : s.Turn (missStage heard r s) r := by
  unfold missStage
  dsimp only
  split
  · rename_i hc
    have hst := (Record.carried_iff _).mp hc
    generalize (if heard = true then 0 else (s.record r).missRaised) = n
    have hmiss : s.Turn (s.modRecord r fun rd => { rd with miss := n }) r :=
      State.turn_counts (by rcases hst with h | h <;> simp [h]) rfl
    split
    · exact hmiss.trans (linkLoss_turn (by simpa [State.modRecord_record] using hst))
    · exact hmiss
  · exact (State.SameTable.refl s).turn r

/-- Stage 4 leaves the table alone (R88). -/
theorem voiceStage_same (before : Record) (ev : List Evidence) (r : RecordIx) (s : State) :
    s.SameTable (voiceStage before ev r s) := by
  unfold voiceStage
  dsimp only
  split
  · split
    · exact ⟨rfl, rfl, rfl, rfl, fun _ => rfl⟩
    · exact .refl s
  · exact .refl s

/-- The bridge timer makes a turn (R60, R61). -/
theorem bridgeTimerStage_turn (r : RecordIx) (s : State) : s.Turn (bridgeTimerStage r s).2 r := by
  unfold bridgeTimerStage
  dsimp only
  split
  · rename_i t hst ht
    have hraised : s.Turn (s.modRecord r fun rd => { rd with timer := (s.record r).timer + 1 }) r :=
      State.turn_counts (by simp [hst]) rfl
    split
    · exact hraised.trans (failBridge_turn (a := t) .timeout ((State.treated_self _ r).drop (some t) _ (by simp))
        (by simpa [State.modRecord_eq] using hst) (by simpa [State.modRecord_eq] using ht))
    · exact hraised
  · exact (State.SameTable.refl s).turn r

/-- The attach timer makes a turn (R16). -/
theorem attachTimerStage_turn (r : RecordIx) (s : State) : s.Turn (attachTimerStage r s).2 r := by
  unfold attachTimerStage
  dsimp only
  split
  · rename_i a hst ht
    have hraised : s.Turn (s.modRecord r fun rd => { rd with timer := (s.record r).timer + 1 }) r :=
      State.turn_counts (by simp [hst]) rfl
    split
    · exact hraised.trans (failAttach_turn (a := a) .timeout ((State.treated_self _ r).drop (some a) _ (by simp))
        (by simpa [State.modRecord_eq] using hst) (by simpa [State.modRecord_eq] using ht))
    · exact hraised
  · exact (State.SameTable.refl s).turn r

theorem Record.orphaned_iff (rd : Record) : rd.orphaned = true ↔ rd.state = .searching ∨ rd.state = .attaching := by
  simp [Record.orphaned]

/-- A record without its carriage has no serving antenna (Table 1-3). -/
theorem Record.shapeOk.serving_of_orphaned {rd : Record} (h : rd.shapeOk)
    (hst : rd.state = .searching ∨ rd.state = .attaching) : rd.serving = none := by
  rcases hst with hst | hst
  · exact ((Record.shapeOk_searching hst).mp h).2.2.1
  · exact ((Record.shapeOk_attaching hst).mp h).2.2.1

/-- The orphan timer makes a turn (R21, R22). -/
theorem orphanStage_turn (r : RecordIx) (s : State) : s.Turn (orphanStage r s) r := by
  unfold orphanStage
  dsimp only
  split
  · rename_i ho
    have hst := (Record.orphaned_iff _).mp ho
    have hraised : s.Turn (s.modRecord r fun rd => { rd with orphan := (s.record r).orphan + 1 }) r :=
      State.turn_counts (by rcases hst with h | h <;> simp [h]) rfl
    split
    · have hdrop := (State.treated_self (s.modRecord r fun rd => { rd with orphan := (s.record r).orphan + 1 }) r).drop
        (s.record r).target (s.record r).headset (by simp)
      have hfree := freeRecord_turn hdrop rfl fun hs p => by
        rw [← Record.mem_antennas]
        have := hs.serving_of_orphaned (by simpa [State.modRecord_eq] using hst)
        simp [Record.antennas, this]
        simp [State.modRecord_eq]
      exact hraised.trans (hfree.trans ((State.postFor_same ..).turn r))
    · exact hraised
  · exact (State.SameTable.refl s).turn r

/-- Bar timers changed: a turn (R17, R63). -/
theorem turn_bars (r : RecordIx) (s : State) (f : Candidate → Candidate)
    (hf : ∀ c, (f c).antenna = c.antenna ∧ (f c).q = c.q ∧ (f c).absent = c.absent) :
    s.Turn (s.modRecord r fun rd => { rd with cands := rd.cands.map f }) r := by
  rw [State.modRecord_eq]
  refine State.turn_setRecord rfl rfl rfl rfl (fun hs => ?_) fun h => h.of_map f hf fun _ h => h
  cases hst : (s.record r).state
  case free => rw [(Record.shapeOk_free hst).mp hs]; simp [Record.shapeOk, Record.free]
  all_goals simp_all [Record.shapeOk]

/-- The bar timers make a turn (R17). -/
theorem barStage_turn (barred : Option PortId) (r : RecordIx) (s : State) : s.Turn (barStage barred r s) r :=
  turn_bars r s _ fun c => by unfold lowerBar; split <;> simp

/-- Stage 5 makes a turn (R8). -/
theorem timerStage_turn (r : RecordIx) (s : State) : s.Turn (timerStage r s) r :=
  (bridgeTimerStage_turn r s).trans ((attachTimerStage_turn r _).trans ((orphanStage_turn r _).trans (barStage_turn _ r _)))

/-! ### The decision -/

theorem State.usable_iff (s : State) (c : Candidate) :
    s.usable c = true ↔ s.inService c.antenna = true ∧ s.load c.antenna < Config.maxLoad ∧ c.bar = 0 := by
  simp [State.usable]

/-- The choice for a handoff is an entry of the list whose antenna is usable and not the serving one (R42, R46, R49). -/
theorem handoffChoice_some {s : State} {rd : Record} {x : PortId} {c : Candidate} (h : handoffChoice s rd x = some c) :
    c ∈ rd.cands ∧ s.inService c.antenna = true ∧ s.load c.antenna < Config.maxLoad ∧ rd.serving ≠ some c.antenna := by
  have hp := List.find?_some h
  simp only [Bool.and_eq_true, State.usableFor, decide_eq_true_eq] at hp
  obtain ⟨⟨hu, hne⟩, -⟩ := hp
  obtain ⟨hin, hroom, -⟩ := (s.usable_iff c).mp hu
  exact ⟨List.mem_of_find?_eq_some h, hin, hroom, hne⟩

/-- An ACTIVE record changed in its dwell fields alone makes a turn (R47). -/
theorem State.turn_dwell {s : State} {r : RecordIx} {rd' : Record} (hst : (s.record r).state = .active)
    (h : rd' = { s.record r with
      dwellTarget := rd'.dwellTarget, dwellCount := rd'.dwellCount, deferred := rd'.deferred }) :
    s.Turn (s.setRecord r rd') r := by
  rw [h]
  refine State.turn_setRecord rfl rfl rfl rfl (fun hs => ?_) fun h => h
  simp_all [Record.shapeOk]

theorem Record.countDwell_eq (rd : Record) (b : PortId) (need : Nat) :
    rd.countDwell b need = { rd with
      dwellTarget := (rd.countDwell b need).dwellTarget
      dwellCount := (rd.countDwell b need).dwellCount
      deferred := (rd.countDwell b need).deferred } := by
  unfold Record.countDwell; split <;> rfl

/-- The handoff test makes a turn (R46 to R48). -/
theorem handoffTest_turn {r : RecordIx} {s : State} (x : PortId) (hst : (s.record r).state = .active) :
    s.Turn (handoffTest r x s) r := by
  have hclear : s.Turn (s.setRecord r (s.record r).clearDwell) r := State.turn_dwell hst rfl
  unfold handoffTest
  dsimp only
  split
  · exact hclear
  · rename_i b hb
    obtain ⟨hmem, hin, hroom, hne⟩ := handoffChoice_some hb
    split
    · have heq := (s.record r).countDwell_eq b.antenna
        (requiredDwell s.params.dwell (s.neighbour x b.antenna).relation)
      generalize (s.record r).countDwell b.antenna _ = rd' at heq ⊢
      have hcount : s.Turn (s.setRecord r rd') r := State.turn_dwell hst heq
      split
      · split
        · exact State.turn_dwell hst (by conv_lhs => rw [heq])
        · refine hcount.trans (beginBridge_turn ?_ hin hroom ?_ (.inr ⟨b, ?_, rfl⟩)) <;>
            rw [State.setRecord_record_same, heq]
          exacts [hst, hne, hmem]
      · exact hcount
    · exact hclear

/-- The decision of an ACTIVE record makes a turn (R45, R49). -/
theorem decideActive_turn {r : RecordIx} {s : State} (x : PortId) (hst : (s.record r).state = .active) :
    s.Turn (decideActive r x s) r := by
  unfold decideActive
  dsimp only
  split
  · split
    · rename_i c hc
      obtain ⟨hmem, hin, hroom, hne⟩ := handoffChoice_some hc
      have hpost : s.SameTable ((s.bumpRoam .rescues).postFor .notice .rescueStarted (some c.antenna) (s.record r) 0) :=
        (State.bumpRoam_same ..).trans (State.postFor_same ..)
      refine (hpost.turn r).trans (beginBridge_turn ?_ ?_ ?_ ?_ (.inr ⟨c, ?_, rfl⟩))
      · simpa using hst
      · simpa [State.inService] using hin
      · simpa using hroom
      · simpa using hne
      · simpa using hmem
    · exact handoffTest_turn x hst
  · exact handoffTest_turn x hst

/-- The search of a SEARCHING record makes a turn (R18, R41). -/
theorem searchStage_turn {r : RecordIx} {s : State} (hst : (s.record r).state = .searching) :
    s.Turn (searchStage r s) r := by
  unfold searchStage
  split
  · rename_i c hc
    have hp := List.find?_some hc
    simp only [Bool.and_eq_true] at hp
    obtain ⟨hin, hroom, -⟩ := (s.usable_iff c).mp hp.1
    exact beginAttach_turn hst hin hroom ⟨c, List.mem_of_find?_eq_some hc, rfl⟩
  · exact (State.SameTable.refl s).turn r

/-- Stage 6 makes a turn (R45). -/
theorem decisionStage_turn (r : RecordIx) (s : State) : s.Turn (decisionStage r s) r := by
  unfold decisionStage
  split
  · rename_i x hst _; exact decideActive_turn x hst
  · rename_i hst; exact searchStage_turn hst
  · exact (State.SameTable.refl s).turn r

/-! ### The whole close -/

/-- Stage 1 leaves a record in use in use. -/
theorem completionStage_inUse (ev : List Evidence) {r : RecordIx} {s : State} (hst : (s.record r).state ≠ .free) :
    ((completionStage ev r s).record r).state ≠ .free := by
  unfold completionStage
  dsimp only
  repeat' split
  all_goals simp [completeAttach, completeBridge, State.modRecord_eq, hst]

/-- The treatment of one record by a close makes a turn (R8). -/
theorem closeRecord_turn (ev : List Evidence) (s : State) (r : RecordIx) : s.Turn (closeRecord ev s r) r := by
  unfold closeRecord
  dsimp only
  split
  · exact (State.SameTable.refl s).turn r
  · rename_i hst
    generalize hmine : evidenceOf (s.record r) ev = mine
    have h2 := (completionStage_turn mine r s).trans (measureStage_turn mine (completionStage_inUse mine hst))
    generalize measureStage mine r (completionStage mine r s) = s₂ at h2 ⊢
    have h3 := h2.trans (missStage_turn (heardCycle mine (s₂.record r)) r s₂)
    have h5 := (h3.trans ((voiceStage_same (s.record r) mine r _).turn r)).trans (timerStage_turn r _)
    split
    · exact h5
    · exact h5.trans (decisionStage_turn r _)

theorem handIntake_same (g : CycleNo) (heard : List Heard) (s : State) : s.SameTable (handIntake g heard s) := by
  unfold handIntake; split
  · exact .refl s
  · exact ⟨rfl, rfl, rfl, rfl, fun _ => rfl⟩

theorem consumeAll_same (g : CycleNo) (s : State) : s.SameTable (consumeAll g s) := by
  have h := s.vmapPorts_same (Port.consume g) fun q => by unfold Port.consume; split <;> rfl
  exact ⟨rfl, rfl, rfl, rfl, h.states⟩

/-- A close runs (R8, R9). -/
theorem makePendingClose_run (s : State) : s.TableRun (makePendingClose s) := by
  unfold makePendingClose
  split
  · exact .refl s
  · rename_i c _
    have h0 : s.SameTable { s with pendingClose := none } := ⟨rfl, rfl, rfl, rfl, fun _ => rfl⟩
    have hpass := State.TableRun.foldl (fun u r => (closeRecord_turn (closeEvidence { s with pendingClose := none }) u r).run)
      (List.finRange 192) { s with pendingClose := none }
    exact h0.run.trans (hpass.trans ((handIntake_same ..).trans (consumeAll_same ..)).run)

/-! ### Acquire Results -/

/-- The record found holds the ID and is in use. -/
theorem State.findRecord_some {s : State} {x : HeadsetId} {r : RecordIx} (h : s.findRecord x = some r) :
    (s.record r).state ≠ .free ∧ (s.record r).id = some x := by
  simpa using List.find?_some h

/-- An Acquire Result runs (R13, R14, R57, R58). -/
theorem takeAcquireResult_run (p : PortId) (x : HeadsetId) (o : AcquireOutcome) (s : State) :
    s.TableRun (takeAcquireResult p x o s) := by
  have haccept : ∀ r, (s.record r).state = .attaching ∨ (s.record r).state = .bridging →
      s.Turn (s.modRecord r fun rd => { rd with accepted := true }) r := fun r hst => by
    rw [State.modRecord_eq]
    refine State.turn_setRecord rfl rfl rfl rfl (fun hs => ?_) fun h => h
    rcases hst with hst | hst <;> simp_all [Record.shapeOk]
  unfold takeAcquireResult
  split
  · exact .refl s
  · rename_i r _
    dsimp only
    split
    · rename_i ht
      split
      · rename_i hst; exact (haccept r (.inl hst)).run
      · rename_i hst; exact (haccept r (.inr hst)).run
      · rename_i hst
        refine (failAttach_turn .noSlot ?_ hst ht).run
        refine ⟨(vset_self s.records r).symm, rfl, rfl, fun _ => rfl, fun _ q => ?_⟩
        rw [State.lowerLoad_load]
        by_cases hq : q = p <;> simp [hq]
      · rename_i hst
        exact (failBridge_turn .noSlot ((s.treated_self r).drop (some p) _ (by simp)) hst ht).run
      · exact .refl s
    · exact .refl s

end Sys2Proof.Machine
end

section
/-! SUPPORT. A port leaving ACTIVE (R23, R24): what the pass over the records does to each record, to the loads and to the
rest of the part. -/

namespace Sys2Proof.Machine

/-! ### One record -/

/-- The load of the departing port lowered on account of a record, and a Drop asked of it when it goes DORMANT. -/
def State.departFrom (s : State) (p : PortId) (toDormant : Bool) (x : HeadsetId) : State :=
  if toDormant then (s.lowerLoad p).dropAt p x else s.lowerLoad p

@[simp] theorem State.departFrom_record (s : State) (p : PortId) (d : Bool) (x : HeadsetId) (r : RecordIx) :
    (s.departFrom p d x).record r = s.record r := by
  unfold State.departFrom; split <;> simp

@[simp] theorem State.departFrom_params (s : State) (p : PortId) (d : Bool) (x : HeadsetId) :
    (s.departFrom p d x).params = s.params := by
  unfold State.departFrom; split <;> simp

theorem State.departFrom_load (s : State) (p q : PortId) (d : Bool) (x : HeadsetId) :
    (s.departFrom p d x).load q = s.load q - if q = p then 1 else 0 := by
  unfold State.departFrom
  split <;> by_cases hq : q = p <;> simp [State.lowerLoad_load, hq]

theorem State.departFrom_treated (s : State) (p : PortId) (d : Bool) (r : RecordIx) (x : HeadsetId) :
    s.Treated (s.departFrom p d x) r (s.record r) [p] where
  records := by
    rw [State.record, vset_self]
    unfold State.departFrom State.dropAt
    split <;> simp
  bindings := by unfold State.departFrom; split <;> simp
  pending := by unfold State.departFrom; split <;> simp
  states q := by unfold State.departFrom; split <;> simp
  loads _ q := by rw [s.departFrom_load]; simp

/-- What becomes of a record as port p leaves ACTIVE: nothing where it does not name p, else by what it names p for
(R23, R24). -/
theorem treatDeparture_cases (p : PortId) (d : Bool) (s : State) (r : RecordIx) (hs : (s.record r).shapeOk) :
    let rd := s.record r
    let u := s.departFrom p d rd.headset
    (rd.serving ≠ some p ∧ rd.target ≠ some p ∧ treatDeparture p d s r = s) ∨
      (rd.serving = some p ∧ rd.state = .active ∧ rd.target = none ∧ treatDeparture p d s r = loseServing r p u) ∨
      (∃ t, rd.serving = some p ∧ rd.state = .bridging ∧ rd.target = some t ∧ t ≠ p ∧ rd.accepted = true ∧
        treatDeparture p d s r = promote r p t u) ∨
      (∃ t, rd.serving = some p ∧ rd.state = .bridging ∧ rd.target = some t ∧ t ≠ p ∧ rd.accepted = false ∧
        treatDeparture p d s r = loseServing r p u) ∨
      (rd.serving ≠ some p ∧ rd.target = some p ∧ rd.state = .bridging ∧
        treatDeparture p d s r = failBridge r p .targetDown u) ∨
      (rd.serving = none ∧ rd.target = some p ∧ rd.state = .attaching ∧
        treatDeparture p d s r = failAttach r p .targetDown u) := by
  have hu : (if d then (s.lowerLoad p).dropAt p (s.record r).headset else s.lowerLoad p) =
    s.departFrom p d (s.record r).headset := rfl
  dsimp only
  by_cases hp : (s.record r).serving = some p
  · have hne := hs.distinct hp
    cases hst : (s.record r).state with
    | free => rw [(Record.shapeOk_free hst).mp hs] at hp; cases hp
    | searching => simp [((Record.shapeOk_searching hst).mp hs).2.2.1] at hp
    | attaching => simp [((Record.shapeOk_attaching hst).mp hs).2.2.1] at hp
    | active =>
      have ht := ((Record.shapeOk_active hst).mp hs).2.2.2.1
      exact .inr (.inl ⟨hp, rfl, ht, by simp only [treatDeparture, hu, hp, departServing, State.departFrom_record, hst]; simp⟩)
    | bridging =>
      obtain ⟨t, ht⟩ := Option.isSome_iff_exists.mp ((Record.shapeOk_bridging hst).mp hs).2.2.2.1
      have hneq : t ≠ p := fun e => hne (e ▸ ht)
      cases ha : (s.record r).accepted
      · exact .inr (.inr (.inr (.inl ⟨t, hp, rfl, ht, hneq, rfl, by
          simp only [treatDeparture, hu, hp, departServing, State.departFrom_record, hst, ht, ha]; simp⟩)))
      · exact .inr (.inr (.inl ⟨t, hp, rfl, ht, hneq, rfl, by
          simp only [treatDeparture, hu, hp, departServing, State.departFrom_record, hst, ht, ha]; simp⟩))
  · by_cases ht : (s.record r).target = some p
    · cases hst : (s.record r).state with
      | free => rw [(Record.shapeOk_free hst).mp hs] at ht; cases ht
      | searching => simp [((Record.shapeOk_searching hst).mp hs).2.2.2.1] at ht
      | active => simp [((Record.shapeOk_active hst).mp hs).2.2.2.1] at ht
      | bridging =>
        exact .inr (.inr (.inr (.inr (.inl ⟨hp, ht, rfl, by
          simp only [treatDeparture, hu, hp, ht, departTarget, State.departFrom_record, hst]; simp⟩))))
      | attaching =>
        exact .inr (.inr (.inr (.inr (.inr ⟨((Record.shapeOk_attaching hst).mp hs).2.2.1, ht, rfl, by
          simp only [treatDeparture, hu, hp, ht, departTarget, State.departFrom_record, hst]; simp⟩))))
    · exact .inl ⟨hp, ht, by simp [treatDeparture, hp, ht]⟩

/-- A load lowered for a record whose state does not fit what it names is a turn, since it had not its shape. -/
theorem State.turn_of_misshapen {s u : State} {r : RecordIx} {L : List PortId} (h : s.Treated u r (s.record r) L)
    (hs : ¬(s.record r).shapeOk) : s.Turn u r :=
  h.turn rfl rfl id id fun h => absurd h hs

/-- The treatment of a record makes a turn (R23, R24). -/
theorem treatDeparture_turn (p : PortId) (d : Bool) (s : State) (r : RecordIx) : s.Turn (treatDeparture p d s r) r := by
  have hu := s.departFrom_treated p d r (s.record r).headset
  have heq : (if d then (s.lowerLoad p).dropAt p (s.record r).headset else s.lowerLoad p) =
    s.departFrom p d (s.record r).headset := rfl
  by_cases hs : (s.record r).shapeOk
  · rcases treatDeparture_cases p d s r hs with ⟨-, -, h⟩ | ⟨hp, hst, -, h⟩ | ⟨t, hp, hst, ht, -, -, h⟩ |
      ⟨t, hp, hst, -, -, -, h⟩ | ⟨-, ht, hst, h⟩ | ⟨-, ht, hst, h⟩ <;> rw [h]
    · exact (State.SameTable.refl s).turn r
    · exact loseServing_turn hu (.inl hst) hp
    · exact promote_turn hu hst hp ht
    · exact loseServing_turn hu (.inr hst) hp
    · exact failBridge_turn _ hu hst ht
    · exact failAttach_turn _ hu hst ht
  · have hmis := State.turn_of_misshapen hu hs
    unfold treatDeparture
    dsimp only
    rw [heq]
    split
    · split
      · rename_i hp
        unfold departServing
        simp only [State.departFrom_record]
        split
        · rename_i hst
          split
          · rename_i t ht _; exact promote_turn hu hst hp ht
          · exact loseServing_turn hu (.inr hst) hp
        · rename_i hst; exact loseServing_turn hu (.inl hst) hp
        all_goals exact hmis
      · rename_i hn hp
        have ht := hn.resolve_left hp
        unfold departTarget
        simp only [State.departFrom_record]
        split
        · rename_i hst; exact failBridge_turn _ hu hst ht
        · rename_i hst; exact failAttach_turn _ hu hst ht
        all_goals exact hmis
    · exact (State.SameTable.refl s).turn r

/-- The treatment of record r leaves it as R23 and R24 give, and no other record changed. -/
theorem treatDeparture_record (p : PortId) (d : Bool) (s : State) (r q : RecordIx) (hs : (s.record r).shapeOk) :
    (treatDeparture p d s r).record q =
      if q = r then (s.record r).departed p s.params.barTime else s.record q := by
  rcases treatDeparture_cases p d s r hs with ⟨hp, ht, h⟩ | ⟨hp, hst, ht, h⟩ | ⟨t, hp, hst, ht, -, ha, h⟩ |
      ⟨t, hp, hst, ht, -, ha, h⟩ | ⟨hp, ht, hst, h⟩ | ⟨hp, ht, hst, h⟩ <;> rw [h]
  · rw [Record.departed_of_unnamed _ hp ht]; split
    · rename_i e; rw [e]
    · rfl
  · simp [loseServing, State.modRecord_record, Record.departed, Record.loseLink, hp, hst]
  · simp [promote, State.modRecord_record, Record.departed, hp, hst, ha, ht]
  · simp [loseServing, State.modRecord_record, Record.departed, Record.loseLink, hp, hst, ha]
  · simp [failBridge, reportFailed, State.modRecord_record, Record.departed, Record.endBridge, barEntry, hp, hst, ht]
  · simp [failAttach, State.modRecord_record, Record.departed, barEntry, hp, hst, ht]

/-- A record that port p's departure has treated does not name p (R23, R24). -/
theorem Record.departed_unpinned {rd : Record} (hs : rd.shapeOk) (p : PortId) (n : Nat) :
    (rd.departed p n).pinned p = false := by
  have hd : rd.serving = some p → rd.target ≠ some p := hs.distinct
  unfold Record.departed
  by_cases hp : rd.serving = some p
  · have := hd hp
    split_ifs <;> simp_all [Record.pinned]
  · by_cases ht : rd.target = some p <;> split_ifs <;> simp_all [Record.pinned]

/-- How many drops a lost bridge of a record asks of antenna q as port p leaves ACTIVE: one where q was its target
(R23). -/
def Record.lostTo (rd : Record) (p q : PortId) : Nat :=
  if rd.serving = some p ∧ rd.target = some q ∧ rd.accepted = false then 1 else 0

/-- The treatment of a record lowers the load of the port that leaves and of the target of a lost bridge (R23, R24). -/
theorem treatDeparture_load (p : PortId) (d : Bool) (s : State) (r : RecordIx) (hs : (s.record r).shapeOk) (q : PortId) :
    (treatDeparture p d s r).load q =
      s.load q - if q = p then (s.record r).pins p else (s.record r).lostTo p q := by
  have hfrom := s.departFrom_load p q d (s.record r).headset
  rcases treatDeparture_cases p d s r hs with ⟨hp, ht, h⟩ | ⟨hp, hst, ht, h⟩ | ⟨t, hp, hst, ht, hne, ha, h⟩ |
      ⟨t, hp, hst, ht, hne, ha, h⟩ | ⟨hp, ht, hst, h⟩ | ⟨hp, ht, hst, h⟩ <;> rw [h]
  · simp [Record.pins_eq, Record.lostTo, hp, ht]
  · simp [loseServing, State.modRecord_eq, State.dropAndLower_load, hfrom, Record.pins_eq, Record.lostTo, hp, ht]
  · simp [promote, State.modRecord_eq, hfrom, Record.pins_eq, Record.lostTo, hp, ha]
  · simp [loseServing, State.modRecord_eq, State.dropAndLower_load, hfrom, Record.pins_eq, Record.lostTo, hp, ht, ha]
    by_cases hq : q = p
    · subst hq; simp [hne.symm]
    · simp [hq, eq_comm]
  · simp [failBridge, reportFailed, State.modRecord_eq, hfrom, Record.pins_eq, Record.lostTo, hp, ht]
  · simp [failAttach, State.modRecord_eq, hfrom, Record.pins_eq, Record.lostTo, hp, ht]

/-! ### The part but for records and loads -/

/-- The two states agree but for records and loads. -/
def State.SameBut (u v : State) : Prop := v = { u with records := v.records, loads := v.loads }

theorem State.SameBut.refl (u : State) : u.SameBut u := rfl

theorem State.SameBut.symm {u v : State} (h : u.SameBut v) : v.SameBut u := by
  unfold State.SameBut at h ⊢; rw [h]

theorem State.SameBut.trans {u v w : State} (h : u.SameBut v) (h' : v.SameBut w) : u.SameBut w := by
  unfold State.SameBut at h h' ⊢; rw [h', h]

theorem State.SameBut.of_eq {u v : State} (R : Vector Record 192) (L : Vector Nat 24)
    (h : v = { u with records := R, loads := L }) : u.SameBut v := by
  subst h; rfl

theorem State.SameBut.modRecord (u : State) (r : RecordIx) (f : Record → Record) : u.SameBut (u.modRecord r f) := rfl

theorem State.SameBut.lowerLoad (u : State) (p : PortId) : u.SameBut (u.lowerLoad p) := rfl

theorem State.SameBut.bumpRoam {u v : State} (h : u.SameBut v) (k : RoamCounter) :
    (u.bumpRoam k).SameBut (v.bumpRoam k) := by
  unfold State.SameBut at h; rw [h]; rfl

theorem State.SameBut.post {u v : State} (h : u.SameBut v) (c : EventClass) (k : EventKind) (p : Option PortId)
    (i : Option HeadsetId) (n : Option LaneId) (d : Byte) : (u.post c k p i n d).SameBut (v.post c k p i n d) := by
  unfold State.SameBut at h; rw [h]
  refine State.SameBut.of_eq v.records v.loads ?_
  simp only [State.post]
  split <;> rfl

theorem State.SameBut.modPort {u v : State} (h : u.SameBut v) (p : PortId) (f : Port → Port) :
    (u.modPort p f).SameBut (v.modPort p f) := by
  unfold State.SameBut at h; rw [h]; rfl

theorem State.SameBut.dropAt {u v : State} (h : u.SameBut v) (p : PortId) (x : HeadsetId) :
    (u.dropAt p x).SameBut (v.dropAt p x) := by
  have hport : v.port p = u.port p := by unfold State.SameBut at h; rw [h]; rfl
  unfold State.dropAt State.requestOrder
  rw [hport]
  by_cases hdown : (u.port p).state = .off ∨ (u.port p).state = .isolated
  · simpa only [if_pos hdown] using h
  · by_cases hlost : (takeOrder (u.port p).orders .drop x).1 = .discarded
    · unfold State.bumpPort
      simpa only [if_neg hdown, if_pos hlost] using ((h.modPort p _).modPort p _).post ..
    · simpa only [if_neg hdown, if_neg hlost] using h.modPort p _

/-- The lowering of the departing port's load apart, a departure begins with its Drop. -/
theorem State.departFrom_sameBut {u v : State} (h : u.SameBut v) (p : PortId) (d : Bool) (x : HeadsetId) :
    (if d then u.dropAt p x else u).SameBut (v.departFrom p d x) := by
  unfold State.departFrom
  split
  · exact (h.trans (.lowerLoad v p)).dropAt p x
  · exact h.trans (.lowerLoad v p)

theorem handoffDoneDetail_promoted (p : PortId) : handoffDoneDetail .promoted p = byteOf (p.val + 96) := by
  revert p; decide

/-- But for records and loads the treatment of a record is what `Record.leavePort` says (R23, R24). -/
theorem treatDeparture_sameBut {u v : State} (h : u.SameBut v) (p : PortId) (d : Bool) (r : RecordIx)
    (hs : (v.record r).shapeOk) : ((v.record r).leavePort p d u).SameBut (treatDeparture p d v r) := by
  have hd := State.departFrom_sameBut h p d (v.record r).headset
  rcases treatDeparture_cases p d v r hs with ⟨hp, ht, h'⟩ | ⟨hp, hst, ht, h'⟩ | ⟨t, hp, hst, ht, -, ha, h'⟩ |
      ⟨t, hp, hst, ht, -, ha, h'⟩ | ⟨hp, ht, hst, h'⟩ | ⟨hp, ht, hst, h'⟩ <;> rw [h']
  · rw [Record.leavePort_of_unnamed d u hp ht]; exact h
  · simp only [Record.leavePort, hp, ht, if_true, loseServing, State.departFrom_record, State.dropAndLower]
    exact (hd.trans (.modRecord ..)).post ..
  · simp only [Record.leavePort, hp, ht, ha, if_true, promote, State.departFrom_record, handoffDoneDetail_promoted]
    exact ((hd.trans (.modRecord ..)).bumpRoam _).post ..
  · simp only [Record.leavePort, hp, ht, ha, if_true, loseServing, State.departFrom_record, State.dropAndLower]
    exact ((((State.SameBut.lowerLoad _ t).symm.trans (hd.dropAt t _)).trans (.lowerLoad _ t)).trans
      (.modRecord ..)).post ..
  · simp only [Record.leavePort, hp, ht, hst, if_true, if_false, failBridge, reportFailed, State.departFrom_record]
    exact ((hd.trans (.modRecord ..)).bumpRoam _).post ..
  · simp only [Record.leavePort, hp, ht, hst, if_true, if_false, failAttach, State.departFrom_record, reduceCtorEq]
    exact (hd.trans (.modRecord ..)).post ..

/-! ### The pass over the records -/

/-- A record treated by the departure of a port keeps its shape. -/
theorem Record.departed_shapeOk {s : State} {r : RecordIx} (hs : (s.record r).shapeOk) (p : PortId) :
    ((s.record r).departed p s.params.barTime).shapeOk := by
  have h := (treatDeparture_turn p false s r).shape hs
  rwa [treatDeparture_record p false s r r hs, if_pos rfl] at h

/-- The parameters stay as they are while a record is treated. -/
theorem treatDeparture_params (p : PortId) (d : Bool) (s : State) (r : RecordIx) (hs : (s.record r).shapeOk) :
    (treatDeparture p d s r).params = s.params := by
  rcases treatDeparture_cases p d s r hs with ⟨-, -, h⟩ | ⟨-, -, -, h⟩ | ⟨t, -, -, -, -, -, h⟩ |
      ⟨t, -, -, -, -, -, h⟩ | ⟨-, -, -, h⟩ | ⟨-, -, -, h⟩ <;> rw [h]
  all_goals simp [loseServing, promote, failBridge, failAttach, reportFailed]

/-- The records stay in shape while one is treated. -/
theorem treatDeparture_shapes (p : PortId) (d : Bool) {s : State} (r : RecordIx) (hs : ∀ q, (s.record q).shapeOk) (q : RecordIx) :
    ((treatDeparture p d s r).record q).shapeOk := by
  rw [treatDeparture_record p d s r q (hs r)]
  split
  · exact Record.departed_shapeOk (hs r) p
  · exact hs q

/-- The pass over a list of records leaves those of the list as R23 and R24 give. -/
theorem departList_record (p : PortId) (d : Bool) (l : List RecordIx) (hl : l.Nodup) (s : State)
    (hs : ∀ r, (s.record r).shapeOk) (q : RecordIx) :
    (l.foldl (treatDeparture p d) s).record q =
      if q ∈ l then (s.record q).departed p s.params.barTime else s.record q := by
  induction l generalizing s with
  | nil => simp
  | cons r l ih =>
    obtain ⟨hr, hl⟩ := List.nodup_cons.mp hl
    rw [List.foldl_cons, ih hl _ (treatDeparture_shapes p d r hs), treatDeparture_record p d s r q (hs r),
      treatDeparture_params p d s r (hs r)]
    by_cases hq : q = r
    · subst hq; simp [hr]
    · simp [hq]

/-- The pass over a list of records lowers the load of the port that leaves by the records that name it, and every other
by the lost bridges to it (R23, R24). -/
theorem departList_load (p : PortId) (d : Bool) (l : List RecordIx) (hl : l.Nodup) (s : State)
    (hs : ∀ r, (s.record r).shapeOk) (q : PortId) :
    (l.foldl (treatDeparture p d) s).load q = s.load q -
      (l.map fun r => if q = p then (s.record r).pins p else (s.record r).lostTo p q).sum := by
  induction l generalizing s with
  | nil => simp
  | cons r l ih =>
    obtain ⟨hr, hl⟩ := List.nodup_cons.mp hl
    have hrest : ∀ r' ∈ l, (treatDeparture p d s r).record r' = s.record r' := fun r' h' => by
      rw [treatDeparture_record p d s r r' (hs r), if_neg fun e : r' = r => hr (e ▸ h')]
    rw [List.foldl_cons, ih hl _ (treatDeparture_shapes p d r hs), treatDeparture_load p d s r (hs r) q, List.map_cons,
      List.sum_cons, Nat.sub_sub, List.map_congr_left fun r' h' => by rw [hrest r' h']]

/-- But for records and loads the pass is what `State.leftBy` says (R23, R24). -/
theorem departList_sameBut (p : PortId) (d : Bool) (l : List RecordIx) (hl : l.Nodup) {u v : State} (h : u.SameBut v)
    (hs : ∀ r, (v.record r).shapeOk) :
    (l.foldl (fun u r => (v.record r).leavePort p d u) u).SameBut (l.foldl (treatDeparture p d) v) := by
  induction l generalizing u v with
  | nil => exact h
  | cons r l ih =>
    obtain ⟨hr, hl⟩ := List.nodup_cons.mp hl
    have hrest : ∀ r' ∈ l, (treatDeparture p d v r).record r' = v.record r' := fun r' h' => by
      rw [treatDeparture_record p d v r r' (hs r), if_neg fun e : r' = r => hr (e ▸ h')]
    have := ih hl (treatDeparture_sameBut h p d r (hs r)) (treatDeparture_shapes p d r hs)
    rw [List.foldl_cons, List.foldl_cons]
    rwa [List.foldl_ext _ (fun u r => (v.record r).leavePort p d u) _ fun u r' h' => by rw [hrest r' h']] at this

/-- After the pass every record is as R23 and R24 give. -/
theorem departRecords_record (p : PortId) (d : Bool) (s : State) (hs : ∀ r, (s.record r).shapeOk) (q : RecordIx) :
    (departRecords p d s).record q = (s.record q).departed p s.params.barTime := by
  unfold departRecords
  simpa using departList_record p d (List.finRange 192) (List.nodup_finRange 192) s hs q

/-- The pass over the records is a run of turns. -/
theorem departRecords_turns (p : PortId) (d : Bool) (s : State) : s.Turns (departRecords p d s) :=
  State.Turns.foldl (treatDeparture_turn p d) _ s s (.refl s)

/-- After the pass no record names the port (R23, R24). -/
theorem departRecords_unpinned (p : PortId) (d : Bool) (s : State) (hs : ∀ r, (s.record r).shapeOk) (q : RecordIx) :
    ((departRecords p d s).record q).pinned p = false := by
  rw [departRecords_record p d s hs]
  exact Record.departed_unpinned (hs q) p _

/-! ### A port that leaves ACTIVE or goes down -/

/-- A port that takes OFF or ISOLATED makes a step of the table (R105). -/
theorem enterDown_step (p : PortId) (new : PortState) (s : State) : s.TableStep (enterDown p new s) := by
  have hload : ∀ (v : State) (q : PortId), ((v.modPort p Port.goDown).setLoad p 0).load q = v.load q ∨
      q = p ∧ ((v.modPort p Port.goDown).setLoad p 0).load q = 0 := fun v q => by
    by_cases hq : q = p
    · exact .inr ⟨hq, by simp [State.setLoad_load, hq]⟩
    · exact .inl (by simp [State.setLoad_load, hq])
  have hstate : ∀ (v : State) (q : PortId), (((v.modPort p Port.goDown).setLoad p 0).port q).state = (v.port q).state :=
    fun v q => (v.modPort_same p Port.goDown rfl).states q
  have hother : ∀ q, q ≠ p → ((s.modPort p fun q => { q with state := new }).port q).state = (s.port q).state :=
    fun q hq => by simp [State.modPort_port, hq]
  unfold enterDown
  dsimp only
  by_cases ha : (s.port p).state = .active
  · rw [if_pos (by simpa using ha)]
    generalize hu : s.modPort p (fun q => { q with state := new }) = u at hother ⊢
    have hturns := departRecords_turns p false u
    have hgone : s.RecordsOk → ∀ r, ((departRecords p false u).record r).pinned p = false :=
      fun h => departRecords_unpinned p false u fun r => by rw [← hu, State.modPort_record]; exact h.shape r
    generalize departRecords p false u = v at hturns hgone ⊢
    exact .leave p u v (by rw [← hu]; rfl) (by rw [← hu]; rfl) (by rw [← hu]; rfl) (by rw [← hu]; rfl) hother hturns
      hgone rfl rfl rfl (hstate v) (hload v)
  · rw [if_neg (by simpa using ha)]
    exact .port p ha rfl rfl rfl (fun q hq => (hstate _ q).trans (hother q hq)) (hload _)

/-- A port that leaves ACTIVE for DORMANT makes a step of the table (R105). -/
theorem enterDormant_step (p : PortId) (s : State) : s.TableStep (enterDormant p s) := by
  unfold enterDormant
  have hother : ∀ q, q ≠ p → ((s.modPort p fun q => { q with state := .dormant }).port q).state = (s.port q).state :=
    fun q hq => by simp [State.modPort_port, hq]
  generalize hu : s.modPort p (fun q => { q with state := .dormant }) = u at hother ⊢
  have hturns := departRecords_turns p true u
  have hgone : s.RecordsOk → ∀ r, ((departRecords p true u).record r).pinned p = false :=
    fun h => departRecords_unpinned p true u fun r => by rw [← hu, State.modPort_record]; exact h.shape r
  generalize departRecords p true u = v at hturns hgone ⊢
  exact .leave p u v (by rw [← hu]; rfl) (by rw [← hu]; rfl) (by rw [← hu]; rfl) (by rw [← hu]; rfl) hother hturns
    hgone rfl rfl rfl (State.modPort_same v p _ rfl).states fun _ => .inl rfl

end Sys2Proof.Machine
end

section
/-! SUPPORT. Every command runs by steps of the table (`exec_tableRun`): the packets through their owners, then the
frames, the cycle starts and the arrivals. -/

namespace Sys2Proof.Machine

/-! ### Served packets -/

/-- A packet runs when its owner does: shedding, refusing and answering leave the table alone. -/
theorem serve_run {owner : State → Reply × State} (h : ∀ s : State, s.TableRun (owner s).2) (o : Origin)
    (p : Permission) (s : State) : s.TableRun (serve o p owner s) := by
  rcases serve_cases o p owner s with ⟨-, e⟩ | ⟨-, -, e⟩ | ⟨-, -, e⟩ <;> rw [e]
  · exact (s.shedOn_same ..).run
  · exact (s.respond_same ..).run
  · exact (h s).trans (State.respond_same ..).run

theorem refuse_run (why : Reason) (s : State) : s.TableRun (refuse why s).2 := .refl s

/-- The owner of a command that only reads. -/
theorem readers_run (payload : List Byte) (s : State) :
    s.TableRun (ownEcho payload s).2 ∧ s.TableRun (ownIdentify payload s).2 ∧ s.TableRun (ownReadStatus payload s).2 ∧
      s.TableRun (ownReadParameters payload s).2 ∧ s.TableRun (ownFetchRegistrations payload s).2 ∧
      s.TableRun (ownReadTranslate payload s).2 ∧ s.TableRun (ownReadRecord payload s).2 := by
  unfold ownEcho ownIdentify ownReadStatus ownReadParameters ownFetchRegistrations ownReadTranslate ownReadRecord
  refine ⟨?_, ?_, ?_, ?_, ?_, ?_, ?_⟩
  all_goals repeat' split
  all_goals exact .refl s

theorem ownClearShed_run (o : Origin) (payload : List Byte) (s : State) : s.TableRun (ownClearShed o payload s).2 := by
  unfold ownClearShed; split
  exacts [(s.setLane_same ..).run, .refl s]

theorem ownConfigure_run (payload : List Byte) (s : State) : s.TableRun (ownConfigure payload s).2 := by
  unfold ownConfigure
  split
  · exact .refl s
  · split
    · exact .refl s
    · exact State.SameTable.run ⟨rfl, rfl, rfl, rfl, fun _ => rfl⟩

theorem ownSetPartition_run (payload : List Byte) (s : State) : s.TableRun (ownSetPartition payload s).2 := by
  unfold ownSetPartition
  repeat' split
  all_goals first
    | exact .refl s
    | exact State.SameTable.run ⟨rfl, rfl, rfl, rfl, fun _ => rfl⟩

/-- Restart empties the table (R155). -/
theorem ownRestart_run (payload : List Byte) (s : State) : s.TableRun (ownRestart payload s).2 := by
  unfold ownRestart
  split
  · have hc : s.TableStep (restartBlocks s) :=
      .cleared (fun r => replicate_get _ r) (fun n => replicate_get _ n) (fun p => replicate_get _ p) rfl
    dsimp only
    exact hc.run.trans (State.post_same ..).run
  · exact .refl s

theorem State.setCounter_same (s : State) (c : CounterName) (v : Nat) : s.SameTable (s.setCounter c v) := by
  cases c with
  | roam k => exact ⟨rfl, rfl, rfl, rfl, fun _ => rfl⟩
  | ctl k => exact ⟨rfl, rfl, rfl, rfl, fun _ => rfl⟩
  | port p k => exact s.modPort_same p (fun q => { q with counters := vset q.counters k v }) rfl
  | lane n k => exact ⟨rfl, rfl, rfl, rfl, fun _ => rfl⟩

theorem ownCounterExchangeAdd_run (payload : List Byte) (s : State) :
    s.TableRun (ownCounterExchangeAdd payload s).2 := by
  unfold ownCounterExchangeAdd
  split
  · split
    · exact .refl s
    · exact (s.setCounter_same ..).run
  · exact .refl s

theorem ownLoadTranslate_run (payload : List Byte) (s : State) : s.TableRun (ownLoadTranslate payload s).2 := by
  unfold ownLoadTranslate
  repeat' split
  all_goals first
    | exact .refl s
    | exact State.SameTable.run ⟨rfl, rfl, rfl, rfl, fun _ => rfl⟩

theorem ownSetWindow_run (payload : List Byte) (s : State) : s.TableRun (ownSetWindow payload s).2 := by
  unfold ownSetWindow
  repeat' split
  all_goals first
    | exact .refl s
    | exact State.SameTable.run ⟨rfl, rfl, rfl, rfl, fun _ => rfl⟩

theorem State.advance_same (s : State) : s.SameTable s.advance.1 := ⟨rfl, rfl, rfl, rfl, fun _ => rfl⟩

theorem writeCell_same (s : State) (b : Byte) : s.SameTable (writeCell s b).1 := by
  have hset : ∀ (u : State) (r c : Fin 24) (n : Neighbour), u.SameTable (u.setCell r c n) := fun _ _ _ _ =>
    ⟨rfl, rfl, rfl, rfl, fun _ => rfl⟩
  unfold writeCell
  dsimp only
  split
  · exact (hset ..).trans ((hset ..).trans (State.advance_same _))
  · exact (hset ..).trans (State.advance_same _)

theorem writeCells_same (bs : List Byte) (s : State) : s.SameTable (writeCells bs s).1 := by
  induction bs generalizing s with
  | nil => exact .refl s
  | cons b bs ih => exact (writeCell_same s b).trans (ih _)

theorem ownWriteWindow_run (payload : List Byte) (s : State) : s.TableRun (ownWriteWindow payload s).2 := by
  unfold ownWriteWindow; split
  exacts [.refl s, (writeCells_same payload s).run]

theorem readCells_same (n : Nat) (s : State) : s.SameTable (readCells n s).2 := by
  induction n generalizing s with
  | zero => exact .refl s
  | succ n ih => exact s.advance_same.trans (ih _)

theorem ownReadWindow_run (payload : List Byte) (s : State) : s.TableRun (ownReadWindow payload s).2 := by
  unfold ownReadWindow; split
  exacts [(readCells_same _ s).run, .refl s]

theorem ownFetchEvents_run (payload : List Byte) (s : State) : s.TableRun (ownFetchEvents payload s).2 := by
  unfold ownFetchEvents; split
  exacts [State.SameTable.run ⟨rfl, rfl, rfl, rfl, fun _ => rfl⟩, .refl s]

theorem denyHeadset_run (x : HeadsetId) (s : State) : s.TableRun (denyHeadset x s).2 := by
  have hlist : ∀ (u : State) (ds : List Denial), u.SameTable { u with denials := ds } := fun _ _ =>
    ⟨rfl, rfl, rfl, rfl, fun _ => rfl⟩
  have horder : ∀ (u : State) (e : Registration), u.SameTable (denyOrder x e u).2 := fun u e => by
    unfold denyOrder; split
    exacts [u.requestOrder_same .., .refl u]
  unfold denyHeadset
  cases s.registrations.find? (·.id = x) with
  | none => exact (hlist s _).run
  | some e => exact ((s.removeRegistrations_same _).trans ((horder _ e).trans (hlist _ _))).run

theorem ownDeny_run (payload : List Byte) (s : State) : s.TableRun (ownDeny payload s).2 := by
  unfold ownDeny
  split
  · dsimp only
    split
    · exact .refl s
    · split
      · exact .refl s
      · exact denyHeadset_run _ s
  · exact .refl s

theorem ownFreezeOn_run (o : Origin) (d : Half) (s : State) : s.TableRun (ownFreezeOn o d s).2 := by
  have hf : ∀ f, s.SameTable { s with freeze := f } := fun _ => ⟨rfl, rfl, rfl, rfl, fun _ => rfl⟩
  unfold ownFreezeOn freezeReply
  dsimp only
  split <;> dsimp only
  exacts [((hf _).trans (State.post_same ..)).run, (hf _).run]

theorem ownFreezeOff_run (o : Origin) (s : State) : s.TableRun (ownFreezeOff o s).2 := by
  have hf : ∀ f, s.SameTable { s with freeze := f } := fun _ => ⟨rfl, rfl, rfl, rfl, fun _ => rfl⟩
  unfold ownFreezeOff freezeReply
  split <;> dsimp only <;> exact (hf _).run

/-! ### Port Control -/

/-- A port that is not ACTIVE takes a new state. -/
theorem State.modPort_step {s : State} {p : PortId} (h : (s.port p).state ≠ .active) (f : Port → Port) :
    s.TableStep (s.modPort p f) :=
  .port p h rfl rfl rfl (fun q hq => by simp [State.modPort_port, hq]) fun _ => .inl rfl

theorem activatePort_run (p : PortId) (s : State) : s.TableRun (activatePort p s) := by
  unfold activatePort
  split <;> rename_i h
  · exact (State.modPort_step (by simp [h]) _).run
  · exact (State.modPort_step (by simp [h]) _).run
  · exact .refl s
  · exact (State.modPort_step (by simp [h]) _).run

theorem makePortDormant_run (p : PortId) (s : State) : s.TableRun (makePortDormant p s) := by
  unfold makePortDormant
  split <;> rename_i h
  · exact (State.modPort_step (by simp [h]) _).run
  · exact .refl s
  · exact (enterDormant_step p s).run
  · exact (State.modPort_step (by simp [h]) _).run

theorem turnPortOff_run (p : PortId) (s : State) : s.TableRun (turnPortOff p s) := by
  unfold turnPortOff
  split
  · exact .refl s
  · exact (enterDown_step p .off s).run.trans (State.modPort_same _ p _ (by rfl)).run

theorem ownPort_run (port : Byte) {act : PortId → State → State} (h : ∀ p s, State.TableRun s (act p s)) (s : State) :
    s.TableRun (ownPort port act s).2 := by
  unfold ownPort; split
  exacts [.refl s, h _ s]

theorem ownSetClass_run (port cls : Byte) (s : State) : s.TableRun (ownSetClass port cls s).2 := by
  unfold ownSetClass; split
  · rename_i p c _ _; exact (s.modPort_same p (fun q => { q with cls := c }) rfl).run
  · exact .refl s

theorem servePortControl_run (o : Origin) (payload : List Byte) (s : State) :
    s.TableRun (servePortControl o payload s) := by
  unfold servePortControl
  repeat' split
  · exact serve_run (ownPort_run _ activatePort_run) ..
  · exact serve_run (ownPort_run _ makePortDormant_run) ..
  · exact serve_run (ownPort_run _ turnPortOff_run) ..
  · exact serve_run (ownPort_run _ fun p s => (s.modPort_same p Port.reset rfl).run) ..
  · exact serve_run (ownSetClass_run _ _) ..
  · exact serve_run (refuse_run _) ..
  · exact serve_run (refuse_run _) ..

theorem serveFreeze_run (o : Origin) (payload : List Byte) (s : State) : s.TableRun (serveFreeze o payload s) := by
  unfold serveFreeze
  repeat' split
  · exact serve_run (ownFreezeOff_run o) ..
  · exact serve_run (ownFreezeOn_run o _) ..
  · exact serve_run (refuse_run _) ..
  · exact serve_run (refuse_run _) ..

/-! ### Commands on records -/

/-- The lane an Admit chooses is not bound (R81, R82). -/
theorem chooseLane_unbound {sel : Byte} {s : State} {n : LaneId} {cursor : Nat}
    (h : chooseLane sel s = .ok (n, cursor)) : s.binding n = none := by
  unfold chooseLane at h
  split at h
  · split at h
    · rename_i m hm
      cases h
      obtain ⟨i, -, hi⟩ := List.exists_of_findSome?_eq_some hm
      split at hi
      · cases hi
      · split at hi
        · rename_i hb; cases hi; exact hb
        · cases hi
    · cases h
  · split at h
    · cases h
    · split at h
      · cases h
      · split at h
        · cases h
        · rename_i hb; cases h; simpa using hb

/-- A record just admitted takes its seeded antenna in a turn, when it does (R11, R41). -/
theorem seedAttach_turn {r : RecordIx} {s : State} (h : (s.record r).state = .searching) :
    s.Turn (seedAttach r s) r := by
  unfold seedAttach
  split
  · exact (State.SameTable.refl s).turn r
  · rename_i c cs hc
    split
    · rename_i hu
      obtain ⟨hin, hroom, -⟩ := (s.usable_iff c).mp (Bool.and_eq_true _ _ ▸ hu).1
      exact beginAttach_turn h hin hroom ⟨c, by simp [hc], rfl⟩
    · exact (State.SameTable.refl s).turn r

/-- Admit runs (R11, R83). -/
theorem admitInto_run {r : RecordIx} {x : HeadsetId} {n : LaneId} {s : State} (cursor : Nat)
    (hr : (s.record r).state = .free) (hx : canonical x = true) (hnew : s.findRecord x = none)
    (hn : s.binding n = none) : s.TableRun (admitInto r x n cursor s) := by
  unfold admitInto
  generalize s.registrations.find? _ = seed
  dsimp only
  have hstep : s.TableStep ((({ s with cursor := cursor }.setBinding n (some r)).silence n).setRecord r
      (Record.admitted x n seed)) :=
    .admitted r x n seed hr hx hnew hn rfl rfl rfl rfl fun _ => rfl
  refine hstep.run.trans ((seedAttach_turn (r := r) (by rw [State.setRecord_record_same]; rfl)).run.trans ?_)
  generalize seedAttach r _ = u
  have hdeny : ∀ (v : State) (ds : List Denial), v.SameTable { v with denials := ds } := fun _ _ =>
    ⟨rfl, rfl, rfl, rfl, fun _ => rfl⟩
  exact ((u.removeRegistrations_same _).trans (hdeny _ _)).run

theorem State.lowestFree_some {s : State} {r : RecordIx} (h : s.lowestFree = some r) : (s.record r).state = .free := by
  simpa using List.find?_some h

theorem ownAdmit_run (payload : List Byte) (s : State) : s.TableRun (ownAdmit payload s).2 := by
  unfold ownAdmit
  split
  · dsimp only
    split
    · exact .refl s
    · rename_i hx
      split
      · exact .refl s
      · rename_i hnew
        split
        · exact .refl s
        · rename_i r hr
          split
          · exact .refl s
          · rename_i n cursor hn
            exact admitInto_run cursor (State.lowestFree_some hr) (by simpa using hx) (by simpa using hnew)
              (chooseLane_unbound hn)
  · exact .refl s

/-- A released record makes a turn (R22, R25). -/
theorem releaseRecord_run (r : RecordIx) (s : State) : s.TableRun (releaseRecord r s).2 := by
  unfold releaseRecord
  dsimp only
  split
  · exact .refl s
  · exact (freeRecord_turn (s.treated_dropBoth r _) rfl fun _ p => (s.record r).mem_antennas p).run

theorem ownRelease_run (payload : List Byte) (s : State) : s.TableRun (ownRelease payload s).2 := by
  unfold ownRelease
  repeat' split
  all_goals first
    | exact .refl s
    | exact releaseRecord_run _ s

/-- A forced handoff makes a turn (R67, R68). -/
theorem forceRecord_run (r : RecordIx) (antenna : Byte) (s : State) : s.TableRun (forceRecord r antenna s).2 := by
  unfold forceRecord
  dsimp only
  split
  · exact .refl s
  · split
    · exact .refl s
    · rename_i hst
      split
      · exact .refl s
      · split
        · exact .refl s
        · rename_i hin
          split
          · exact .refl s
          · rename_i hroom
            split
            · exact .refl s
            · rename_i hne
              exact (beginBridge_turn (by simpa using hst) (by simpa using hin) (by simpa using hroom) hne (.inl rfl)).run

theorem ownForceHandoff_run (payload : List Byte) (s : State) : s.TableRun (ownForceHandoff payload s).2 := by
  unfold ownForceHandoff
  repeat' split
  all_goals first
    | exact .refl s
    | exact forceRecord_run _ _ s

/-! ### The parser -/

/-- From every state an operation runs by steps of the table. -/
def State.Runs (f : State → State) : Prop := ∀ s : State, s.TableRun (f s)

/-- A packet that has reached its command runs. -/
theorem dispatchPacket_runs (o : Origin) (code : Byte) (payload : List Byte) :
    State.Runs (dispatchPacket o code payload) := by
  have hread := readers_run payload
  unfold dispatchPacket
  split
  · exact serve_run (fun s => (hread s).1) _ _
  · exact serve_run (fun s => (hread s).2.1) _ _
  · exact serve_run (fun s => (hread s).2.2.1) _ _
  · exact serve_run (ownConfigure_run payload) _ _
  · exact serve_run (fun s => (hread s).2.2.2.1) _ _
  · exact serve_run (ownSetPartition_run payload) _ _
  · exact serve_run (ownRestart_run payload) _ _
  · exact serve_run (ownClearShed_run o payload) _ _
  · exact serve_run (ownCounterExchangeAdd_run payload) _ _
  · exact servePortControl_run o payload
  · exact serve_run (ownLoadTranslate_run payload) _ _
  · exact serve_run (fun s => (hread s).2.2.2.2.2.1) _ _
  · exact serve_run (ownSetWindow_run payload) _ _
  · exact serve_run (ownWriteWindow_run payload) _ _
  · exact serve_run (ownReadWindow_run payload) _ _
  · exact serve_run (fun s => (hread s).2.2.2.2.1) _ _
  · exact serve_run (ownAdmit_run payload) _ _
  · exact serve_run (ownDeny_run payload) _ _
  · exact serve_run (ownRelease_run payload) _ _
  · exact serve_run (fun s => (hread s).2.2.2.2.2.2) _ _
  · exact serve_run (ownForceHandoff_run payload) _ _
  · exact serveFreeze_run o payload
  · exact serve_run (ownFetchEvents_run payload) _ _
  · exact serve_run (refuse_run _) _ _

theorem takePayload_run (l : CtlLane) (hdr : List Byte) (code tag : Byte) (corrected : Bool) (n : Nat)
    (rest : List Byte) (s : State) : s.TableRun (takePayload l hdr code tag corrected n rest s) := by
  unfold takePayload
  dsimp only
  split
  · exact dispatchPacket_runs ..
  · exact ((s.bumpCtl_same _).trans (State.report_same ..)).run

/-- A control block runs, packet by packet (R133 to R136). -/
theorem parseBlock_run (l : CtlLane) (fuel : Nat) (bytes : List Byte) (s : State) :
    s.TableRun (parseBlock l fuel bytes s) := by
  induction fuel generalizing bytes s with
  | zero => exact .refl s
  | succ fuel ih =>
    cases bytes with
    | nil => exact .refl s
    | cons b0 rest =>
      unfold parseBlock
      split
      · exact ih rest s
      · split
        · split
          · exact ((s.bumpCtl_same _).trans (State.report_same ..)).run
          · rename_i code tag len corrected _
            have hcorr : s.SameTable (if corrected then s.bumpCtl .headerCorrections else s) := by
              split
              exacts [s.bumpCtl_same _, .refl s]
            generalize (if corrected = true then s.bumpCtl .headerCorrections else s) = u at hcorr ⊢
            dsimp only
            refine hcorr.run.trans ?_
            split
            · exact (dispatchPacket_runs ..).trans (ih ..)
            · split
              · exact (u.report_same ..).run
              · exact (takePayload_run ..).trans (ih ..)
        · exact (s.report_same ..).run

theorem parseControl_run (control : Nat) (b63 b62 : List Byte) (s : State) :
    s.TableRun (parseControl control b63 b62 s) := by
  unfold parseControl
  dsimp only
  split
  · exact (parseBlock_run ..).trans (parseBlock_run ..)
  · exact parseBlock_run ..

/-! ### Uplink frames -/

theorem bumpTimes_same (p : PortId) (k : PortCounter) (n : Nat) (s : State) : s.SameTable (bumpTimes p k n s) := by
  induction n generalizing s with
  | zero => exact .refl s
  | succ n ih => exact (s.bumpPort_same p k).trans (ih _)

theorem latchFlags_same (p : PortId) (f : ConditionFlags) (s : State) : s.SameTable (latchFlags p f s) := by
  unfold latchFlags; split
  · exact .refl s
  · exact (s.modPort_same p _ (by rfl)).trans (State.post_same ..)

theorem holdFrame_same (p : PortId) (w : Placement) (f : HeldFrame) (s : State) : s.SameTable (holdFrame p w f s) := by
  unfold holdFrame; split
  exacts [s.modPort_same p _ (by rfl), s.modPort_same p _ (by rfl), .refl s, .refl s]

theorem deliverResults_run (p : PortId) (results : List (HeadsetId × AcquireOutcome)) (s : State) :
    s.TableRun (deliverResults p results s) := by
  unfold deliverResults; split
  · exact State.TableRun.foldl (fun u (x : HeadsetId × AcquireOutcome) => takeAcquireResult_run p x.1 x.2 u) results s
  · exact .refl s

theorem acceptFrame_run (p : PortId) (w : Placement) (f : Uplink) (s : State) : s.TableRun (acceptFrame p w f s) := by
  unfold acceptFrame
  dsimp only
  exact ((latchFlags_same ..).trans ((bumpTimes_same ..).trans ((bumpTimes_same ..).trans (holdFrame_same ..)))).run.trans
    (deliverResults_run ..)

theorem placeFrame_run (p : PortId) (f : Uplink) (s : State) : s.TableRun (placeFrame p f s) := by
  have hplace : ∀ w, s.TableRun (if (s.port p).occupied w then s.bumpPort p .overruns
      else if (s.port p).settling then s.modPort p fun q => { q with settling := false } else acceptFrame p w f s) := by
    intro w
    split
    · exact (s.bumpPort_same ..).run
    · split
      · exact (s.modPort_same p _ (by rfl)).run
      · exact acceptFrame_run ..
  unfold placeFrame
  dsimp only
  split
  · exact (s.bumpPort_same ..).run
  · exact (s.bumpPort_same ..).run
  · exact hplace _
  · exact hplace _

theorem examineRecovery_run {p : PortId} {s : State} (h : (s.port p).state = .isolated) (bytes : List Byte) :
    s.TableRun (examineRecovery p bytes s) := by
  unfold examineRecovery
  split
  · exact .refl s
  · dsimp only
    split
    · exact (State.modPort_step (by simp [h]) _).run.trans (State.post_same ..).run
    · exact .refl s

/-! ### The voice path -/

theorem takeHoldRequest_same (s : State) (q : HoldRequest) : s.SameTable (takeHoldRequest s q) := by
  unfold takeHoldRequest writeHold
  dsimp only
  split
  · split
    · exact (s.setHold_same ..).trans (State.bumpLane_same ..)
    · exact s.setHold_same ..
  · exact .refl s

theorem takeHoldRequests_same (s : State) : s.SameTable (takeHoldRequests s) :=
  State.SameTable.trans (t := { s with holdRequests := [] }) ⟨rfl, rfl, rfl, rfl, fun _ => rfl⟩
    (State.SameTable.foldl takeHoldRequest_same _ _)

theorem sendLane_same (n : LaneId) (s : State) : s.SameTable (sendLane n s).2 := by
  unfold sendLane
  split
  · exact s.setLane_same ..
  · split
    · exact .refl s
    · split
      · exact .refl s
      · unfold sendBound
        dsimp only
        split
        · exact s.setHold_same ..
        · split
          · exact (s.setHold_same ..).trans (State.bumpLane_same ..)
          · exact s.bumpLane_same ..

theorem sendLanes_same (ns : List LaneId) (s : State) : s.SameTable (sendLanes ns s).2 := by
  induction ns generalizing s with
  | nil => exact .refl s
  | cons n ns ih => exact (sendLane_same n s).trans (ih _)

theorem transmit_same (s : State) : s.SameTable (transmit s) := by
  have h := sendLanes_same (List.finRange 64) s
  unfold transmit
  generalize sendLanes (List.finRange 64) s = x at h ⊢
  exact ⟨h.records, h.bindings, h.loads, h.pending, h.states⟩

theorem placeAt_same (p : PortId) (v : VoiceRecord) (s : State) : s.SameTable (placeAt p v s) := by
  unfold placeAt
  dsimp only
  split
  · exact (s.modPort_same p _ (by rfl)).trans (State.bumpLane_same ..)
  · exact s.modPort_same p _ (by rfl)

theorem distributeLane_same (frame : List Byte) (s : State) (n : LaneId) : s.SameTable (distributeLane frame s n) := by
  have hplace : ∀ (u : State) (p : Option PortId) (v : VoiceRecord), u.SameTable (placeAt? p v u) := fun u p v => by
    cases p
    exacts [.refl u, placeAt_same ..]
  unfold distributeLane
  split
  · exact .refl s
  · split
    · exact s.vmapPorts_same _ fun q => by split <;> rfl
    · split
      · exact .refl s
      · unfold distributeBound
        dsimp only
        have hserving : ∀ (c : Prop) [Decidable c] (p : Option PortId) (v : VoiceRecord) (u : State),
            u.SameTable (if c then placeAt? p v u else u) := fun c _ p v u => by
          split
          exacts [hplace .., .refl u]
        exact (hserving ..).trans (hserving ..)

/-- The frame of an arrival runs (R96, R132, R133). -/
theorem takeFrame_run (frame : List Byte) (s : State) : s.TableRun (takeFrame frame s) := by
  have hsize : ∀ u : State, u.SameTable (takeControlSize u) := fun u => by
    unfold takeControlSize
    dsimp only
    split <;> exact ⟨rfl, rfl, rfl, rfl, fun _ => rfl⟩
  exact ((State.SameTable.foldl (distributeLane_same frame) _ s).trans (hsize _)).run.trans (parseControl_run ..)

/-! ### Cycle starts -/

theorem freezeTick_same (s : State) : s.SameTable (freezeTick s) := by
  have hf : ∀ f, s.SameTable { s with freeze := f } := fun _ => ⟨rfl, rfl, rfl, rfl, fun _ => rfl⟩
  unfold freezeTick
  split
  · split
    · exact (hf _).trans (State.post_same ..)
    · exact hf _
  · exact .refl s

theorem countdowns_same (s : State) : s.SameTable (countdowns s) :=
  (freezeTick_same s).trans ((State.removeRegistrations_same ..).trans (u := countDenials (ageRegistrations (freezeTick s)))
    ⟨rfl, rfl, rfl, rfl, fun _ => rfl⟩)

theorem beginCycle_same (n : CycleNo) (time : Nat) (s : State) : s.SameTable (beginCycle n time s) :=
  ⟨rfl, rfl, rfl, rfl, fun _ => rfl⟩

theorem scheduleEvents_same (s : State) : s.SameTable (scheduleEvents s) := ⟨rfl, rfl, rfl, rfl, fun _ => rfl⟩

theorem transmitAt_same (order : StartOrder) (s : State) : s.SameTable (transmitAt order s) := by
  unfold transmitAt
  split
  · exact (takeHoldRequests_same s).trans (transmit_same _)
  · exact transmit_same s

/-- A cycle start runs when what is done before its transmit does (R124). -/
theorem cycleStart_run (order : StartOrder) (n : CycleNo) (time : Nat) {meanwhile : State → State}
    (h : ∀ u : State, u.TableRun (meanwhile u)) (s : State) : s.TableRun (cycleStart order n time meanwhile s) := by
  unfold cycleStart
  split
  · refine State.TableRun.trans ?_ (h _)
    exact ((beginCycle_same n time s).trans (transmitAt_same order _)).run.trans
      ((makePendingClose_run _).trans ((countdowns_same _).trans (scheduleEvents_same _)).run)
  · refine State.TableRun.trans ?_ ((h _).trans (transmitAt_same order _).run)
    exact (makePendingClose_run s).trans
      ((beginCycle_same n time _).trans ((countdowns_same _).trans (scheduleEvents_same _))).run

theorem renumber_same (n expected : CycleNo) (s : State) : s.SameTable (renumber n expected s) :=
  (s.vmapPorts_same (Port.renumber n) fun _ => rfl).trans (State.post_same ..)

theorem restoreFollow_same (started : Bool) (s : State) : s.SameTable (restoreFollow started s) :=
  State.SameTable.trans (t := { s with timer := { s.timer with clock := .follow } }) ⟨rfl, rfl, rfl, rfl, fun _ => rfl⟩
    (State.post_same ..)

theorem postHoldover_same (s : State) : s.SameTable (postHoldover s) := by
  unfold postHoldover; split
  exacts [s.post_same .., .refl s]

theorem arriveStarting_run (order : StartOrder) (time : Nat) (frame : List Byte) (s : State) :
    s.TableRun (arriveStarting order time frame s) := by
  have hnum : ∀ u : State, u.TableRun (if frameCycle frame = s.timer.cycle + 1 then u
      else renumber (frameCycle frame) (s.timer.cycle + 1) u) := fun u => by
    split
    exacts [.refl u, (renumber_same ..).run]
  unfold arriveStarting
  dsimp only
  split
  · exact cycleStart_run _ _ _ (fun u => (hnum u).trans (takeFrame_run ..)) s
  · exact (cycleStart_run _ _ _ hnum s).trans (takeFrame_run ..)

/-- An arrival runs (R126 to R129). -/
theorem arrive_run (after : Nat) (order : StartOrder) (frame : List Byte) (s : State) :
    s.TableRun (arrive after order frame s) := by
  have htime : ∀ t, s.SameTable { s with timer := t } := fun _ => ⟨rfl, rfl, rfl, rfl, fun _ => rfl⟩
  unfold arrive
  dsimp only
  split
  · exact (htime _).run.trans (arriveStarting_run ..)
  · split
    · exact ((htime _).trans (restoreFollow_same ..)).run.trans (arriveStarting_run ..)
    · exact ((htime _).trans (restoreFollow_same ..)).run.trans (takeFrame_run ..)
  · exact (htime _).run.trans (takeFrame_run ..)

/-! ### Registration intake -/

theorem takeReport_same (g : CycleNo) (s : State) (x : Report) : s.SameTable (takeReport g s x) := by
  have hreg : ∀ l, s.SameTable { s with registrations := l } := fun _ => ⟨rfl, rfl, rfl, rfl, fun _ => rfl⟩
  have hfull : s.SameTable { s with fullReported := true } := ⟨rfl, rfl, rfl, rfl, fun _ => rfl⟩
  unfold takeReport
  split
  · exact .refl s
  · split
    · exact hreg _
    · split
      · exact (hreg _).trans (State.post_same ..)
      · split
        · exact .refl s
        · exact hfull.trans (State.post_same ..)

/-! ### Every command -/

/-- The part as the first transmit finds it (R123, R124). -/
def State.firstStarted : State :=
  { State.powerOn with pendingClose := some ⟨65535, 10⟩, sendDue := Vector.replicate 24 true }

/-- The control block of lane 63 at the first transmit: Attention, Holdover, one event of class Notice (R143). -/
def firstControl : Block := blockOf [0x24, 0x05, 0, 0]

/-- What the first transmit sends on a lane (R92). -/
def firstSend (n : LaneId) : LaneSend := if n = 63 then ⟨.fresh, firstControl⟩ else ⟨.idle, zeroBlock⟩

theorem startCycle_powerOn : startCycle 0 0 State.powerOn = State.firstStarted := rfl

theorem sendLane_firstStarted (n : LaneId) : sendLane n State.firstStarted = (firstSend n, State.firstStarted) := by
  have hc : State.firstStarted.isControl n = decide (n = 63) := by
    revert n; decide
  unfold sendLane firstSend
  rw [hc]
  by_cases hn : n = 63
  · subst hn; rfl
  · have hb : State.firstStarted.binding n = none := replicate_get _ n
    simp only [hn, decide_false, hb]
    rfl

theorem sendLanes_firstStarted (ns : List LaneId) :
    sendLanes ns State.firstStarted = (ns.map firstSend, State.firstStarted) := by
  induction ns with
  | nil => rfl
  | cons n ns ih => simp only [sendLanes, sendLane_firstStarted, ih, List.map_cons]

theorem firstSends : (List.finRange 64).map firstSend =
    List.replicate 63 ⟨.idle, zeroBlock⟩ ++ [⟨.fresh, firstControl⟩] := rfl

theorem upstreamBytes_first :
    upstreamBytes 0 1 ((List.finRange 64).map firstSend) = firstUpstream := by
  have hstat : (List.range 16).map (statusByte ((List.finRange 64).map firstSend)) = List.replicate 15 0 ++ [0x40] := by
    decide +kernel
  have hidle : zeroBlock.toList = List.replicate 64 (0 : Byte) := by decide
  have hctl : firstControl.toList = [0x24, 0x05, 0, 0] ++ List.replicate 60 (0 : Byte) := by decide +kernel
  have hhead : halfBytes 0 ++ [1] = [0, 0, (0x01 : Byte)] := by decide
  unfold upstreamBytes
  rw [hstat, firstSends, List.flatMap_append, hhead, List.flatMap_def, List.map_replicate, hidle,
    List.flatten_replicate_replicate, List.flatMap_singleton, hctl]
  simp only [firstUpstream, List.append_assoc, Nat.reduceMul]

/-- The first cycle start brings the state after reset (R123, log 4). -/
theorem firstCycleStart_powerOn : firstCycleStart State.powerOn = State.reset := by
  unfold firstCycleStart transmit
  rw [startCycle_powerOn, sendLanes_firstStarted]
  dsimp only
  rw [show State.firstStarted.timer.cycle = 0 from rfl, show upstreamFlags State.firstStarted = 1 from by decide,
    upstreamBytes_first]
  rfl

theorem execPowerOnReset_eq (s : State) : execPowerOnReset s = .next { State.reset with pending := s.pending } := by
  rw [execPowerOnReset, firstCycleStart_powerOn]

/-- The state after reset has an empty table (R2). -/
theorem reset_tableStep (s : State) : s.TableStep { State.reset with pending := s.pending } :=
  .cleared (fun r => replicate_get _ r) (fun n => replicate_get _ n) (fun p => replicate_get _ p) rfl

/-- A condition of a row decides whether its turn is made. -/
theorem State.TableRun.ite {c : Prop} [Decidable c] {s t : State} (h : s.TableRun t) :
    s.TableRun (if c then t else s) := by
  split
  exacts [h, .refl s]

theorem expireBar_keeps (a : PortId) (c : Candidate) :
    (expireBar a c).antenna = c.antenna ∧ (expireBar a c).q = c.q ∧ (expireBar a c).absent = c.absent := by
  unfold expireBar; split <;> simp

/-- Every command that answers a next state runs by steps of the table. -/
theorem exec_tableRun {c : Instr} {s t : State} (h : exec c s = .next t) : s.TableRun t := by
  have hread := fun p s => readers_run p s
  have hnext : ∀ {u : State}, (.next u : Out) = .next t → s.TableRun u → s.TableRun t := fun e hu => by
    cases e; exact hu
  cases c with
  | powerOnReset => exact hnext (execPowerOnReset_eq s ▸ h) (reset_tableStep s).run
  | downstreamArrival after order frame =>
    unfold exec execDownstreamArrival at h
    dsimp only at h
    split at h
    · exact hnext h (arrive_run ..)
    · cases h
  | localCycleStart order =>
    unfold exec execLocalCycleStart at h
    dsimp only at h
    split at h
    · exact hnext h (.refl s)
    · exact hnext h (cycleStart_run order _ _ (fun u => .refl u) s)
    · exact hnext h (cycleStart_run order _ _ (fun u => .refl u) s)
  | holdoverWatchExpiry order =>
    unfold exec execHoldoverWatchExpiry at h
    dsimp only at h
    split at h
    · refine hnext h (State.TableRun.trans ?_ (cycleStart_run order _ _ (fun u => (postHoldover_same u).run) _))
      exact State.SameTable.run ⟨rfl, rfl, rfl, rfl, fun _ => rfl⟩
    · exact hnext h (.refl s)
    · exact hnext h (.refl s)
  | freezeExpired => exact hnext h (State.TableRun.ite (freezeTick_same s).run)
  | registrationAgeOut => exact hnext h (State.SameTable.run (State.removeRegistrations_same ..))
  | denyListingExpiry id => exact hnext h (State.SameTable.run ⟨rfl, rfl, rfl, rfl, fun _ => rfl⟩)
  | downlinkSend port =>
    have hsend : ∀ (q : Port) (d : Vector Bool 24) (o : Vector (List Byte) 24), q.state = (s.port port).state →
        s.SameTable { ({ s with sendDue := d } : State).setPort port q with downlinkOut := o } := fun q d o hq =>
      State.SameTable.trans (t := s.setPort port q) (s.modPort_same port (fun _ => q) hq)
        ⟨rfl, rfl, rfl, rfl, fun _ => rfl⟩
    unfold exec execDownlinkSend at h
    dsimp only at h
    split at h
    · split at h
      · exact hnext h (hsend (s.port port).afterSend _ _ rfl).run
      · exact hnext h (State.SameTable.run ⟨rfl, rfl, rfl, rfl, fun _ => rfl⟩)
    · exact hnext h (.refl s)
  | cycleClose => exact hnext h (makePendingClose_run s)
  | linkLost rd => exact hnext h (State.TableRun.ite (missStage_turn false rd s).run)
  | holdWrite =>
    unfold exec execHoldWrite at h
    dsimp only at h
    split at h
    · exact hnext h (.refl s)
    · rename_i q qs _
      exact hnext h (State.SameTable.run (State.SameTable.trans (t := { s with holdRequests := qs })
        ⟨rfl, rfl, rfl, rfl, fun _ => rfl⟩ (takeHoldRequest_same _ q)))
  | bridgeTimeout rd => exact hnext h (State.TableRun.ite (bridgeTimerStage_turn rd s).run)
  | attachTimeout rd => exact hnext h (State.TableRun.ite (attachTimerStage_turn rd s).run)
  | headsetDropped rd => exact hnext h (State.TableRun.ite (orphanStage_turn rd s).run)
  | barTimerExpiry rd antenna => exact hnext h (turn_bars rd s _ (expireBar_keeps antenna)).run
  | portIsolated p =>
    have hmark : s.SameTable { s with isolationDue := vset s.isolationDue p false } := ⟨rfl, rfl, rfl, rfl, fun _ => rfl⟩
    have hisolate : ∀ (ret : ReturnState) (u : State), u.TableRun (isolatePort p ret u) := fun ret u =>
      ((u.modPort_same p (fun q => { q with returnState := ret }) rfl).trans (State.post_same ..)).run.trans
        (enterDown_step p .isolated _).run
    unfold exec execPortIsolated at h
    dsimp only at h
    split at h
    · split at h
      · exact hnext h (hmark.run.trans (hisolate _ _))
      · exact hnext h (hmark.run.trans (hisolate _ _))
      · exact hnext h hmark.run
      · exact hnext h hmark.run
    · exact hnext h (.refl s)
  | registrationIntake =>
    unfold exec execRegistrationIntake at h
    dsimp only at h
    split at h
    · exact hnext h (.refl s)
    · rename_i k ks _
      exact hnext h (State.SameTable.run (State.SameTable.trans (t := { s with intakes := ks })
        ⟨rfl, rfl, rfl, rfl, fun _ => rfl⟩ (State.SameTable.foldl (takeReport_same k.cycle) _ _)))
  | uplinkFrame port bytes =>
    have hcheck : ∀ u, (match parseUplink bytes with
        | none => (.next (s.bumpPort port .frameErrors) : Out)
        | some f => .next (placeFrame port f s)) = .next u → s.TableRun u := fun u hu => by
      split at hu <;> cases hu
      exacts [(s.bumpPort_same ..).run, placeFrame_run ..]
    unfold exec execUplinkFrame at h
    dsimp only at h
    split at h
    · exact hnext h (.refl s)
    · rename_i hst; exact hnext h (examineRecovery_run hst bytes)
    · exact hcheck t h
    · exact hcheck t h
  | echo o p => exact hnext h (serve_run (fun s => (hread p s).1) ..)
  | identify o p => exact hnext h (serve_run (fun s => (hread p s).2.1) ..)
  | readStatus o p => exact hnext h (serve_run (fun s => (hread p s).2.2.1) ..)
  | configure o p => exact hnext h (serve_run (ownConfigure_run p) ..)
  | readParameters o p => exact hnext h (serve_run (fun s => (hread p s).2.2.2.1) ..)
  | setPartition o p => exact hnext h (serve_run (ownSetPartition_run p) ..)
  | restart o p => exact hnext h (serve_run (ownRestart_run p) ..)
  | clearShed o p => exact hnext h (serve_run (ownClearShed_run o p) ..)
  | counterExchangeAdd o p => exact hnext h (serve_run (ownCounterExchangeAdd_run p) ..)
  | activate o p cls => exact hnext h (serve_run (ownPort_run p activatePort_run) ..)
  | makeDormant o p cls => exact hnext h (serve_run (ownPort_run p makePortDormant_run) ..)
  | turnOff o p cls => exact hnext h (serve_run (ownPort_run p turnPortOff_run) ..)
  | portReset o p cls =>
    exact hnext h (serve_run (ownPort_run p fun p s => (s.modPort_same p Port.reset rfl).run) ..)
  | setClass o p cls => exact hnext h (serve_run (ownSetClass_run p cls) ..)
  | loadTranslate o p => exact hnext h (serve_run (ownLoadTranslate_run p) ..)
  | readTranslate o p => exact hnext h (serve_run (fun s => (hread p s).2.2.2.2.2.1) ..)
  | setWindow o p => exact hnext h (serve_run (ownSetWindow_run p) ..)
  | writeWindow o p => exact hnext h (serve_run (ownWriteWindow_run p) ..)
  | readWindow o p => exact hnext h (serve_run (ownReadWindow_run p) ..)
  | fetchRegistrations o p => exact hnext h (serve_run (fun s => (hread p s).2.2.2.2.1) ..)
  | admitHeadset o p => exact hnext h (serve_run (ownAdmit_run p) ..)
  | deny o p => exact hnext h (serve_run (ownDeny_run p) ..)
  | release o p => exact hnext h (serve_run (ownRelease_run p) ..)
  | readRecord o p => exact hnext h (serve_run (fun s => (hread p s).2.2.2.2.2.2) ..)
  | forceHandoff o p => exact hnext h (serve_run (ownForceHandoff_run p) ..)
  | freezeOn o d => exact hnext h (serve_run (ownFreezeOn_run o d) ..)
  | freezeOff o d => exact hnext h (serve_run (ownFreezeOff_run o) ..)
  | fetchEvents o p => exact hnext h (serve_run (ownFetchEvents_run p) ..)

/-- A step runs by steps of the table, from the state with the queue's rest. -/
theorem step_tableRun {s t : State} (h : step s = .next t) :
    ∃ rest, State.TableRun { s with pending := rest } t := by
  unfold step at h
  split at h
  · rename_i hp; cases h; exact ⟨s.pending, .refl s⟩
  · exact ⟨_, exec_tableRun h⟩

end Sys2Proof.Machine
end

section
/-! The laws of the roaming table: every step of the table keeps them, so every command does (O2, O3, O4, O10, O11,
O12). -/

namespace Sys2Proof.Machine

/-! ### The queue of waiting commands -/

theorem State.Turns.pending {s t : State} (h : s.Turns t) : t.pending = s.pending := by
  induction h with
  | refl => rfl
  | next _ step ih => exact step.pending.trans ih

theorem State.TableStep.pending {s t : State} (h : s.TableStep t) : t.pending = s.pending := by
  cases h with
  | turn h => exact h.pending
  | port p _ _ _ h => exact h
  | leave p u v _ _ hu _ _ hturns _ _ _ ht => exact ht.trans (hturns.pending.trans hu)
  | admitted r x n seed _ _ _ _ _ _ h => exact h
  | cleared _ _ _ h => exact h

theorem State.TableRun.pending {s t : State} (h : s.TableRun t) : t.pending = s.pending :=
  h.keeps (P := fun u => u.pending = s.pending) (fun _ _ step ih => step.pending.trans ih) rfl

/-- Every command that can come at all answers a next state (log 18). -/
theorem exec_completes {c : Instr} (s : State) (h : c.wellFormed = true) : ∃ t, exec c s = .next t := by
  cases c with
  | downstreamArrival after order frame =>
    have hlen : frame.length = Config.matrixFrameBytes := by simpa [Instr.wellFormed] using h
    exact ⟨_, if_pos hlen⟩
  | localCycleStart order => unfold exec execLocalCycleStart; dsimp only; split <;> exact ⟨_, rfl⟩
  | holdoverWatchExpiry order => unfold exec execHoldoverWatchExpiry; dsimp only; split <;> exact ⟨_, rfl⟩
  | downlinkSend port => unfold exec execDownlinkSend; dsimp only; split <;> [split; skip] <;> exact ⟨_, rfl⟩
  | holdWrite => unfold exec execHoldWrite; dsimp only; split <;> exact ⟨_, rfl⟩
  | portIsolated port => unfold exec execPortIsolated; dsimp only; split <;> [split; skip] <;> exact ⟨_, rfl⟩
  | registrationIntake => unfold exec execRegistrationIntake; dsimp only; split <;> exact ⟨_, rfl⟩
  | uplinkFrame port bytes =>
    unfold exec execUplinkFrame
    dsimp only
    split
    · exact ⟨_, rfl⟩
    · exact ⟨_, rfl⟩
    · cases parseUplink bytes <;> exact ⟨_, rfl⟩
    · cases parseUplink bytes <;> exact ⟨_, rfl⟩
  | _ => exact ⟨_, rfl⟩

/-! ### Shapes, IDs and lanes (R1, R5, R78) -/

/-- The laws of the records are laws of the records and the lane bindings alone. -/
theorem State.RecordsOk.of_same {s t : State} (h : s.RecordsOk) (hr : t.records = s.records)
    (hb : t.bindings = s.bindings) : t.RecordsOk := by
  have hrec : ∀ r, t.record r = s.record r := fun r => by simp [State.record, hr]
  have hbind : ∀ n, t.binding n = s.binding n := fun n => by simp [State.binding, hb]
  exact
    { shape := fun r => by rw [hrec]; exact h.shape r
      distinct := fun r r' x => by rw [hrec, hrec]; exact h.distinct r r' x
      canonical := fun r x => by rw [hrec]; exact h.canonical r x
      bound := fun n r => by rw [hrec, hbind]; exact h.bound n r }

/-- A turn keeps the laws of the records. -/
theorem State.Turn.recordsOk {s t : State} {r : RecordIx} (h : s.Turn t r) (hs : s.RecordsOk) : t.RecordsOk := by
  have hid : ∀ q x, (t.record q).id = some x → (s.record q).id = some x := fun q x hx => by
    by_cases hq : q = r
    · subst hq
      rcases h.held with ⟨hi, -, -⟩ | ⟨hi, -, -⟩ <;> rw [hi] at hx
      exacts [hx, by cases hx]
    · rwa [h.others q hq] at hx
  refine ⟨fun q => ?_, fun q q' x hx hx' => hs.distinct q q' x (hid q x hx) (hid q' x hx'),
    fun q x hx => hs.canonical q x (hid q x hx), fun n q => ?_⟩
  · by_cases hq : q = r
    · subst hq; exact h.shape (hs.shape q)
    · rw [h.others q hq]; exact hs.shape q
  · rcases h.held with ⟨-, hl, hb⟩ | ⟨-, hl, hb⟩
    · have hlane : (t.record q).lane = (s.record q).lane := by
        by_cases hq : q = r
        · subst hq; exact hl
        · rw [h.others q hq]
      rw [State.binding, hb, hlane]; exact hs.bound n q
    · rw [hb n]
      by_cases hq : q = r
      · subst hq
        rw [hl]
        split
        · simp
        · rename_i hn; simp only [hs.bound, hn, reduceCtorEq]
      · rw [h.others q hq, ← hs.bound n q]
        split
        · rename_i hn
          have := (hs.bound n r).mpr hn
          rw [this]; simp [Ne.symm hq]
        · rfl

theorem State.Turns.recordsOk {s t : State} (h : s.Turns t) (hs : s.RecordsOk) : t.RecordsOk := by
  induction h with
  | refl => exact hs
  | next _ step ih => exact step.recordsOk ih

/-- No record holds the ID that is not found, in a table whose FREE records hold none (R5). -/
theorem State.RecordsOk.unheld {s : State} (h : s.RecordsOk) {x : HeadsetId} (hx : s.findRecord x = none)
    (r : RecordIx) : (s.record r).id ≠ some x := fun hr => by
  have hfree := (List.find?_eq_none.mp hx) r (List.mem_finRange r)
  simp only [ne_eq, decide_not, Bool.and_eq_true, Bool.not_eq_eq_eq_not, Bool.not_true, decide_eq_false_iff_not,
    decide_eq_true_eq, not_and, Bool.decide_and] at hfree
  have hst : (s.record r).state = .free := by_contra fun hne => hfree hne hr
  rw [(Record.shapeOk_free hst).mp (h.shape r)] at hr
  cases hr

/-- An Admit keeps the laws of the records (R11, R83). -/
theorem State.RecordsOk.enrolled {s t : State} (h : s.RecordsOk) {r : RecordIx} {x : HeadsetId} {n : LaneId}
    {seed : Option Registration} (hst : (s.record r).state = .free) (hx : Machine.canonical x = true)
    (hnew : s.findRecord x = none) (hn : s.binding n = none)
    (hr : t.records = vset s.records r (Record.admitted x n seed)) (hb : t.bindings = vset s.bindings n (some r)) :
    t.RecordsOk := by
  have hrec := State.record_of_vset hr
  have hbind : ∀ m, t.binding m = if m = n then some r else s.binding m := fun m => by
    simp only [State.binding, hb, vset_get]
  have hfree := (Record.shapeOk_free hst).mp (h.shape r)
  have hun := h.unheld hnew
  refine ⟨fun q => ?_, fun q q' y => ?_, fun q y => ?_, fun m q => ?_⟩
  · rw [hrec]; split
    · simp [Record.shapeOk, Record.admitted, Record.free]
    · exact h.shape q
  · rw [hrec, hrec]
    split <;> split
    · rename_i e e'; exact fun _ _ => e.trans e'.symm
    · rintro h1 h2; cases h1; exact absurd h2 (hun q')
    · rintro h1 h2; cases h2; exact absurd h1 (hun q)
    · exact h.distinct q q' y
  · rw [hrec]; split
    · rintro h1; cases h1; exact hx
    · exact h.canonical q y
  · rw [hrec, hbind]
    by_cases hm : m = n
    · subst hm
      by_cases hq : q = r
      · simp [hq, Record.admitted]
      · have hl : (s.record q).lane ≠ some m := fun e => by rw [(h.bound m q).mpr e] at hn; cases hn
        simp [hq, hl, Ne.symm hq]
    · by_cases hq : q = r
      · subst hq
        have hl : s.binding m ≠ some q := fun e => by
          have := (h.bound m q).mp e
          rw [hfree] at this; cases this
        simp [hm, hl, Record.admitted, Ne.symm hm]
      · simp only [hm, hq, if_false]; exact h.bound m q

/-- An empty table meets the laws of the records. -/
theorem State.recordsOk_of_cleared {t : State} (hr : ∀ r, t.record r = Record.free) (hb : ∀ n, t.binding n = none) :
    t.RecordsOk where
  shape r := by rw [hr]; rfl
  distinct r r' x h := by rw [hr] at h; cases h
  canonical r x h := by rw [hr] at h; cases h
  bound n r := by simp [hr, hb, Record.free]

theorem State.TableStep.recordsOk {s t : State} (h : s.TableStep t) (hs : s.RecordsOk) : t.RecordsOk := by
  cases h with
  | turn h => exact h.recordsOk hs
  | port p _ hr hb => exact hs.of_same hr hb
  | leave p u v hr hb _ _ _ hturns _ hr' hb' => exact (hturns.recordsOk (hs.of_same hr hb)).of_same hr' hb'
  | admitted r x n seed hst hx hnew hn hr hb => exact hs.enrolled hst hx hnew hn hr hb
  | cleared hr hb => exact State.recordsOk_of_cleared hr hb

/-! ### Loads (R1, R64) -/

/-- A count of the members that pass a test is a sum of ones. -/
theorem length_filter_eq_sum {α : Type} (f : α → Bool) (l : List α) :
    (l.filter f).length = (l.map fun x => if f x then 1 else 0).sum := by
  induction l with
  | nil => rfl
  | cons x l ih => by_cases hx : f x = true <;> simp [hx, ih, Nat.add_comm]

/-- How many records name a port, as a sum over the records. -/
theorem State.named_eq_sum (s : State) (p : PortId) : s.named p = ∑ r, (s.record r).pins p := by
  rw [State.named, length_filter_eq_sum, Fin.sum_univ_def]; rfl

/-- The laws of the loads but that port p, if one is named, need not be ACTIVE. -/
structure State.LoadsBut (s : State) (p : Option PortId) : Prop where
  counted : ∀ q, s.load q = s.named q
  bounded : ∀ q, s.load q ≤ Config.maxLoad
  inService : ∀ r q, p ≠ some q → (s.record r).pinned q = true → (s.port q).state = .active

theorem State.loadsOk_iff (s : State) : s.LoadsOk ↔ s.LoadsBut none :=
  ⟨fun h => ⟨h.counted, h.bounded, fun r q _ => h.inService r q⟩,
    fun h => ⟨h.counted, h.bounded, fun r q => h.inService r q (by simp)⟩⟩

theorem Record.pins_eq_one {rd : Record} {p : PortId} : rd.pins p = 1 ↔ rd.pinned p = true := by
  unfold Record.pins; split <;> simp_all

theorem Record.pins_eq_zero {rd : Record} {p : PortId} : rd.pins p = 0 ↔ rd.pinned p = false := by
  unfold Record.pins; cases rd.pinned p <;> simp

/-- Counted loads cover every record. -/
theorem State.covers_of_counted {s : State} (h : ∀ q, s.load q = s.named q) (r : RecordIx) : s.Covers r := fun p => by
  rw [h, State.named_eq_sum]
  exact Finset.single_le_sum (f := fun r => (s.record r).pins p) (fun _ _ => Nat.zero_le _) (Finset.mem_univ r)

/-- A sum over the records in which one term changes. -/
theorem State.named_of_others {s t : State} {r : RecordIx} (h : ∀ q, q ≠ r → t.record q = s.record q) (p : PortId) :
    t.named p + (s.record r).pins p = s.named p + (t.record r).pins p := by
  have hrest : ∑ q ∈ Finset.univ.erase r, (t.record q).pins p = ∑ q ∈ Finset.univ.erase r, (s.record q).pins p :=
    Finset.sum_congr rfl fun q hq => by rw [h q (Finset.ne_of_mem_erase hq)]
  rw [State.named_eq_sum, State.named_eq_sum, ← Finset.add_sum_erase _ _ (Finset.mem_univ r),
    ← Finset.add_sum_erase _ (fun q => (s.record q).pins p) (Finset.mem_univ r), hrest]
  omega

/-- A turn keeps the laws of the loads. -/
theorem State.Turn.loadsBut {s t : State} {r : RecordIx} (h : s.Turn t r) (hs : (s.record r).shapeOk)
    {p : Option PortId} (hl : s.LoadsBut p) : t.LoadsBut p := by
  have hc := State.covers_of_counted hl.counted r
  refine ⟨fun q => ?_, fun q => ?_, fun r' q hq hp => ?_⟩
  · have h1 := h.loads hs hc q
    have h2 := State.named_of_others h.others q
    have h3 := hl.counted q
    omega
  · have h1 := h.loads hs hc q
    have h2 := hl.bounded q
    have h3 := (t.record r).pins_le_one q
    by_cases hgain : (s.record r).pins q = 0 ∧ (t.record r).pins q = 1
    · have := (h.gained hs hc q hgain.1 hgain.2).2
      omega
    · have := (s.record r).pins_le_one q
      omega
  · rw [h.states q]
    by_cases hr : r' = r
    · subst hr
      by_cases hold : (s.record r').pinned q = true
      · exact hl.inService r' q hq hold
      · exact (h.gained hs hc q (Record.pins_eq_zero.mpr (Bool.eq_false_iff.mpr hold)) (Record.pins_eq_one.mpr hp)).1
    · rw [h.others r' hr] at hp; exact hl.inService r' q hq hp

theorem State.Turns.loadsBut {s t : State} (h : s.Turns t) (hs : s.RecordsOk) {p : Option PortId}
    (hl : s.LoadsBut p) : t.LoadsBut p := by
  induction h with
  | refl => exact hl
  | next steps step ih => exact step.loadsBut ((steps.recordsOk hs).shape _) ih

/-- The loads count the records when records and loads are as in a state whose loads do, but for a port that no record
names and whose load may be 0. -/
theorem State.LoadsBut.of_same {s t : State} {p : PortId} (h : s.LoadsBut (some p)) (hr : t.records = s.records)
    (hst : ∀ q, q ≠ p → (t.port q).state = (s.port q).state) (hun : ∀ r, (s.record r).pinned p = false)
    (hl : ∀ q, t.load q = s.load q ∨ q = p ∧ t.load q = 0) : t.LoadsOk := by
  have hrec : ∀ r, t.record r = s.record r := fun r => by simp [State.record, hr]
  have hnamed : ∀ q, t.named q = s.named q := fun q => by simp only [State.named, hrec]
  have hzero : s.named p = 0 := by simp [State.named, hun]
  have hload : ∀ q, t.load q = s.load q := fun q => by
    rcases hl q with e | ⟨rfl, e⟩
    · exact e
    · rw [e, h.counted, hzero]
  refine ⟨fun q => by rw [hload, hnamed, h.counted], fun q => by rw [hload]; exact h.bounded q, fun r q hp => ?_⟩
  rw [hrec] at hp
  have hq : q ≠ p := by rintro rfl; rw [hun] at hp; cases hp
  rw [hst q hq]
  exact h.inService r q (by simpa using Ne.symm hq) hp

theorem State.LoadsBut.weaken {s : State} (h : s.LoadsBut none) (p : Option PortId) : s.LoadsBut p :=
  ⟨h.counted, h.bounded, fun r q _ => h.inService r q (by simp)⟩

/-- A record that names no antenna. -/
theorem Record.pinned_of_none {rd : Record} (hs : rd.serving = none) (ht : rd.target = none) (p : PortId) :
    rd.pinned p = false := by simp [Record.pinned, hs, ht]

theorem State.TableStep.loadsOk {s t : State} (h : s.TableStep t) (hs : s.RecordsOk) (hl : s.LoadsOk) : t.LoadsOk := by
  have hbut := s.loadsOk_iff.mp hl
  cases h with
  | turn h => exact t.loadsOk_iff.mpr (h.loadsBut (hs.shape _) hbut)
  | port p hp hr _ _ hst hload =>
    refine (hbut.weaken (some p)).of_same hr hst (fun r => ?_) hload
    by_contra hpin
    exact hp (hl.inService r p (by simpa using hpin))
  | leave p u v hr hb hpend hloads hst hturns hgone hr' hb' hpend' hst' hload =>
    have hu : u.LoadsBut (some p) := by
      have hrec : ∀ r, u.record r = s.record r := fun r => by simp [State.record, hr]
      refine ⟨fun q => ?_, fun q => ?_, fun r q hq hp => ?_⟩
      · rw [State.load, hloads, State.named]; simp only [hrec]; exact hl.counted q
      · rw [State.load, hloads]; exact hl.bounded q
      · rw [hst q (by simpa [eq_comm] using hq)]
        exact hl.inService r q (by rwa [hrec] at hp)
    exact (hturns.loadsBut (hs.of_same hr hb) hu).of_same hr' (fun q _ => hst' q) (hgone hs) hload
  | admitted r x n seed hfree _ _ _ hr _ _ hloads hst =>
    have hrec := State.record_of_vset hr
    have hold : (s.record r) = Record.free := (Record.shapeOk_free hfree).mp (hs.shape r)
    have hpin : ∀ q p, (t.record q).pinned p = (s.record q).pinned p := fun q p => by
      rw [hrec]; split
      · rename_i e; rw [e, hold]; rfl
      · rfl
    refine ⟨fun p => ?_, fun p => ?_, fun q p hp => ?_⟩
    · rw [State.load, hloads, State.named]; simp only [hpin]; exact hl.counted p
    · rw [State.load, hloads]; exact hl.bounded p
    · rw [hst]; exact hl.inService q p (by rwa [hpin] at hp)
  | cleared hr _ hload _ =>
    have hpin : ∀ q p, (t.record q).pinned p = false := fun q p => by rw [hr]; exact Record.pinned_of_none rfl rfl p
    exact ⟨fun p => by simp [hload, State.named, hpin], fun p => by simp [hload], fun q p hp => by simp [hpin] at hp⟩

/-! ### Candidate lists (R3, R4, R34) -/

/-- A record just admitted has a lawful list: its seed, if it has one (R39). -/
theorem Record.admitted_candsOk (x : HeadsetId) (n : LaneId) (seed : Option Registration) :
    (Record.admitted x n seed).candsOk := by
  cases seed with
  | none => exact candidatesOk_nil fun a => Record.pinned_of_none rfl rfl a
  | some e =>
    refine ⟨by simp [Record.admitted, Config.maxCandidates], by simp [Record.admitted], by simp [Record.admitted],
      fun a ha => ?_, ?_, by simp [Record.admitted]⟩
    · rw [Record.pinned_of_none rfl rfl a] at ha; cases ha
    · have := e.level.isLt
      simp only [Record.admitted, Option.toList_some, List.map_cons, List.map_nil, List.mem_singleton, forall_eq]
      omega

theorem State.Turn.candidatesOk {s t : State} {r : RecordIx} (h : s.Turn t r) (hs : s.CandidatesOk) :
    t.CandidatesOk := fun q => by
  by_cases hq : q = r
  · subst hq; exact h.listed (hs q)
  · rw [h.others q hq]; exact hs q

theorem State.CandidatesOk.of_same {s t : State} (h : s.CandidatesOk) (hr : t.records = s.records) :
    t.CandidatesOk := fun q => by
  have : t.record q = s.record q := by simp [State.record, hr]
  rw [this]; exact h q

theorem State.Turns.candidatesOk {s t : State} (h : s.Turns t) (hs : s.CandidatesOk) : t.CandidatesOk := by
  induction h with
  | refl => exact hs
  | next _ step ih => exact step.candidatesOk ih

theorem State.TableStep.candidatesOk {s t : State} (h : s.TableStep t) (hs : s.CandidatesOk) : t.CandidatesOk := by
  cases h with
  | turn h => exact h.candidatesOk hs
  | port p _ hr => exact hs.of_same hr
  | leave p u v hr _ _ _ _ hturns _ hr' =>
    exact (hturns.candidatesOk (hs.of_same hr)).of_same hr'
  | admitted r x n seed _ _ _ _ hr =>
    intro q
    rw [State.record_of_vset hr]
    split
    exacts [Record.admitted_candsOk x n seed, hs q]
  | cleared hr =>
    intro q
    rw [hr]
    exact candidatesOk_nil fun a => Record.pinned_of_none rfl rfl a

end Sys2Proof.Machine

section
open Sys2Proof Sys2Proof.Machine

/-- Settles O2: the first cycle start on the power-on values is the state after reset. -/
theorem powerOnResetBringsReset : Obligations.PowerOnResetBringsReset := execPowerOnReset_eq

/-- Settles O4: by the commands' forms for the next state, and since no step of the table touches the queue. -/
theorem everyWellFormedCommandCompletes : Obligations.EveryWellFormedCommandCompletes := by
  refine ⟨fun c s hw => ?_, fun after order frame s hlen => if_neg hlen⟩
  obtain ⟨t, ht⟩ := exec_completes s hw
  exact ⟨t, ht, (exec_tableRun ht).pending⟩

/-- Settles O10: every step of the table keeps the laws of the records. -/
theorem recordsKeepTheirShape : Obligations.RecordsKeepTheirShape := by
  intro s t hs h
  obtain ⟨rest, hrun⟩ := step_tableRun h
  exact hrun.keeps (fun _ _ step => step.recordsOk) (hs.of_same rfl rfl)

/-- Settles O11: every step of the table keeps the laws of records and loads together. -/
theorem loadsCountTheRecords : Obligations.LoadsCountTheRecords := by
  intro s t hs hl h
  obtain ⟨rest, hrun⟩ := step_tableRun h
  exact (hrun.keeps (P := fun u => u.RecordsOk ∧ u.LoadsOk)
    (fun _ _ step h => ⟨step.recordsOk h.1, step.loadsOk h.1 h.2⟩)
    ⟨hs.of_same rfl rfl, ⟨hl.counted, hl.bounded, hl.inService⟩⟩).2

/-- Settles O12: every step of the table keeps every candidate list lawful. -/
theorem candidateListsStayLawful : Obligations.CandidateListsStayLawful := by
  intro s t hs h
  obtain ⟨rest, hrun⟩ := step_tableRun h
  exact hrun.keeps (fun _ _ step => step.candidatesOk) (State.CandidatesOk.of_same (s := s) hs rfl)

end
end

section
/-! Served packets, the state after reset (O3) and Restart (O24). -/

namespace Sys2Proof.Machine

/-! ### Served packets (R138, R139) -/

theorem State.serves_primary {s : State} {o : Origin} (p : Permission) (ho : o.lane = .primary)
    (hq : (s.lane o.lane).queue.length < 16) : s.Serves o p := ⟨hq, by rw [ho]; rfl⟩

theorem State.serves_anyLane {s : State} {o : Origin} (hq : (s.lane o.lane).queue.length < 16) :
    s.Serves o .anyLane := ⟨hq, by cases o.lane <;> rfl⟩

/-- A served packet whose owner carries it out is answered with Done. -/
theorem serve_done {o : Origin} {p : Permission} {s t : State} {owner : State → Reply × State} {answer : List Byte}
    (h : s.Serves o p) (he : owner s = (.done answer, t)) : serve o p owner s = t.done o answer := by
  rw [serve_of_serves h, he]; rfl

/-- A served packet whose owner refuses it is answered with Error. -/
theorem serve_refused {o : Origin} {p : Permission} {s : State} {owner : State → Reply × State} {why : Reason}
    (h : s.Serves o p) (he : owner s = refuse why s) : serve o p owner s = s.refused o why.code := by
  rw [serve_of_serves h, he]; rfl

/-! ### The state after reset -/

@[simp] theorem State.reset_record (r : RecordIx) : State.reset.record r = Record.free := by
  simp [State.record, State.reset, State.powerOn]

@[simp] theorem State.reset_binding (n : LaneId) : State.reset.binding n = none := by
  simp [State.binding, State.reset, State.powerOn]

@[simp] theorem State.reset_load (p : PortId) : State.reset.load p = 0 := by
  simp [State.load, State.reset, State.powerOn]

@[simp] theorem State.reset_port (p : PortId) : State.reset.port p = Port.powerOn := by
  simp [State.port, State.reset, State.powerOn]

@[simp] theorem State.reset_counter (c : CounterName) : State.reset.counter c = 0 := by
  cases c <;> simp [State.counter, State.reset, State.powerOn, State.port, Port.powerOn]

theorem State.reset_laneMapOk : State.reset.LaneMapOk where
  total := rfl
  control := .inl rfl
  voice n r h := by rw [State.reset_binding] at h; cases h
  spared n r h := by rw [State.reset_binding] at h; cases h
  allCall n h := by cases h
  cursorLow := Nat.zero_le _
  cursorHigh := .inl (by decide)

/-! ### Restart (R155, R157) -/

/-- The emptied blocks with Restart Done as the one event. -/
theorem restartBlocks_post (s : State) : (restartBlocks s).post .notice .restartDone none none none 0 =
    { restartBlocks s with events := [⟨.notice, .restartDone, s.timer.cycle, none, none, none, 0⟩] } := rfl

end Sys2Proof.Machine

section
open Sys2Proof Sys2Proof.Machine

/-- Settles O3: the table is empty, and every other block holds a value within its bounds. -/
theorem resetMeetsEveryLaw : Obligations.ResetMeetsEveryLaw := by
  have hpin : ∀ r p, (State.reset.record r).pinned p = false := fun r p => by
    rw [State.reset_record]; exact Record.pinned_of_none rfl rfl p
  refine ⟨State.recordsOk_of_cleared State.reset_record State.reset_binding, ⟨fun p => ?_, fun p => ?_, fun r p h => ?_⟩,
    fun r => ?_, rfl, ?_, State.reset_laneMapOk, fun p => ?_, ⟨fun p => ?_, fun p => ?_, fun n => ?_⟩,
    ⟨⟨by decide, fun _ => rfl⟩, by decide, fun _ => rfl⟩, ⟨by decide, by simp [State.reset, State.powerOn]⟩,
    fun c => ?_, ?_, ?_⟩
  · simp only [State.named, hpin]; simp
  · simp
  · rw [hpin] at h; cases h
  · rw [State.reset_record]; exact candidatesOk_nil fun a => Record.pinned_of_none rfl rfl a
  · constructor <;> simp [State.reset, State.powerOn]
  · rw [State.reset_port]; exact ⟨by simp [Port.powerOn], by simp [Port.powerOn]⟩
  · simp [Port.powerOn]
  · simp [Port.powerOn]
  · simp [State.holdOf, State.reset, State.powerOn, Hold.silent]
  · simp
  · constructor <;> simp [State.reset, State.powerOn, Params.default]
  · simp [Window.ok, State.reset, State.powerOn]

/-- Settles O24: Restart leaves the emptied blocks, and its answer goes to the emptied queue. -/
theorem restartClearsTheWorkingState : Obligations.RestartClearsTheWorkingState := by
  intro o s ho hq
  have hserves := State.serves_primary .primaryOnly ho hq
  refine ⟨⟨(restartBlocks s).post .notice .restartDone none none none 0,
    congrArg Host.Outcome.next (serve_done (owner := ownRestart []) hserves (if_pos rfl)), restartBlocks_post s, fun p => ?_⟩,
    fun p hp => congrArg Host.Outcome.next (serve_refused (owner := ownRestart p) (why := .badArgument) hserves (if_neg hp))⟩
  rw [restartBlocks_post]
  simp [State.port, restartBlocks, Port.reset, ConditionFlags.clear]

end
end

section
/-! The ends of an attempt and of a carriage: Drops asked of one port or two, timeouts, link loss, Lost Hold, and Acquire
Results (O49, O50, O51, O52). -/

namespace Sys2Proof.Machine

/-! ### Drops asked of a list of ports (R118 to R120) -/

theorem State.postLostDrops_append (s : State) (l m : List PortId) (x : HeadsetId) :
    s.postLostDrops (l ++ m) x = (m.filter fun p => ((s.port p).state = .active ∨ (s.port p).state = .dormant) ∧
      (takeOrder (s.port p).orders .drop x).1 = .discarded).foldl
      (fun v p => v.post .warning .orderLost (some p) (some x) none 2) (s.postLostDrops l x) := by
  simp [State.postLostDrops, List.filter_append, List.foldl_append]

theorem State.SameEvents.foldl_post {s t : State} (h : s.SameEvents t) (l : List PortId) (x : HeadsetId) :
    (l.foldl (fun v p => v.post .warning .orderLost (some p) (some x) none 2) s).SameEvents
      (l.foldl (fun v p => v.post .warning .orderLost (some p) (some x) none 2) t) := by
  induction l generalizing s t with
  | nil => exact h
  | cons p l ih => exact ih (h.post ..)

theorem State.foldl_post_keeps (s : State) (l : List PortId) (x : HeadsetId) :
    (l.foldl (fun v p => v.post .warning .orderLost (some p) (some x) none 2) s).params = s.params ∧
      (l.foldl (fun v p => v.post .warning .orderLost (some p) (some x) none 2) s).timer = s.timer := by
  induction l generalizing s with
  | nil => exact ⟨rfl, rfl⟩
  | cons p l ih => simpa using ih (s.post .warning .orderLost (some p) (some x) none 2)

/-- What t has become from s by Drops for headset x asked of the ports of a list: ports, loads and the events of lost
orders change, nothing else. -/
structure State.Dropped (s t : State) (ports : List PortId) (x : HeadsetId) : Prop where
  dropped : s.DroppedAt t ports x
  events : (s.postLostDrops ports x).SameEvents t
  frame : t = { s with ports := t.ports, loads := t.loads, events := t.events, lostEvents := t.lostEvents }

/-- A Drop at a port that may be absent. -/
theorem State.dropAndLower_dropped (s : State) (p : Option PortId) (x : HeadsetId) :
    s.Dropped (s.dropAndLower p x) p.toList x where
  dropped := s.dropAndLower_droppedAt p x
  events :=
    ⟨(s.dropAndLower_events p x).1, (s.dropAndLower_events p x).2,
      (s.dropAndLower_params p x).trans (s.foldl_post_keeps _ x).1.symm,
      (s.dropAndLower_timer p x).trans (s.foldl_post_keeps _ x).2.symm⟩
  frame := s.dropAndLower_frame p x

/-- Drops at two different ports, the first asked first (log 28). -/
theorem State.dropBoth_dropped (s : State) {p q : Option PortId} (x : HeadsetId) (h : ∀ a, p = some a → q ≠ some a) :
    s.Dropped ((s.dropAndLower p x).dropAndLower q x) (p.toList ++ q.toList) x := by
  have hp := s.dropAndLower_dropped p x
  have hq := (s.dropAndLower p x).dropAndLower_dropped q x
  have hout : ∀ a ∈ q.toList, a ∉ p.toList := fun a ha hb =>
    h a (Option.mem_toList.mp hb) (Option.mem_toList.mp ha)
  have hport : ∀ a ∈ q.toList, (s.dropAndLower p x).port a = s.port a := fun a ha => by
    rw [hp.dropped.ports, if_neg (hout a ha)]
  refine ⟨⟨fun a => ?_, fun a => ?_⟩, ?_, ?_⟩
  · rw [hq.dropped.loads, hp.dropped.loads]
    by_cases h1 : a ∈ q.toList
    · simp only [List.mem_append, h1, hout a h1]; simp
    · simp [List.mem_append, h1]
  · rw [hq.dropped.ports]
    by_cases h1 : a ∈ q.toList
    · simp only [List.mem_append, h1, hport a h1]; simp
    · simp [List.mem_append, h1, hp.dropped.ports]
  · rw [State.postLostDrops_append]
    refine State.SameEvents.trans (hp.events.foldl_post _ x) ?_
    have := hq.events
    rw [State.postLostDrops] at this
    rwa [List.filter_congr fun a ha => by rw [hport a ha]] at this
  · have hfq := hq.frame
    have hfp := hp.frame
    generalize (s.dropAndLower p x).dropAndLower q x = t at *
    generalize s.dropAndLower p x = u at *
    rw [hfq, hfp]

/-- A posting and a change of a record may change places. -/
theorem State.post_modRecord (s : State) (r : RecordIx) (f : Record → Record) (c : EventClass) (k : EventKind)
    (p : Option PortId) (i : Option HeadsetId) (n : Option LaneId) (d : Byte) :
    (s.modRecord r f).post c k p i n d = (s.post c k p i n d).modRecord r f := by
  unfold State.post
  by_cases h : c = .info ∧ s.params.infoEvents = false
  · exact (if_pos h).trans (congrArg (State.modRecord · r f) (if_pos h)).symm
  · have h' : ¬(c = .info ∧ (s.modRecord r f).params.infoEvents = false) := h
    rw [if_neg h', if_neg h]; rfl

/-- An order request and a change of a record may change places. -/
theorem State.requestOrder_modRecord (s : State) (r : RecordIx) (f : Record → Record) (p : PortId) (k : OrderKind)
    (x : HeadsetId) : ((s.modRecord r f).requestOrder p k x).2 = ((s.requestOrder p k x).2).modRecord r f := by
  unfold State.requestOrder
  rw [State.modRecord_port]
  by_cases hs : (s.port p).state = .off ∨ (s.port p).state = .isolated
  · simp only [if_pos hs]
  by_cases hd : (takeOrder (s.port p).orders k x).1 = .discarded
  · simp only [if_neg hs, if_pos hd]; rw [← State.post_modRecord]; rfl
  · simp only [if_neg hs, if_neg hd]; rfl

/-- A Drop and a change of a record may change places. -/
theorem State.dropAndLower_modRecord (s : State) (r : RecordIx) (f : Record → Record) (p : Option PortId)
    (x : HeadsetId) : (s.modRecord r f).dropAndLower p x = (s.dropAndLower p x).modRecord r f := by
  cases p with
  | none => rfl
  | some p => simp only [State.dropAndLower, State.dropAt, State.requestOrder_modRecord]; rfl

@[simp] theorem State.modRecord_modRecord (s : State) (r : RecordIx) (f g : Record → Record) :
    (s.modRecord r f).modRecord r g = s.modRecord r fun rd => g (f rd) := by
  simp [State.modRecord_eq]

/-! ### What follows on the Drops -/

/-- Ports and loads stay as the Drops left them while they are not written. -/
theorem State.Dropped.of_same {s t u : State} {l : List PortId} {x : HeadsetId} (h : s.Dropped t l x)
    (hp : u.ports = t.ports) (hl : u.loads = t.loads) : s.DroppedAt u l x where
  loads p := by rw [← h.dropped.loads p]; simp [State.load, hl]
  ports p := by rw [← h.dropped.ports p]; simp [State.port, hp]

/-- An event posted after the Drops stands behind the events of lost orders. -/
theorem State.Dropped.posted {s t u : State} {l : List PortId} {x : HeadsetId} (h : s.Dropped t l x)
    (hu : t.SameEvents u) (c : EventClass) (k : EventKind) (p : Option PortId) (i : Option HeadsetId)
    (n : Option LaneId) (d : Byte) :
    (u.post c k p i n d).events = ((s.postLostDrops l x).post c k p i n d).events ∧
      (u.post c k p i n d).lostEvents = ((s.postLostDrops l x).post c k p i n d).lostEvents := by
  obtain ⟨he, hl, -, -⟩ := (h.events.trans hu).post c k p i n d
  exact ⟨he, hl⟩

/-! ### Timeouts (R16, R60, R61) -/

/-- Record r after a failed bridge to antenna a. -/
def Record.bridgeFailed (rd : Record) (a : PortId) (bar : Nat) : Record :=
  { rd.endBridge with cands := barEntry rd.cands a bar }

/-- The bridge timer at its limit (R60, R61). -/
theorem bridgeTimerStage_reached {s : State} {r : RecordIx} {a : PortId} (hst : (s.record r).state = .bridging)
    (ht : (s.record r).target = some a) (hlim : s.params.bridgeLimit ≤ (s.record r).timer + 1) :
    bridgeTimerStage r s = (some a, (((s.dropAndLower (some a) (s.record r).headset).setRecord r
      ((s.record r).bridgeFailed a s.params.barTime)).bumpRoam .handoffsFailed).post .notice .handoffFailed (some a)
        (s.record r).id (s.record r).lane 2) := by
  simp only [bridgeTimerStage, hst, ht, hlim, if_true, State.dropAndLower_modRecord, failBridge, reportFailed,
    State.modRecord_modRecord, State.modRecord_record, State.postFor]
  simp [State.modRecord_eq, Record.bridgeFailed, Record.endBridge, FailReason.code]

/-- Record r after a failed attach on antenna a. -/
def Record.attachFailed (rd : Record) (a : PortId) (bar : Nat) : Record :=
  { rd with state := .searching, target := none, accepted := false, cands := barEntry rd.cands a bar }

/-- The attach timer at its limit (R16). -/
theorem attachTimerStage_reached {s : State} {r : RecordIx} {a : PortId} (hst : (s.record r).state = .attaching)
    (ht : (s.record r).target = some a) (hlim : s.params.attachLimit ≤ (s.record r).timer + 1) :
    attachTimerStage r s = (some a, ((s.dropAndLower (some a) (s.record r).headset).setRecord r
      ({ s.record r with timer := (s.record r).timer + 1 }.attachFailed a s.params.barTime)).post .notice .attachFailed
        (some a) (s.record r).id (s.record r).lane 2) := by
  simp only [attachTimerStage, hst, ht, hlim, if_true, State.dropAndLower_modRecord, failAttach,
    State.modRecord_modRecord, State.modRecord_record, State.postFor]
  simp [State.modRecord_eq, Record.attachFailed, FailReason.code]

/-! ### Lost Hold (R21, R22) -/

theorem State.returnLane_holdOf (s : State) (n m : LaneId) : (s.returnLane n).holdOf m =
    if m = n then ⟨zeroBlock, false, s.params.concealLimit⟩ else s.holdOf m := by
  rw [State.returnLane, State.silence_holdOf]; rfl

/-- The orphan timer at Lost Hold (R21, R22, R84). -/
theorem orphanStage_reached {s : State} {r : RecordIx} {n : LaneId} (ho : (s.record r).orphaned = true)
    (hn : (s.record r).lane = some n) (hlim : s.params.lostHold ≤ (s.record r).orphan + 1) :
    orphanStage r s = (((s.dropAndLower (s.record r).target (s.record r).headset).returnLane n).setRecord r
      Record.free).post .warning .headsetDropped none (s.record r).id (some n) 0 := by
  simp only [orphanStage, ho, hlim, if_true, State.dropAndLower_modRecord, State.freeRecord, State.modRecord_record,
    State.postFor, State.dropAndLower_record, hn]
  congr 1
  simp [State.modRecord_eq, State.returnLane, State.silence, State.setRecord, State.setBinding, State.setHold]

/-! ### Link loss (R19, R20) -/

/-- The state when record r has lost its link: Drops at the antennas it names, its carriage cleared, Link Lost. -/
def State.linkLost (s : State) (r : RecordIx) : State :=
  (((s.dropAndLower (s.record r).serving (s.record r).headset).dropAndLower (s.record r).target
    (s.record r).headset).setRecord r (s.record r).loseLink).post .warning .linkLost (s.record r).serving
      (s.record r).id (s.record r).lane 0

/-- Link loss clears the carriage, whatever the miss count was. -/
theorem linkLoss_modMiss (s : State) (r : RecordIx) (n : Nat) :
    linkLoss r (s.modRecord r fun rd => { rd with miss := n }) = s.linkLost r := by
  simp only [linkLoss, State.modRecord_record, if_true, State.dropAndLower_modRecord, State.modRecord_modRecord,
    State.postFor, Record.headset]
  simp [State.modRecord_eq, Record.loseLink, State.linkLost, Record.headset]

theorem missStage_idle {s : State} {r : RecordIx} (h : (s.record r).carried = false) (heard : Bool) :
    missStage heard r s = s := by
  simp [missStage, h]

theorem missStage_counts {s : State} {r : RecordIx} {heard : Bool} (h : (s.record r).carried = true)
    (hlim : ¬s.params.missLimit ≤ if heard then 0 else (s.record r).missRaised) : missStage heard r s =
      s.setRecord r { s.record r with miss := if heard then 0 else (s.record r).missRaised } := by
  simp [missStage, h, hlim, State.modRecord_eq]

theorem missStage_lost {s : State} {r : RecordIx} {heard : Bool} (h : (s.record r).carried = true)
    (hlim : s.params.missLimit ≤ if heard then 0 else (s.record r).missRaised) : missStage heard r s = s.linkLost r := by
  simp [missStage, h, hlim, linkLoss_modMiss]

theorem execLinkLost_idle {s : State} {r : RecordIx}
    (h : ¬((s.record r).carried = true ∧ s.params.missLimit ≤ (s.record r).missRaised)) :
    exec (.linkLost r) s = .next s := by
  have : s.missReaches r = false := by simpa [State.missReaches] using h
  simp [exec, execLinkLost, this]

theorem execLinkLost_lost {s : State} {r : RecordIx} (h : (s.record r).carried = true)
    (hlim : s.params.missLimit ≤ (s.record r).missRaised) : exec (.linkLost r) s = .next (s.linkLost r) := by
  simp [exec, execLinkLost, State.missReaches, h, hlim, missStage_lost]

theorem heardVoice_iff (ev : List Evidence) (a : PortId) :
    heardVoice ev a = true ↔ ∃ e ∈ ev, e.port = a ∧ ∃ b, e.burst.kind = .voice b := by
  simp only [heardVoice, List.any_eq_true, Bool.and_eq_true, decide_eq_true_eq]
  refine exists_congr fun e => and_congr_right fun _ => and_congr_right fun _ => ?_
  cases h : e.burst.kind <;> simp [Burst.isVoice, h]

theorem heardVoice?_iff (ev : List Evidence) (a : Option PortId) :
    heardVoice? ev a = true ↔ ∃ e ∈ ev, a = some e.port ∧ ∃ b, e.burst.kind = .voice b := by
  cases a with
  | none => simp [heardVoice?]
  | some a => simp only [heardVoice?, heardVoice_iff, Option.some_inj, @eq_comm _ a]

theorem heardCycle_iff (ev : List Evidence) (rd : Record) : heardCycle ev rd = true ↔
    ∃ e ∈ ev, (∃ b, e.burst.kind = .voice b) ∧
      (rd.serving = some e.port ∨ rd.state = .bridging ∧ rd.target = some e.port) := by
  simp only [heardCycle, Bool.or_eq_true, Bool.and_eq_true, decide_eq_true_eq, heardVoice?_iff]
  constructor
  · rintro (⟨e, he, hp, hb⟩ | ⟨hst, e, he, hp, hb⟩)
    exacts [⟨e, he, hb, .inl hp⟩, ⟨e, he, hb, .inr ⟨hst, hp⟩⟩]
  · rintro ⟨e, he, hb, hp | ⟨hst, hp⟩⟩
    exacts [.inl ⟨e, he, hp, hb⟩, .inr ⟨hst, e, he, hp, hb⟩]

/-! ### Records by their IDs (R5, R13) -/

theorem State.RecordsOk.inUse {s : State} (hs : s.RecordsOk) {r : RecordIx} {x : HeadsetId}
    (hx : (s.record r).id = some x) : (s.record r).state ≠ .free := fun h => by
  rw [(Record.shapeOk_free h).mp (hs.shape r)] at hx; cases hx

theorem State.findRecord_of_unheld {s : State} {x : HeadsetId} (h : ∀ q, (s.record q).id ≠ some x) :
    s.findRecord x = none := by
  simp [State.findRecord, h]

/-- In a lawful table an ID resolves to the one record that holds it. -/
theorem State.RecordsOk.findRecord {s : State} (hs : s.RecordsOk) {r : RecordIx} {x : HeadsetId}
    (hx : (s.record r).id = some x) : s.findRecord x = some r := by
  cases hf : s.findRecord x with
  | none => exact absurd hx (by simpa [hs.inUse hx] using List.find?_eq_none.mp hf r (List.mem_finRange r))
  | some q => rw [hs.distinct q r x (State.findRecord_some hf).2 hx]

/-! ### Acquire Results and voice from the target (R13 to R15, R57 to R61) -/

/-- A failed bridge without a reason: what a failure leaves of the state its Drop has left. -/
theorem failBridge_eq (s : State) (r : RecordIx) (a : PortId) (why : FailReason) :
    failBridge r a why s = ((s.setRecord r ((s.record r).bridgeFailed a s.params.barTime)).bumpRoam
      .handoffsFailed).post .notice .handoffFailed (some a) (s.record r).id (s.record r).lane why.code := rfl

/-- Record r with its bridge completed at antenna p. -/
def Record.bridgeDone (rd : Record) (p : PortId) : Record :=
  { rd with state := .active, serving := some p, target := none, accepted := false, kind := none, timer := 0, miss := 0 }

theorem completeBridge_eq (s : State) (r : RecordIx) (a p : PortId) :
    completeBridge r a p s = (((s.dropAndLower (some a) (s.record r).headset).setRecord r
      ((s.record r).bridgeDone p)).bumpRoam .handoffsDone).post (DoneKind.bridge ((s.record r).kind.getD .automatic)).cls
        .handoffDone (some p) (s.record r).id (s.record r).lane
        (handoffDoneDetail (.bridge ((s.record r).kind.getD .automatic)) a) := by
  simp only [completeBridge, State.modRecord_eq, State.dropAndLower_record]; rfl

theorem DoneKind.cls_bridge (k : BridgeKind) :
    (DoneKind.bridge k).cls = if k = .automatic then .info else .notice := by
  cases k <;> rfl

/-- The detail of a Handoff Done holds the former antenna and the kind side by side (12.5). -/
theorem handoffDoneDetail_bridge (k : BridgeKind) (a : PortId) : handoffDoneDetail (.bridge k) a =
    byteOf (a.val + match k with | .automatic => 0 | .rescue => 32 | .forced => 64) := by
  cases k <;> revert a <;> decide +kernel

end Sys2Proof.Machine
section
open Sys2Proof Sys2Proof.Machine

/-- Settles O51: each row is its timer's stage at the limit, which asks the target for a Drop and bars it. -/
theorem timeoutsEndTheAttempt : Obligations.TimeoutsEndTheAttempt := by
  intro r s hs
  refine ⟨fun h => ?_, fun h => ?_, fun a ha => ⟨fun ⟨hst, hlim⟩ => ?_, fun ⟨hst, hlim⟩ => ?_⟩⟩
  · simp [exec, execBridgeTimeout, State.bridgeReaches, h]
  · simp [exec, execAttachTimeout, State.attachReaches, h]
  · have hd := s.dropAndLower_dropped (some a) (s.record r).headset
    have hrun : exec (.bridgeTimeout r) s = .next (bridgeTimerStage r s).2 := by
      simp [exec, execBridgeTimeout, State.bridgeReaches, hst, hlim]
    rw [bridgeTimerStage_reached hst ha hlim] at hrun
    refine ⟨_, hrun, hd.of_same (by simp) (by simp), fun q => ?_, ?_, hd.posted ?_ .., ?_⟩
    · simp [State.setRecord_record, Record.bridgeFailed, Record.endBridge, barEntry]
    · simp [State.bumpRoam]
    · exact ⟨rfl, rfl, rfl, rfl⟩
    · rw [State.post_frame, s.dropAndLower_frame]; rfl
  · have hd := s.dropAndLower_dropped (some a) (s.record r).headset
    have hrun : exec (.attachTimeout r) s = .next (attachTimerStage r s).2 := by
      simp [exec, execAttachTimeout, State.attachReaches, hst, hlim]
    rw [attachTimerStage_reached hst ha hlim] at hrun
    refine ⟨_, hrun, hd.of_same (by simp) (by simp), fun q => ?_, hd.posted ?_ .., ?_⟩
    · simp [State.setRecord_record, Record.attachFailed, barEntry]
    · exact ⟨rfl, rfl, rfl, rfl⟩
    · rw [State.post_frame, s.dropAndLower_frame]; rfl

/-- Settles O52: the row is the orphan timer's stage at Lost Hold, which frees the record and returns its lane. -/
theorem lostHoldFreesTheRecord : Obligations.LostHoldFreesTheRecord := by
  intro r s hs
  refine ⟨fun h => ?_, fun n ⟨hst, hlim⟩ hn => ?_⟩
  · simp [exec, execHeadsetDropped, State.orphanReaches, Record.orphaned, h]
  · have ho : (s.record r).orphaned = true := by simpa [Record.orphaned] using hst
    have hant : (s.record r).antennas = (s.record r).target.toList := by
      simp [Record.antennas, (hs.shape r).serving_of_orphaned hst]
    have hd := s.dropAndLower_dropped (s.record r).target (s.record r).headset
    have hrun : exec (.headsetDropped r) s = .next (orphanStage r s) := by
      simp [exec, execHeadsetDropped, State.orphanReaches, ho, hlim]
    rw [orphanStage_reached ho hn hlim] at hrun
    rw [hant]
    refine ⟨_, hrun, hd.of_same (by simp) (by simp), fun q => ?_, fun m => ?_, fun m => ?_,
      hd.posted ?_ .., ?_⟩
    · simp [State.setRecord_record]
    · simp [State.returnLane_binding]
    · simp [State.returnLane_holdOf]
    · exact ⟨rfl, rfl, rfl, rfl⟩
    · rw [State.post_frame, s.dropAndLower_frame]; rfl

/-- Settles O50: the row is one unheard cycle of stage 3, which at the limit asks both antennas for a Drop. -/
theorem linkLossAbandonsTheAntennas : Obligations.LinkLossAbandonsTheAntennas := by
  intro r s hs
  have hcar := (s.record r).carried_iff
  refine ⟨fun h => execLinkLost_idle (by rwa [hcar]), fun ⟨hst, hlim⟩ => ?_, fun ev => ⟨fun h => ?_, fun h hh h0 => ?_,
    fun h hh hdue => ?_, fun hh ⟨hst, hlim⟩ => ?_⟩⟩
  · have hd := s.dropBoth_dropped (p := (s.record r).serving) (q := (s.record r).target) (s.record r).headset
      fun a ha => (hs.shape r).distinct ha
    refine ⟨_, execLinkLost_lost (hcar.mpr hst) hlim, hd.of_same (by simp [State.linkLost]) (by simp [State.linkLost]),
      fun q => ?_, hd.posted ?_ .., ?_⟩
    · simp [State.linkLost, State.setRecord_record, Record.loseLink]
    · exact ⟨rfl, rfl, rfl, rfl⟩
    · rw [State.linkLost, State.post_frame, hd.frame]; rfl
  · exact missStage_idle (by simpa [Record.carried] using h) _
  · have hheard := (heardCycle_iff ev _).mpr hh
    rw [missStage_counts (hcar.mpr h) (by simp [hheard]; omega)]
    simp [hheard]
  · have hheard := Bool.eq_false_iff.mpr (mt (heardCycle_iff ev _).mp hh)
    have hlim : ¬s.params.missLimit ≤ (s.record r).missRaised := fun hlim => hdue ⟨h, hlim⟩
    rw [missStage_counts (hcar.mpr h) (by simpa [hheard] using hlim)]
    simp [hheard, Record.missRaised]
  · have hheard := Bool.eq_false_iff.mpr (mt (heardCycle_iff ev _).mp hh)
    exact (execLinkLost_lost (hcar.mpr hst) hlim).trans
      (congrArg _ (missStage_lost (hcar.mpr hst) (by rw [hheard]; exact hlim)).symm)

/-- Settles O49: the record is found by its ID, and each outcome is the end of its attempt. -/
theorem resultsAndVoiceEndTheAttempt : Obligations.ResultsAndVoiceEndTheAttempt := by
  intro p r x s hs hx
  have hf := hs.findRecord hx
  have hh : (s.record r).headset = x := by simp [Record.headset, hx]
  refine ⟨fun ht o => ?_, fun y o hy => ?_, fun ht => ⟨?_, fun hst => ?_, fun hst => ?_, fun ev => ⟨fun hv => ?_,
    fun hv hst => ?_, fun a k hv hst ha hk => ?_⟩⟩⟩
  · simp [takeAcquireResult, hf, ht]
  · simp [takeAcquireResult, State.findRecord_of_unheld hy]
  · have hst : (s.record r).state = .attaching ∨ (s.record r).state = .bridging := by
      have hshape := hs.shape r
      cases hst : (s.record r).state <;> simp [Record.shapeOk, hst, ht] at hshape ⊢
      rw [hshape] at ht; cases ht
    rcases hst with hst | hst <;> simp [takeAcquireResult, hf, ht, hst, State.modRecord_eq]
  · simp [takeAcquireResult, hf, ht, hst, failAttach, State.modRecord_eq, State.postFor, hx, FailReason.code, barEntry]
  · have hd := s.dropAndLower_dropped (some p) x
    have hrun : takeAcquireResult p x .noSlot s = failBridge r p .noSlot (s.dropAndLower (some p) x) := by
      simp [takeAcquireResult, hf, ht, hst, hh]
    rw [failBridge_eq, State.dropAndLower_record, State.dropAndLower_params, hx] at hrun
    refine ⟨_, hrun, ?_, hd.of_same (by simp) (by simp), fun q => ?_, ?_, hd.posted ?_ ..⟩
    · rw [State.post_frame, s.dropAndLower_frame]; rfl
    · simp [State.setRecord_record, Record.bridgeFailed, Record.endBridge, barEntry]
    · simp [State.bumpRoam]
    · exact ⟨rfl, rfl, rfl, rfl⟩
  · have := Bool.eq_false_iff.mpr (mt (heardVoice_iff ev p).mp hv)
    simp [completionStage, ht, this]
  · have := (heardVoice_iff ev p).mpr hv
    simp [completionStage, ht, this, hst, completeAttach, State.modRecord_eq, State.postFor, hx]
  · have hd := s.dropAndLower_dropped (some a) x
    have hheard := (heardVoice_iff ev p).mpr hv
    have hrun : completionStage ev r s = completeBridge r a p s := by
      simp [completionStage, ht, hheard, hst, ha]
    rw [completeBridge_eq, hh, hk, hx, Option.getD_some, handoffDoneDetail_bridge, DoneKind.cls_bridge] at hrun
    refine ⟨_, hrun, ?_, hd.of_same (by simp) (by simp), fun q => ?_, ?_, ?_⟩
    · rw [State.post_frame, s.dropAndLower_frame]; rfl
    · simp [State.setRecord_record, Record.bridgeDone]
    · simp [State.bumpRoam]
    · refine hd.posted ?_ ..
      exact ⟨rfl, rfl, rfl, rfl⟩

end
end

section
/-! Selectors, Read Record and Release (O32, O33). -/

namespace Sys2Proof.Machine

theorem State.serves_fullOnly {s : State} {o : Origin} (ho : o.lane = .primary ∨ s.params.authority = .full)
    (hq : (s.lane o.lane).queue.length < 16) : s.Serves o .fullOnly := by
  refine ⟨hq, ?_⟩
  rcases ho with h | h
  · rw [h]; rfl
  · cases o.lane <;> simp [Permission.allows, h]

/-! ### Selectors (R5) -/

/-- The record the four bytes of a selector resolve to, or the reason they are refused. -/
def State.selected (s : State) (k a b c : Byte) : Except Reason RecordIx :=
  match Selector.ofBytes k a b c with
  | none => .error .badArgument
  | some sel => s.resolve sel

theorem State.selected_kind {k : Byte} (h : 1 < k.toNat) (s : State) (a b c : Byte) :
    s.selected k a b c = .error .badArgument := by
  have h0 : k ≠ 0 := by rintro rfl; simp at h
  have h1 : k ≠ 1 := by rintro rfl; simp at h
  rw [State.selected, Selector.ofBytes, if_neg h0, if_neg h1]

theorem State.selected_index (s : State) {a b c : Byte} (h : (id24 a b c).toNat < 192) :
    s.selected 0 a b c = .ok ⟨(id24 a b c).toNat, h⟩ := by
  simp [State.selected, Selector.ofBytes, State.resolve, h]

theorem State.selected_index_out (s : State) {a b c : Byte} (h : 191 < (id24 a b c).toNat) :
    s.selected 0 a b c = .error .badArgument := by
  have h' : ¬(id24 a b c).toNat < 192 := by omega
  simp [State.selected, Selector.ofBytes, State.resolve, h']

theorem State.selected_id_bad (s : State) {a b c : Byte} (h : canonical (id24 a b c) = false) :
    s.selected 1 a b c = .error .badIdentifier := by
  simp [State.selected, Selector.ofBytes, State.resolve, h]

theorem State.selected_id_unheld {s : State} {a b c : Byte} (h : canonical (id24 a b c) = true)
    (hn : s.findRecord (id24 a b c) = none) : s.selected 1 a b c = .error .notFound := by
  simp [State.selected, Selector.ofBytes, State.resolve, h, hn]

theorem State.selected_id {s : State} {a b c : Byte} {r : RecordIx} (h : canonical (id24 a b c) = true)
    (hr : s.findRecord (id24 a b c) = some r) : s.selected 1 a b c = .ok r := by
  simp [State.selected, Selector.ofBytes, State.resolve, h, hr]

/-- A headset ID is read back as it was sent. -/
theorem id24_idBytes (x : HeadsetId) : id24 (x.extractLsb' 16 8) (x.extractLsb' 8 8) (x.extractLsb' 0 8) = x := by
  unfold id24
  ext i hi
  simp only [BitVec.getElem_append, BitVec.getElem_extractLsb', BitVec.getLsbD]
  rw [BitVec.getElem_eq_testBit_toNat]
  split
  · simp
  · split <;> congr 1 <;> omega

theorem id24_byteOf (r : RecordIx) : (id24 0 0 (byteOf r.val)).toNat = r.val := by
  revert r; decide +kernel

/-- The selectors of a record: its index, or the ID it holds. -/
theorem State.selected_of {s : State} {r : RecordIx} {sel : List Byte} (h : sel = [0, 0, 0, byteOf r.val] ∨
    ∃ x, canonical x = true ∧ s.findRecord x = some r ∧ sel = 1 :: idBytes x) :
    ∃ k a b c, sel = [k, a, b, c] ∧ s.selected k a b c = .ok r := by
  rcases h with rfl | ⟨x, hx, hr, rfl⟩
  · refine ⟨_, _, _, _, rfl, ?_⟩
    rw [State.selected_index s (by rw [id24_byteOf]; exact r.isLt)]
    congr 1
    exact Fin.ext (id24_byteOf r)
  · refine ⟨_, _, _, _, rfl, ?_⟩
    apply State.selected_id <;> rwa [id24_idBytes]

/-! ### The three commands with a selector -/

theorem ownRelease_error {s : State} {k a b c : Byte} {why : Reason} (h : s.selected k a b c = .error why) :
    ownRelease [k, a, b, c] s = refuse why s := by
  simp only [State.selected] at h
  simp only [ownRelease]
  cases hsel : Selector.ofBytes k a b c <;> simp_all

theorem ownRelease_ok {s : State} {k a b c : Byte} {r : RecordIx} (h : s.selected k a b c = .ok r) :
    ownRelease [k, a, b, c] s = releaseRecord r s := by
  simp only [State.selected] at h
  simp only [ownRelease]
  cases hsel : Selector.ofBytes k a b c <;> simp_all

theorem ownReadRecord_error {s : State} {k a b c : Byte} {why : Reason} (h : s.selected k a b c = .error why) :
    ownReadRecord [k, a, b, c] s = refuse why s := by
  simp only [State.selected] at h
  simp only [ownReadRecord]
  cases hsel : Selector.ofBytes k a b c <;> simp_all

theorem ownReadRecord_ok {s : State} {k a b c : Byte} {r : RecordIx} (h : s.selected k a b c = .ok r) :
    ownReadRecord [k, a, b, c] s = (.done (recordBytes r (s.record r)), s) := by
  simp only [State.selected] at h
  simp only [ownReadRecord]
  cases hsel : Selector.ofBytes k a b c <;> simp_all [answer]

theorem ownForceHandoff_error {s : State} {k a b c antenna : Byte} {why : Reason}
    (h : s.selected k a b c = .error why) : ownForceHandoff [k, a, b, c, antenna] s = refuse why s := by
  simp only [State.selected] at h
  simp only [ownForceHandoff]
  cases hsel : Selector.ofBytes k a b c <;> simp_all

theorem ownRelease_length {p : List Byte} (h : p.length ≠ 4) (s : State) : ownRelease p s = refuse .badArgument s := by
  unfold ownRelease; split
  · exact absurd rfl h
  · rfl

theorem ownReadRecord_length {p : List Byte} (h : p.length ≠ 4) (s : State) :
    ownReadRecord p s = refuse .badArgument s := by
  unfold ownReadRecord; split
  · exact absurd rfl h
  · rfl

theorem ownForceHandoff_length {p : List Byte} (h : p.length ≠ 5) (s : State) :
    ownForceHandoff p s = refuse .badArgument s := by
  unfold ownForceHandoff; split
  · exact absurd rfl h
  · rfl

/-- A refused selector refuses the three commands alike. -/
theorem exec_selected_error {s : State} {o : Origin} {k a b c antenna : Byte} {i : Instr} {why : Reason}
    (ho : o.lane = .primary) (hq : (s.lane o.lane).queue.length < 16)
    (hi : i = .release o [k, a, b, c] ∨ i = .readRecord o [k, a, b, c] ∨ i = .forceHandoff o [k, a, b, c, antenna])
    (h : s.selected k a b c = .error why) : exec i s = .next (s.refused o why.code) := by
  rcases hi with rfl | rfl | rfl
  · exact congrArg Host.Outcome.next (serve_refused (State.serves_primary _ ho hq) (ownRelease_error h))
  · exact congrArg Host.Outcome.next (serve_refused (State.serves_primary _ ho hq) (ownReadRecord_error h))
  · exact congrArg Host.Outcome.next (serve_refused (State.serves_primary _ ho hq) (ownForceHandoff_error h))

/-! ### The bytes of a record (Table 12-8) -/

theorem candidateByte_eq (a : PortId) (b : Bool) :
    byteOf a.val ||| (bit b <<< 7) = byteOf (a.val + if b then 128 else 0) := by
  revert a b; decide +kernel

theorem recordFlags_eq (rd : Record) : recordFlags rd =
    byteOf ((if rd.accepted then 1 else 0) + (if rd.deferred then 2 else 0) +
      (match rd.kind with | none => 0 | some .automatic => 4 | some .rescue => 8 | some .forced => 12)) := by
  unfold recordFlags
  rcases rd.kind with _ | _ | _ | _ <;> cases rd.accepted <;> cases rd.deferred <;> rfl

theorem recordBytes_length (r : RecordIx) (rd : Record) : (recordBytes r rd).length = 16 + 6 * rd.cands.length := by
  have hc : ∀ l : List Candidate, (l.flatMap (candidateBytes rd)).length = 6 * l.length := fun l => by
    induction l with
    | nil => rfl
    | cons c l ih =>
      simp only [List.flatMap_cons, List.length_append, ih, List.length_cons, candidateBytes, natBytes, halfBytes,
        List.length_nil]
      omega
  simp [recordBytes, hc, idBytes?, idBytes, natBytes, halfBytes]; omega

end Sys2Proof.Machine
section
open Sys2Proof Sys2Proof.Machine

/-- Settles O32: the three commands resolve their selector alike, and Read Record reports the record it names. -/
theorem selectorsNameRecordsAndReadReportsThem : Obligations.SelectorsNameRecordsAndReadReportsThem := by
  refine ⟨fun o s ho hq => ⟨fun k a b c antenna i hi => ⟨fun h => ?_, fun hk h => ?_, fun hk h => ?_, fun hk h hn => ?_⟩,
    fun p hp => ⟨?_, ?_⟩, fun p hp => ?_⟩, fun o s r sel hq hsel => ?_⟩
  · exact exec_selected_error (why := .badArgument) ho hq hi (State.selected_kind h s a b c)
  · subst hk; exact exec_selected_error (why := .badArgument) ho hq hi (s.selected_index_out h)
  · subst hk; exact exec_selected_error (why := .badIdentifier) ho hq hi (s.selected_id_bad h)
  · subst hk
    refine exec_selected_error (why := .notFound) ho hq hi (State.selected_id_unheld h ?_)
    simp only [State.findRecord, List.find?_eq_none, decide_eq_true_eq]
    exact fun r _ h => h.1 (hn r h.2)
  · exact congrArg Host.Outcome.next (serve_refused (why := .badArgument) (State.serves_primary _ ho hq) (ownRelease_length hp s))
  · exact congrArg Host.Outcome.next (serve_refused (why := .badArgument) (State.serves_primary _ ho hq) (ownReadRecord_length hp s))
  · exact congrArg Host.Outcome.next (serve_refused (why := .badArgument) (State.serves_primary _ ho hq) (ownForceHandoff_length hp s))
  · have hsel' : sel = [0, 0, 0, byteOf r.val] ∨
        ∃ x, canonical x = true ∧ s.findRecord x = some r ∧ sel = 1 :: idBytes x := by
      refine hsel.imp_right fun ⟨x, hx, hid, hst, huniq, he⟩ => ⟨x, hx, ?_, he⟩
      cases hf : s.findRecord x with
      | none => exact absurd hid (by simpa [hst] using List.find?_eq_none.mp hf r (List.mem_finRange r))
      | some q => rw [huniq q (State.findRecord_some hf).2]
    obtain ⟨k, a, b, c, rfl, hr⟩ := State.selected_of hsel'
    intro rd antenna entry x
    have hentry : candidateBytes rd = entry := funext fun e => by
      simp only [candidateBytes, candidateByte_eq, Record.pinned_iff, entry]
    have hx : recordBytes r rd = x := by
      rw [recordBytes, recordFlags_eq, hentry]; rfl
    rw [← hx]
    exact ⟨congrArg Host.Outcome.next (serve_done (State.serves_anyLane hq) (ownReadRecord_ok hr)),
      recordBytes_length r rd⟩

/-- Settles O33: a served Release frees the record it names, after Drops at its antennas. -/
theorem releaseFreesTheRecord : Obligations.ReleaseFreesTheRecord := by
  intro o s r ho hq hs
  have hserves := State.serves_fullOnly ho hq
  refine ⟨fun hst => ?_, fun x n hx hn sel hsel => ?_⟩
  · obtain ⟨k, a, b, c, he, hr⟩ := s.selected_of (.inl rfl : [0, 0, 0, byteOf r.val] = [0, 0, 0, byteOf r.val] ∨ _)
    rw [he]
    refine congrArg Host.Outcome.next (serve_refused (why := .notFound) hserves ((ownRelease_ok hr).trans ?_))
    simp [releaseRecord, hst]
  · have hd := s.dropBoth_dropped (p := (s.record r).serving) (q := (s.record r).target) x
      fun a ha => (hs.shape r).distinct ha
    obtain ⟨k, a, b, c, rfl, hr⟩ := s.selected_of (hsel.imp_right fun h =>
      ⟨x, hs.canonical r x hx, hs.findRecord hx, h⟩)
    have hrel : releaseRecord r s = (.done ([byteOf r.val] ++ idBytes x ++ [byteOf n.val, (s.record r).state.code]),
        (((s.dropAndLower (s.record r).serving x).dropAndLower (s.record r).target x).returnLane n).setRecord r
          Record.free) := by
      simp [releaseRecord, hs.inUse hx, State.freeRecord, hn, hx, Record.headset, idBytes?, laneByte?]
    refine ⟨_, congrArg Host.Outcome.next (serve_done hserves ((ownRelease_ok hr).trans hrel)), hd.of_same (by simp)
      (by simp), hd.events.1, hd.events.2.1, fun q => ?_, fun m => ?_, fun m => ?_, ?_⟩
    · simp [State.setRecord_record]
    · simp [State.returnLane_binding]
    · simp [State.returnLane_holdOf]
    · rw [hd.frame]; rfl

end
end

section
/-! The ends of the timers and counts, by row and in stage 5 of a close (O53). -/

namespace Sys2Proof.Machine

/-! ### The stages of the timers (R16, R21, R60) -/

theorem bridgeTimerStage_idle {s : State} {r : RecordIx} (h : (s.record r).state ≠ .bridging) :
    bridgeTimerStage r s = (none, s) := by
  unfold bridgeTimerStage; dsimp only; split
  · rename_i hst _; exact absurd hst h
  · rfl

theorem bridgeTimerStage_raised {s : State} {r : RecordIx} {a : PortId} (hst : (s.record r).state = .bridging)
    (ht : (s.record r).target = some a) (hlim : ¬s.params.bridgeLimit ≤ (s.record r).timer + 1) :
    bridgeTimerStage r s = (none, s.setRecord r { s.record r with timer := (s.record r).timer + 1 }) := by
  simp [bridgeTimerStage, hst, ht, hlim, State.modRecord_eq]

theorem attachTimerStage_idle {s : State} {r : RecordIx} (h : (s.record r).state ≠ .attaching) :
    attachTimerStage r s = (none, s) := by
  unfold attachTimerStage; dsimp only; split
  · rename_i hst _; exact absurd hst h
  · rfl

theorem attachTimerStage_raised {s : State} {r : RecordIx} {a : PortId} (hst : (s.record r).state = .attaching)
    (ht : (s.record r).target = some a) (hlim : ¬s.params.attachLimit ≤ (s.record r).timer + 1) :
    attachTimerStage r s = (none, s.setRecord r { s.record r with timer := (s.record r).timer + 1 }) := by
  simp [attachTimerStage, hst, ht, hlim, State.modRecord_eq]

theorem execBridgeTimeout_reached {s : State} {r : RecordIx} (hst : (s.record r).state = .bridging)
    (hlim : s.params.bridgeLimit ≤ (s.record r).timer + 1) :
    exec (.bridgeTimeout r) s = .next (bridgeTimerStage r s).2 := by
  simp [exec, execBridgeTimeout, State.bridgeReaches, hst, hlim]

theorem execAttachTimeout_reached {s : State} {r : RecordIx} (hst : (s.record r).state = .attaching)
    (hlim : s.params.attachLimit ≤ (s.record r).timer + 1) :
    exec (.attachTimeout r) s = .next (attachTimerStage r s).2 := by
  simp [exec, execAttachTimeout, State.attachReaches, hst, hlim]

/-- The orphan timer's stage, in its three cases. -/
theorem orphanStage_cases (r : RecordIx) (v : State) :
    if (v.record r).state = .searching ∨ (v.record r).state = .attaching then
      if v.params.lostHold ≤ (v.record r).orphan + 1 then exec (.headsetDropped r) v = .next (orphanStage r v)
      else orphanStage r v = v.setRecord r { v.record r with orphan := (v.record r).orphan + 1 }
    else orphanStage r v = v := by
  split
  · rename_i hst
    have ho := (Record.orphaned_iff _).mpr hst
    split
    · rename_i hlim; simp [exec, execHeadsetDropped, State.orphanReaches, ho, hlim]
    · rename_i hlim; simp [orphanStage, ho, hlim, State.modRecord_eq]
  · rename_i hst
    simp [orphanStage, Bool.eq_false_iff.mpr (mt (Record.orphaned_iff _).mp hst)]

/-- The bar timers' stage spares the antenna barred in this close (R17). -/
theorem barStage_eq (barred : Option PortId) (r : RecordIx) (w : State) (spared : Candidate → Prop)
    [DecidablePred spared] (h : ∀ c, barred = some c.antenna ↔ spared c) :
    barStage barred r w = w.setRecord r { w.record r with
      cands := (w.record r).cands.map fun c => if spared c then c else { c with bar := c.bar - 1 } } := by
  simp only [barStage, State.modRecord_eq]
  congr 3
  funext c
  simp only [lowerBar, h c]

/-- A record in an attempt has a target (Table 1-3). -/
theorem Record.shapeOk.target_of_attempt {rd : Record} (h : rd.shapeOk)
    (hst : rd.state = .bridging ∨ rd.state = .attaching) : ∃ a, rd.target = some a := by
  rcases hst with hst | hst
  · obtain ⟨-, -, -, ht, -⟩ := (Record.shapeOk_bridging hst).mp h
    exact Option.isSome_iff_exists.mp ht
  · obtain ⟨-, -, -, ht, -⟩ := (Record.shapeOk_attaching hst).mp h
    exact Option.isSome_iff_exists.mp ht

/-- The bridge timer's stage ends the bridge, raises the timer, or finds no bridge (R60). -/
theorem bridgeTimerStage_cases {s : State} {r : RecordIx} (hs : (s.record r).shapeOk) :
    ((s.record r).state = .bridging ∧ s.params.bridgeLimit ≤ (s.record r).timer + 1 ∧ ∃ u,
      bridgeTimerStage r s = ((s.record r).target, u) ∧ exec (.bridgeTimeout r) s = .next u ∧
        (u.record r).state = .active ∧ u.params = s.params) ∨
    ((s.record r).state = .bridging ∧ ¬s.params.bridgeLimit ≤ (s.record r).timer + 1 ∧ ∃ u,
      bridgeTimerStage r s = (none, u) ∧ u = s.setRecord r { s.record r with timer := (s.record r).timer + 1 }) ∨
    ((s.record r).state ≠ .bridging ∧ bridgeTimerStage r s = (none, s)) := by
  by_cases hst : (s.record r).state = .bridging
  · obtain ⟨a, ht⟩ := hs.target_of_attempt (.inl hst)
    by_cases hlim : s.params.bridgeLimit ≤ (s.record r).timer + 1
    · have hu := bridgeTimerStage_reached hst ht hlim
      exact .inl ⟨hst, hlim, _, hu.trans (by rw [ht]), (execBridgeTimeout_reached hst hlim).trans (by rw [hu]),
        by simp [Record.bridgeFailed, Record.endBridge], by simp⟩
    · exact .inr (.inl ⟨hst, hlim, _, bridgeTimerStage_raised hst ht hlim, rfl⟩)
  · exact .inr (.inr ⟨hst, bridgeTimerStage_idle hst⟩)

/-- The attach timer's stage ends the attach, raises the timer, or finds no attach (R16). -/
theorem attachTimerStage_cases {s : State} {r : RecordIx} (hs : (s.record r).shapeOk) :
    ((s.record r).state = .attaching ∧ s.params.attachLimit ≤ (s.record r).timer + 1 ∧ ∃ u,
      attachTimerStage r s = ((s.record r).target, u) ∧ exec (.attachTimeout r) s = .next u ∧ u.params = s.params) ∨
    ((s.record r).state = .attaching ∧ ¬s.params.attachLimit ≤ (s.record r).timer + 1 ∧ ∃ u,
      attachTimerStage r s = (none, u) ∧ u = s.setRecord r { s.record r with timer := (s.record r).timer + 1 }) ∨
    ((s.record r).state ≠ .attaching ∧ attachTimerStage r s = (none, s)) := by
  by_cases hst : (s.record r).state = .attaching
  · obtain ⟨a, ht⟩ := hs.target_of_attempt (.inr hst)
    by_cases hlim : s.params.attachLimit ≤ (s.record r).timer + 1
    · have hu := attachTimerStage_reached hst ht hlim
      exact .inl ⟨hst, hlim, _, hu.trans (by rw [ht]), (execAttachTimeout_reached hst hlim).trans (by rw [hu]),
        by simp⟩
    · exact .inr (.inl ⟨hst, hlim, _, attachTimerStage_raised hst ht hlim, rfl⟩)
  · exact .inr (.inr ⟨hst, attachTimerStage_idle hst⟩)

/-- Stage 5, its first two timers given (R8). -/
theorem timerStage_of {s u v : State} {r : RecordIx} {x y : Option PortId} (hb : bridgeTimerStage r s = (x, u))
    (ha : attachTimerStage r u = (y, v)) (spared : Candidate → Prop) [DecidablePred spared]
    (h : ∀ c, x.or y = some c.antenna ↔ spared c) :
    timerStage r s = (orphanStage r v).setRecord r { (orphanStage r v).record r with
      cands := ((orphanStage r v).record r).cands.map fun c => if spared c then c else { c with bar := c.bar - 1 } } := by
  rw [← barStage_eq _ r _ spared h]
  simp [timerStage, hb, ha]

/-! ### Registrations (R74) -/

/-- Aging leaves Registration Full reported only at a queue still full (R73, R74). -/
theorem ageRegistrations_fullReported {s : State} (hs : s.AdmissionOk) :
    (ageRegistrations s).fullReported = true ↔
      s.fullReported = true ∧ (ageRegistrations s).registrations.length = 16 := by
  have hroom : s.registrations.length ≤ 16 := hs.room
  unfold ageRegistrations State.removeRegistrations
  split
  · have hle := s.registrations.length_filter_le fun x => !Registration.aged s.timer.cycle s.params.registrationAge x
    simp only [Bool.and_eq_true, Config.maxRegistrations]
    exact and_congr_right fun _ => ⟨fun h => by have := of_decide_eq_true h; omega, fun h => by simp [h]⟩
  · exact ⟨fun h => ⟨h, hs.armed h⟩, fun h => h.1⟩

end Sys2Proof.Machine
section
open Sys2Proof Sys2Proof.Machine

/-- Settles O53: each row takes one step of its count, and stage 5 runs the rows one after another. -/
theorem countsReachTheirEnd : Obligations.CountsReachTheirEnd := by
  intro s
  refine ⟨fun r a => ⟨_, rfl, rfl, fun q => ?_⟩, fun ha h1 => ?_, fun h => ?_, fun hs => ⟨_, rfl, ?_, ?_, ?_⟩,
    fun hs x => ?_, fun hs r => ?_⟩
  · rw [State.modRecord_record]; rfl
  · simp [exec, execFreezeExpired, freezeTick, ha, h1]
  · have : ¬(s.freeze.active = true ∧ s.freeze.remaining ≤ 1) := by
      rintro ⟨ha, hr⟩
      rcases h with h | h
      · rw [ha] at h; cases h
      · omega
    simp [exec, execFreezeExpired, this]
  · obtain ⟨full, h⟩ := s.removeRegistrations_frame (Registration.aged s.timer.cycle s.params.registrationAge)
    rw [ageRegistrations, h]
  · rw [ageRegistrations, State.removeRegistrations_registrations]
    exact List.filter_congr fun e _ => by rw [Registration.aged, ← decide_not]; simp only [Nat.not_le]
  · exact ageRegistrations_fullReported hs
  · have : (s.denials.filter fun d => !(d.id = x && d.remaining ≤ 1)) =
        s.denials.filter fun d => ¬(d.id = x ∧ d.remaining = 1) :=
      List.filter_congr fun d hd => by
        have := (hs.counts d hd).1
        have heq : d.remaining ≤ 1 ↔ d.remaining = 1 := by omega
        simp [heq]
    exact congrArg (fun l => Host.Outcome.next { s with denials := l }) this
  · rcases bridgeTimerStage_cases (hs.shape r) with ⟨hst, hlim, u, hb, hu, hact, hp⟩ | ⟨hst, hlim, u, hb, hu⟩ | ⟨hst, hb⟩
    · have ha := attachTimerStage_idle (s := u) (r := r) (by simp [hact])
      refine ⟨u, u, orphanStage r u, by simp [hst, hlim, hu], by simp [hst], hp ▸ orphanStage_cases r u,
        timerStage_of hb ha _ fun c => ?_⟩
      simp [hst, hlim]
    · have ha := attachTimerStage_idle (s := u) (r := r) (by simp [hu, hst])
      have hp : u.params = s.params := by simp [hu]
      refine ⟨u, u, orphanStage r u, by simp [hst, hlim, hu], by simp [hst], hp ▸ orphanStage_cases r u,
        timerStage_of hb ha _ fun c => ?_⟩
      simp [hst, hlim]
    · rcases attachTimerStage_cases (hs.shape r) with ⟨hst', hlim, u, ha, hu, hp⟩ | ⟨hst', hlim, u, ha, hu⟩ | ⟨hst', ha⟩
      · refine ⟨s, u, orphanStage r u, by simp [hst], by simp [hst', hlim, hu], hp ▸ orphanStage_cases r u,
          timerStage_of hb ha _ fun c => ?_⟩
        simp [hst', hlim]
      · have hp : u.params = s.params := by simp [hu]
        refine ⟨s, u, orphanStage r u, by simp [hst], by simp [hst', hlim, hu], hp ▸ orphanStage_cases r u,
          timerStage_of hb ha _ fun c => ?_⟩
        simp [hst', hlim]
      · refine ⟨s, s, orphanStage r s, by simp [hst], by simp [hst'], orphanStage_cases r s,
          timerStage_of hb ha _ fun c => ?_⟩
        simp [hst, hst']

end
end

section
/-! Stage 6 of a close: the decision of an ACTIVE record and the search of a SEARCHING one (O48). -/

namespace Sys2Proof.Machine

/-! ### The first entry that fits -/

/-- The search of a list stops at its first member that passes. -/
theorem find?_first {α : Type} {f : α → Bool} {l m : List α} {x : α} (hl : ∀ y ∈ l, f y = false) (hx : f x = true) :
    (l ++ x :: m).find? f = some x := by
  rw [List.find?_append, List.find?_eq_none.mpr fun y hy => by simp [hl y hy]]
  simp [hx]

/-- An antenna that a record on serving antenna x may be handed off to (R42, R46.1). -/
def State.freeFor (s : State) (x : PortId) (c : Candidate) : Prop :=
  (s.port c.antenna).state = .active ∧ (s.port c.antenna).flags.rfOverload = false ∧
    (s.port c.antenna).flags.referenceLost = false ∧ s.load c.antenna < 12 ∧ c.bar = 0 ∧ c.antenna ≠ x ∧
    (s.cell x c.antenna).relation ≠ .barred

theorem State.freeFor_iff {s : State} {rd : Record} {x : PortId} (hx : rd.serving = some x) (c : Candidate) :
    (s.usableFor rd c && (s.neighbour x c.antenna).relation ≠ .barred) = true ↔ s.freeFor x c := by
  have hne : rd.serving ≠ some c.antenna ↔ c.antenna ≠ x := by rw [hx, ne_eq, Option.some_inj, eq_comm]
  rw [Bool.and_eq_true, decide_eq_true_iff, State.usableFor, decide_eq_true_iff, hne, State.usable_iff, State.inService,
    decide_eq_true_iff]
  exact ⟨fun ⟨⟨⟨⟨ha, ho, hr⟩, hl, hb⟩, hn⟩, hrel⟩ => ⟨ha, ho, hr, hl, hb, hn, hrel⟩,
    fun ⟨ha, ho, hr, hl, hb, hn, hrel⟩ => ⟨⟨⟨⟨ha, ho, hr⟩, hl, hb⟩, hn⟩, hrel⟩⟩

theorem handoffChoice_none {s : State} {rd : Record} {x : PortId} (hx : rd.serving = some x)
    (h : ∀ c ∈ rd.cands, ¬s.freeFor x c) : handoffChoice s rd x = none :=
  List.find?_eq_none.mpr fun c hc => mt (State.freeFor_iff hx c).mp (h c hc)

theorem handoffChoice_first {s : State} {rd : Record} {x : PortId} (hx : rd.serving = some x)
    {l m : List Candidate} {b : Candidate} (hc : rd.cands = l ++ b :: m) (hl : ∀ c ∈ l, ¬s.freeFor x c)
    (hb : s.freeFor x b) : handoffChoice s rd x = some b := by
  rw [handoffChoice, hc]
  exact find?_first (fun c hc => Bool.eq_false_iff.mpr (mt (State.freeFor_iff hx c).mp (hl c hc)))
    ((State.freeFor_iff hx b).mpr hb)

/-- An antenna that a searching record may attach on (R41, R42). -/
def State.fitsSearch (s : State) (c : Candidate) : Prop :=
  (s.port c.antenna).state = .active ∧ (s.port c.antenna).flags.rfOverload = false ∧
    (s.port c.antenna).flags.referenceLost = false ∧ s.load c.antenna < 12 ∧ c.bar = 0 ∧
    16 * s.params.reacquireLevel ≤ c.q

theorem State.fitsSearch_iff (s : State) (c : Candidate) :
    (s.usable c && meetsReacquire s.params c) = true ↔ s.fitsSearch c := by
  rw [Bool.and_eq_true, State.usable_iff, State.inService, decide_eq_true_iff, meetsReacquire, decide_eq_true_iff]
  exact ⟨fun ⟨⟨⟨ha, ho, hr⟩, hl, hb⟩, hq⟩ => ⟨ha, ho, hr, hl, hb, hq⟩,
    fun ⟨ha, ho, hr, hl, hb, hq⟩ => ⟨⟨⟨ha, ho, hr⟩, hl, hb⟩, hq⟩⟩

theorem searchChoice_none {s : State} {cs : List Candidate} (h : ∀ c ∈ cs, ¬s.fitsSearch c) :
    (cs.find? fun c => s.usable c && meetsReacquire s.params c) = none :=
  List.find?_eq_none.mpr fun c hc => mt (s.fitsSearch_iff c).mp (h c hc)

theorem searchChoice_first {s : State} {cs l m : List Candidate} {b : Candidate} (hc : cs = l ++ b :: m)
    (hl : ∀ c ∈ l, ¬s.fitsSearch c) (hb : s.fitsSearch b) :
    (cs.find? fun c => s.usable c && meetsReacquire s.params c) = some b := by
  rw [hc]
  exact find?_first (fun c hc => Bool.eq_false_iff.mpr (mt (s.fitsSearch_iff c).mp (hl c hc)))
    ((s.fitsSearch_iff b).mpr hb)

/-! ### A bridge begun by the decision (R55, R56) -/

/-- An ACTIVE record without a trace of an attempt. -/
def Record.idle (rd : Record) : Record :=
  { rd with
    target := none
    accepted := false
    kind := none
    timer := 0
    dwellTarget := none
    dwellCount := 0
    deferred := false }

/-- A bridge that the decision begins, whatever it has counted in the dwell fields (R55, R56). -/
theorem beginBridge_outcome {w : State} {r : RecordIx} {t : PortId} {k : BridgeKind} {rd : Record} (hk : k ≠ .forced)
    (hst : (w.record r).state = .active) (ht : (w.port t).state = .active)
    (hrd : rd = { w.record r with
      dwellTarget := rd.dwellTarget, dwellCount := rd.dwellCount, deferred := rd.deferred }) :
    let asked := takeOrder (w.port t).orders .acquire ((w.record r).id.getD 0)
    (asked.1 ≠ .refused → ∃ v : State, (beginBridge r t k (w.setRecord r rd)).2 = v ∧
      v = { w with records := v.records, loads := v.loads, ports := v.ports } ∧
      (∀ q, v.record q = if q = r then
        { (w.record r).idle with state := .bridging, target := some t, kind := some k } else w.record q) ∧
      (∀ p, v.load p = if p = t then w.load p + 1 else w.load p) ∧
      ∀ p, v.port p = if p = t then { w.port p with orders := asked.2 } else w.port p) ∧
    (asked.1 = .refused → (beginBridge r t k (w.setRecord r rd)).2 =
      ((w.setRecord r (w.record r).idle).bumpRoam .handoffsFailed).post
        .notice .handoffFailed (some t) (w.record r).id (w.record r).lane 1) := by
  intro asked
  have hid : rd.headset = (w.record r).id.getD 0 := by rw [hrd]; rfl
  have ht' : ((w.setRecord r rd).port t).state = .active := ht
  refine ⟨fun ho => ?_, fun ho => ?_⟩
  · have hb := beginBridge_taken (s := w.setRecord r rd) (r := r) (k := k) ht' (by
      rw [State.setRecord_record_same, hid]; exact ho)
    rw [State.setRecord_record_same, hid, State.setRecord_setRecord] at hb
    refine ⟨_, congrArg Prod.snd hb, rfl, fun q => ?_, fun p => ?_, fun p => ?_⟩
    · have : rd.bridgeBegun k t = { (w.record r).idle with state := .bridging, target := some t, kind := some k } := by
        rw [hrd]; simp [Record.bridgeBegun, Record.bridgeCands, hk, Record.idle]
      simp [State.setRecord_record, this]
    · by_cases hp : p = t <;> simp [State.raiseLoad_load, hp]
    · by_cases hp : p = t <;> simp [State.setPort_port, hp, asked]
  · have hb := beginBridge_refused (s := w.setRecord r rd) (r := r) (k := k) ht' (by
      rw [State.setRecord_record_same, hid]; exact ho)
    rw [State.setRecord_record_same, State.setRecord_setRecord] at hb
    have : ({ rd.endBridge with cands := rd.bridgeCands k t } : Record) = (w.record r).idle := by
      rw [hrd]; simp [Record.endBridge, Record.bridgeCands, hk, Record.idle, hst]
    rw [this] at hb
    rw [hb, hrd]; rfl

/-! ### The handoff test (R46 to R48) -/

theorem handoffPasses_iff {s : State} {rd : Record} {x : PortId} {own : Candidate} (b : Candidate)
    (hown : rd.cands.find? (fun c => c.antenna = x) = some own) : handoffPasses s rd x b = true ↔
      (own.q : Int) + 16 * max 0 ((s.params.hysteresisMargin : Int) + (s.cell x b.antenna).offset.toInt) < b.q := by
  have he : entryFor rd.cands x = some own := hown
  simp only [handoffPasses, he, decide_eq_true_eq]
  simp only [handoffMargin, Neighbour.offsetInt, State.neighbour, State.cell]
  omega

theorem requiredDwell_eq (d : Nat) (rel : Relation) :
    requiredDwell d rel = if rel = .preferred then (d + 1) / 2 else d := by
  cases rel <;> rfl

theorem Record.countDwell_counts (rd : Record) (b : PortId) (need : Nat) : rd.countDwell b need = { rd with
    dwellTarget := some b
    dwellCount := if rd.dwellTarget = some b then min need (rd.dwellCount + 1) else 1
    deferred := if rd.dwellTarget = some b then rd.deferred else false } := by
  unfold Record.countDwell
  split
  · rename_i h
    have : (if need ≤ rd.dwellCount then need else rd.dwellCount + 1) = min need (rd.dwellCount + 1) := by
      split <;> omega
    rw [this, ← h]
  · rfl

/-- The handoff test of a record, its choice given (R46 to R48). -/
theorem handoffTest_of {s : State} {r : RecordIx} {x : PortId} {b : Candidate}
    (h : handoffChoice s (s.record r) x = some b) :
    let need := requiredDwell s.params.dwell (s.neighbour x b.antenna).relation
    let counted := (s.record r).countDwell b.antenna need
    (handoffPasses s (s.record r) x b = false → handoffTest r x s = s.setRecord r (s.record r).clearDwell) ∧
      (handoffPasses s (s.record r) x b = true →
        (counted.dwellCount ≠ need → handoffTest r x s = s.setRecord r counted) ∧
        (counted.dwellCount = need → s.freeze.active = true →
          handoffTest r x s = s.setRecord r { counted with deferred := true }) ∧
        (counted.dwellCount = need → s.freeze.active = false →
          handoffTest r x s = (beginBridge r b.antenna .automatic (s.setRecord r counted)).2)) := by
  intro need counted
  refine ⟨fun hp => ?_, fun hp => ⟨fun hn => ?_, fun hn hf => ?_, fun hn hf => ?_⟩⟩
  · simp [handoffTest, h, hp]
  · simp only [handoffTest, h, hp, if_true]; exact if_neg hn
  · simp only [handoffTest, h, hp, if_true]; rw [if_pos hn, hf]; rfl
  · simp only [handoffTest, h, hp, if_true]; rw [if_pos hn, hf]; rfl

theorem decisionStage_active {s : State} {r : RecordIx} {x : PortId} (hst : (s.record r).state = .active)
    (hx : (s.record r).serving = some x) : decisionStage r s = decideActive r x s := by
  simp [decisionStage, hst, hx]

theorem decideActive_heard {s : State} {r : RecordIx} (x : PortId)
    (h : ¬s.params.rescueThreshold ≤ (s.record r).miss) : decideActive r x s = handoffTest r x s := by
  simp [decideActive, h]

end Sys2Proof.Machine
section
open Sys2Proof Sys2Proof.Machine

/-- Settles O48: by the first entry that fits; a bridge or attach begun is the order queue's outcome. -/
theorem decisionWaitsForMarginAndDwell : Obligations.DecisionWaitsForMarginAndDwell := by
  refine ⟨fun r x own s hst hx hown => ⟨fun h => ?_, fun before after b hc hl hb => ?_⟩,
    fun r s => ⟨fun h1 h2 => ?_, fun h1 h => ?_, fun before after b hst hc hl hb => ?_⟩⟩
  · have hnone := handoffChoice_none hx h
    have htest : handoffTest r x s = s.setRecord r (s.record r).clearDwell := by simp [handoffTest, hnone]
    rw [decisionStage_active hst hx, decideActive]
    simp only [hnone, htest, ite_self]; rfl
  · have hchoice := handoffChoice_first hx hc hl hb
    intro margin passes need count counted asked idle begins
    have hpass : handoffPasses s (s.record r) x b = true ↔ passes := handoffPasses_iff b hown
    obtain ⟨hfail, hgo⟩ := handoffTest_of hchoice
    rw [requiredDwell_eq, Record.countDwell_counts] at hgo
    have hstage := decisionStage_active hst hx
    refine ⟨fun hu => ?_, fun hu hp => ?_, fun hu hp hn => ?_, fun hu hp hn hf => ?_, fun hu hp hn hf => ?_⟩
    · have hrun : decisionStage r s = beginRescue r b.antenna s := by
        rw [hstage, decideActive]; simp only [hchoice]; exact if_pos hu
      have hout := beginBridge_outcome (w := (s.bumpRoam .rescues).postFor .notice .rescueStarted (some b.antenna)
        (s.record r) 0) (r := r) (k := .rescue) (t := b.antenna) (rd := State.record _ r) (by simp) (by simpa using hst)
        (by simpa using hb.1) rfl
      rw [State.setRecord_self] at hout
      rw [beginRescue] at hrun
      rw [← hrun] at hout
      simp only [State.postFor_record, State.bumpRoam_record, State.postFor_port, State.bumpRoam_port,
        State.postFor_load, State.bumpRoam_load] at hout
      exact hout
    · rw [hstage, decideActive_heard x hu]; exact hfail (Bool.eq_false_iff.mpr (mt hpass.mp hp))
    · rw [hstage, decideActive_heard x hu]; exact (hgo (hpass.mpr hp)).1 hn
    · rw [hstage, decideActive_heard x hu]; exact (hgo (hpass.mpr hp)).2.1 hn hf
    · have hrun : handoffTest r x s = (beginBridge r b.antenna .automatic (s.setRecord r counted)).2 :=
        (hgo (hpass.mpr hp)).2.2 hn hf
      have hout := beginBridge_outcome (k := .automatic) (rd := counted) (by simp) hst hb.1 rfl
      rw [← decideActive_heard x hu, ← hstage] at hrun
      rw [← hrun] at hout
      exact hout
  · unfold decisionStage; split
    · rename_i h _; exact absurd h h1
    · rename_i h; exact absurd h h2
    · rfl
  · have hnone := searchChoice_none h
    simp [decisionStage, h1, searchStage, hnone]
  · have hchoice := searchChoice_first hc hl hb
    have hrun : decisionStage r s = beginAttach r b.antenna s := by
      simp [decisionStage, hst, searchStage, hchoice]
    refine ⟨fun ho => ⟨_, hrun, ?_⟩, fun ho => ?_⟩
    · rw [beginAttach_taken hb.1 ho]
      refine ⟨rfl, fun q => ?_, fun p => ?_, fun p => ?_⟩
      · simp [State.setRecord_record, Record.attachBegun]
      · by_cases hp : p = b.antenna <;> simp [State.raiseLoad_load, hp]
      · by_cases hp : p = b.antenna <;> simp [State.setPort_port, hp, Record.headset]
    · rw [hrun, beginAttach_refused hb.1 ho]; rfl
end
end

section
/-! A port leaving ACTIVE by command (O31) and by isolation (O59). -/

namespace Sys2Proof.Machine

/-! ### What a departure leaves alone -/

/-- Two values of a port agree but for orders and counters. -/
def Port.SameButQueue (x y : Port) : Prop := { y with orders := x.orders, counters := x.counters } = x

theorem Port.SameButQueue.refl (x : Port) : x.SameButQueue x := rfl

theorem Port.SameButQueue.trans {x y z : Port} (h : x.SameButQueue y) (h' : y.SameButQueue z) : x.SameButQueue z := by
  unfold Port.SameButQueue at h h' ⊢
  rw [← h, ← h']

theorem Port.askedDrop_sameButQueue (x : Port) (h : HeadsetId) : x.SameButQueue (x.askedDrop h) := by
  unfold Port.askedDrop; dsimp only
  repeat' split
  all_goals rfl

theorem State.dropAt_sameButQueue (s : State) (p q : PortId) (x : HeadsetId) :
    (s.port q).SameButQueue ((s.dropAt p x).port q) := by
  rw [State.dropAt_port]; split
  · rename_i h; rw [h]; exact Port.askedDrop_sameButQueue _ _
  · exact .refl _

/-- The departure of a port leaves every port as it was but for orders and counters. -/
theorem Record.leavePort_sameButQueue (rd : Record) (p q : PortId) (d : Bool) (v : State) :
    (v.port q).SameButQueue ((rd.leavePort p d v).port q) := by
  have hd : (v.port q).SameButQueue ((if d then v.dropAt p rd.headset else v).port q) := by
    split
    · exact v.dropAt_sameButQueue p q _
    · exact .refl _
  unfold Record.leavePort; dsimp only
  generalize (if d then v.dropAt p rd.headset else v) = v₁ at hd ⊢
  repeat' split
  · simpa only [State.post_port] using hd
  · simpa only [State.post_port, State.bumpRoam_port] using hd
  · simpa only [State.post_port, State.lowerLoad_port] using hd.trans (v₁.dropAt_sameButQueue _ q _)
  · simpa only [State.post_port, State.bumpRoam_port] using hd
  · simpa only [State.post_port] using hd
  · exact .refl _

/-- A port gone OFF or ISOLATED is asked for nothing as it leaves: its orders and counters stay (R24, R120). -/
theorem Record.leavePort_self {rd : Record} (hs : rd.shapeOk) (p : PortId) (v : State) :
    (rd.leavePort p false v).port p = v.port p := by
  simp only [Record.leavePort, Bool.false_eq_true, if_false]
  split
  · rename_i hp
    split
    · simp
    · rename_i t ht
      have hne : p ≠ t := fun e => hs.distinct hp (e ▸ ht)
      split
      · simp
      · simp [State.dropAt_port, hne]
  · repeat' split
    all_goals simp

/-- The fields that a departure may change. -/
def State.TouchedBy (u v : State) : Prop := v = { u with
  ports := v.ports
  records := v.records
  loads := v.loads
  roamCounters := v.roamCounters
  events := v.events
  lostEvents := v.lostEvents }

theorem State.TouchedBy.refl (u : State) : u.TouchedBy u := rfl

theorem State.TouchedBy.of_eq {u v : State} {P : Vector Port 24} {R : Vector Record 192} {L : Vector Nat 24}
    (h : v = { u with ports := P, records := R, loads := L }) : u.TouchedBy v := by
  subst h; rfl

theorem State.TouchedBy.trans {u v w : State} (h : u.TouchedBy v) (h' : v.TouchedBy w) : u.TouchedBy w := by
  unfold State.TouchedBy at h h' ⊢; rw [h', h]

theorem State.TouchedBy.post {u v : State} (h : u.TouchedBy v) (c : EventClass) (k : EventKind) (p : Option PortId)
    (i : Option HeadsetId) (n : Option LaneId) (d : Byte) : u.TouchedBy (v.post c k p i n d) :=
  h.trans (by rw [State.TouchedBy, v.post_frame])

theorem State.TouchedBy.dropAt {u v : State} (h : u.TouchedBy v) (p : PortId) (x : HeadsetId) :
    u.TouchedBy (v.dropAt p x) :=
  h.trans (by rw [State.TouchedBy, v.dropAt_frame])

theorem State.TouchedBy.bumpRoam {u v : State} (h : u.TouchedBy v) (k : RoamCounter) : u.TouchedBy (v.bumpRoam k) :=
  h.trans rfl

theorem State.TouchedBy.lowerLoad {u v : State} (h : u.TouchedBy v) (p : PortId) : u.TouchedBy (v.lowerLoad p) :=
  h.trans rfl

theorem Record.leavePort_touched (rd : Record) (p : PortId) (d : Bool) (v : State) :
    v.TouchedBy (rd.leavePort p d v) := by
  have hd : v.TouchedBy (if d then v.dropAt p rd.headset else v) := by
    split
    · exact (State.TouchedBy.refl v).dropAt p _
    · exact .refl v
  unfold Record.leavePort; dsimp only
  generalize (if d then v.dropAt p rd.headset else v) = v₁ at hd ⊢
  repeat' split
  exacts [hd.post .., (hd.bumpRoam _).post .., ((hd.dropAt _ _).lowerLoad _).post .., (hd.bumpRoam _).post ..,
    hd.post .., .refl v]

/-! ### What a departure counts -/

/-- A record counts in a counter as port p leaves: a promotion in Handoffs Done, a failed bridge in Handoffs Failed
(R23, R24). -/
def Record.countsIn (rd : Record) (p : PortId) (k : Fin 4) : Bool :=
  if k = RoamCounter.handoffsDone.index then rd.serving = some p ∧ rd.state = .bridging ∧ rd.accepted = true
  else if k = RoamCounter.handoffsFailed.index then rd.target = some p ∧ rd.state = .bridging
  else false

theorem State.bumpRoam_get (s : State) (c : RoamCounter) (k : Fin 4) : (s.bumpRoam c).roamCounters.get k =
    if k = c.index then satInc (s.roamCounters.get k) else s.roamCounters.get k := by
  simp only [State.bumpRoam, vset_get]
  split
  · rename_i h; rw [h]
  · rfl

theorem State.dropAt_roamCounters (s : State) (p : PortId) (x : HeadsetId) :
    (s.dropAt p x).roamCounters = s.roamCounters := by rw [s.dropAt_frame]

/-- A record that names a serving antenna is carried by it, and in BRIDGING has a target too (Table 1-3). -/
theorem Record.shapeOk.of_serving {rd : Record} (h : rd.shapeOk) {p : PortId} (hp : rd.serving = some p) :
    (rd.state = .active ∧ rd.target = none) ∨ (rd.state = .bridging ∧ ∃ t, rd.target = some t) := by
  cases hst : rd.state with
  | free => rw [(Record.shapeOk_free hst).mp h] at hp; cases hp
  | searching => simp [h.serving_of_orphaned (.inl hst)] at hp
  | attaching => simp [h.serving_of_orphaned (.inr hst)] at hp
  | active => exact .inl ⟨rfl, ((Record.shapeOk_active hst).mp h).2.2.2.1⟩
  | bridging => exact .inr ⟨rfl, h.target_of_attempt (.inl hst)⟩

theorem Record.leavePort_roamCounters {rd : Record} (hs : rd.shapeOk) (p : PortId) (d : Bool) (v : State) (k : Fin 4) :
    (rd.leavePort p d v).roamCounters.get k =
      if rd.countsIn p k then satInc (v.roamCounters.get k) else v.roamCounters.get k := by
  have hd : (if d then v.dropAt p rd.headset else v).roamCounters = v.roamCounters := by
    split
    · exact v.dropAt_roamCounters p _
    · rfl
  unfold Record.leavePort; dsimp only
  generalize (if d then v.dropAt p rd.headset else v) = v₁ at hd ⊢
  have hne : RoamCounter.handoffsFailed.index ≠ RoamCounter.handoffsDone.index := by decide
  by_cases hp : rd.serving = some p
  · have htne := hs.distinct hp
    rcases hs.of_serving hp with ⟨hst, ht⟩ | ⟨hst, t, ht⟩
    · simp [hp, ht, hst, Record.countsIn, hd]
    · cases ha : rd.accepted <;>
        simp [hp, ht ▸ htne, ht, hst, ha, Record.countsIn, State.bumpRoam_get, State.dropAt_roamCounters, hd]
  · by_cases ht : rd.target = some p
    · by_cases hst : rd.state = .bridging
      · by_cases hk : k = RoamCounter.handoffsFailed.index <;>
          simp [hp, ht, hst, Record.countsIn, State.bumpRoam_get, hd, hk, hne]
      · simp [hp, ht, hst, Record.countsIn, hd]
    · simp [hp, ht, Record.countsIn]

/-! ### The departure on account of every record -/

theorem State.leftBy_sameButQueue (s : State) (p q : PortId) (d : Bool) (v : State) :
    (v.port q).SameButQueue ((s.leftBy p d v).port q) := by
  unfold State.leftBy
  induction List.finRange 192 generalizing v with
  | nil => exact .refl _
  | cons r l ih => exact ((s.record r).leavePort_sameButQueue p q d v).trans (ih _)

theorem State.leftBy_touched (s : State) (p : PortId) (d : Bool) (v : State) : v.TouchedBy (s.leftBy p d v) := by
  unfold State.leftBy
  induction List.finRange 192 generalizing v with
  | nil => exact .refl _
  | cons r l ih => exact ((s.record r).leavePort_touched p d v).trans (ih _)

theorem State.leftBy_self {s : State} (hs : ∀ r, (s.record r).shapeOk) (p : PortId) (v : State) :
    (s.leftBy p false v).port p = v.port p := by
  unfold State.leftBy
  induction List.finRange 192 generalizing v with
  | nil => rfl
  | cons r l ih => exact (ih _).trans (Record.leavePort_self (hs r) p v)

theorem satInc_min (n : Nat) (h : n ≤ 65535) : satInc n = min 65535 (n + 1) := by
  unfold satInc Config.counterMax; split <;> omega

/-- Each record of a list is counted once, the count stopping at 65535 (R169). -/
theorem leaveList_roamCounters {s : State} (hs : ∀ r, (s.record r).shapeOk) (p : PortId) (d : Bool) (k : Fin 4)
    (l : List RecordIx) (v : State) (hv : v.roamCounters.get k ≤ 65535) :
    (l.foldl (fun v r => (s.record r).leavePort p d v) v).roamCounters.get k =
      min 65535 (v.roamCounters.get k + (l.filter fun r => (s.record r).countsIn p k).length) := by
  induction l generalizing v with
  | nil => simp [hv]
  | cons r l ih =>
    have hstep := Record.leavePort_roamCounters (hs r) p d v k
    by_cases hc : (s.record r).countsIn p k = true
    · rw [if_pos hc, satInc_min _ hv] at hstep
      rw [List.foldl_cons, ih _ (by rw [hstep]; omega), hstep]
      simp only [List.filter_cons, hc, if_true, List.length_cons]
      omega
    · rw [if_neg hc] at hstep
      rw [List.foldl_cons, ih _ (by rw [hstep]; exact hv), hstep]
      simp [hc]

theorem State.leftBy_roamCounters {s : State} (hs : ∀ r, (s.record r).shapeOk) (p : PortId) (d : Bool) (k : Fin 4)
    (v : State) (hv : v.roamCounters.get k ≤ 65535) : (s.leftBy p d v).roamCounters.get k =
      min 65535 (v.roamCounters.get k +
        ((List.finRange 192).filter fun r => (s.record r).countsIn p k).length) :=
  leaveList_roamCounters hs p d k _ v hv

/-- How many bridges to antenna q are lost as port p leaves ACTIVE (R23). -/
def State.lostBridges (s : State) (p q : PortId) : Nat :=
  ((List.finRange 192).filter fun r =>
    decide ((s.record r).serving = some p ∧ (s.record r).target = some q ∧ (s.record r).accepted = false)).length

theorem State.lostBridges_eq (s : State) (p q : PortId) :
    s.lostBridges p q = ((List.finRange 192).map fun r => (s.record r).lostTo p q).sum := by
  rw [State.lostBridges, length_filter_eq_sum]
  congr 2
  funext r
  simp [Record.lostTo]

theorem State.named_eq_map (s : State) (p : PortId) :
    s.named p = ((List.finRange 192).map fun r => (s.record r).pins p).sum := by
  rw [State.named, length_filter_eq_sum]; rfl

/-- A departure reads nothing of the state before it but the records. -/
theorem State.leftBy_congr {s w : State} (h : ∀ r, w.record r = s.record r) (p : PortId) (d : Bool) (v : State) :
    w.leftBy p d v = s.leftBy p d v := by
  simp only [State.leftBy, h]

/-- t is s once port p has left it: the records are treated, the loads lowered, and all else is as in u but for port p
(R23, R24). -/
structure State.MovedOff (s : State) (p : PortId) (u t : State) : Prop where
  records : ∀ r, t.record r = (s.record r).departed p s.params.barTime
  loads : ∀ q, t.load q = if q = p then 0 else s.load q - s.lostBridges p q
  ports : ∀ q, q ≠ p → t.port q = u.port q
  same : t = { u with ports := t.ports, records := t.records, loads := t.loads }

/-- The pass over the records, where the load of the port counts them. -/
theorem departRecords_movedOff {s : State} (hs : ∀ r, (s.record r).shapeOk) {p : PortId} (hl : s.load p = s.named p)
    (d : Bool) : s.MovedOff p (s.leftBy p d s) (departRecords p d s) ∧
      (departRecords p d s).port p = (s.leftBy p d s).port p := by
  have hsame : (s.leftBy p d s).SameBut (departRecords p d s) :=
    departList_sameBut p d _ (List.nodup_finRange 192) (.refl s) hs
  have hrec := departRecords_record p d s hs
  have hload : ∀ q, (departRecords p d s).load q = if q = p then 0 else s.load q - s.lostBridges p q := fun q => by
    have := departList_load p d _ (List.nodup_finRange 192) s hs q
    rw [departRecords, this]
    split
    · rename_i h; subst h; simp [← State.named_eq_map, hl]
    · rename_i h; simp [← State.lostBridges_eq]
  generalize departRecords p d s = t at hsame hrec hload ⊢
  generalize s.leftBy p d s = u at hsame ⊢
  unfold State.SameBut at hsame
  have hport : t.ports = u.ports := by rw [hsame]
  exact ⟨⟨hrec, hload, fun q _ => by simp [State.port, hport], by rw [hport]; exact hsame⟩, by simp [State.port, hport]⟩

/-- A port that no record names leaves with its load at 0 and nothing else. -/
theorem movedOff_of_unnamed {s : State} {p : PortId}
    (h : ∀ r, (s.record r).serving ≠ some p ∧ (s.record r).target ≠ some p) (d : Bool) :
    s.MovedOff p (s.leftBy p d s) (s.setLoad p 0) := by
  rw [State.leftBy_of_unnamed d s h]
  refine ⟨fun r => (Record.departed_of_unnamed _ (h r).1 (h r).2).symm, fun q => ?_, fun q _ => rfl, rfl⟩
  have hlost : s.lostBridges p q = 0 := by simp [State.lostBridges, (h _).1]
  simp [State.setLoad_load, hlost]

/-- What follows on port p itself and its load changes nothing else. -/
theorem State.MovedOff.settled {s u t : State} {p : PortId} (h : s.MovedOff p u t) (f : Port → Port) :
    s.MovedOff p u (t.modPort p f) ∧ s.MovedOff p u ((t.modPort p f).setLoad p 0) := by
  obtain ⟨hrec, hload, hport, hsame⟩ := h
  have hother : ∀ q, q ≠ p → (t.modPort p f).port q = u.port q := fun q hq => by
    rw [State.modPort_port, if_neg hq, hport q hq]
  refine ⟨⟨hrec, hload, hother, by rw [hsame]; rfl⟩, ⟨hrec, fun q => ?_, hother, by rw [hsame]; rfl⟩⟩
  rw [State.setLoad_load]
  have : (t.modPort p f).load q = t.load q := rfl
  rw [this, hload]
  split <;> rfl

/-- A port that takes OFF or ISOLATED, whatever it was (R24, R105). -/
theorem enterDown_movedOff {s w : State} (hs : ∀ r, (s.record r).shapeOk) {p : PortId} (hl : s.load p = s.named p)
    (hin : ∀ r, (s.record r).pinned p = true → (s.port p).state = .active) (new : PortState)
    (hw : w = s.setPort p { s.port p with state := new }) :
    w.MovedOff p (s.leftBy p false w) (enterDown p new s) ∧ (enterDown p new s).port p = (w.port p).goDown := by
  have hleft : w.leftBy p false w = s.leftBy p false w := State.leftBy_congr (fun r => by rw [hw]; rfl) p false w
  rw [← hleft]
  have hmod : (s.modPort p fun q => { q with state := new }) = w := hw.symm
  have hshape : ∀ r, (w.record r).shapeOk := by rw [hw]; exact hs
  have hself := State.leftBy_self hshape p w
  unfold enterDown; dsimp only
  rw [hmod]
  by_cases ha : (s.port p).state = .active
  · obtain ⟨hmoved, hport⟩ := departRecords_movedOff hshape (by rw [hw]; exact hl) false
    rw [if_pos (by simpa using ha)]
    generalize departRecords p false w = v at hmoved hport ⊢
    exact ⟨(hmoved.settled _).2, by simp [State.modPort_port, hport, hself]⟩
  · rw [if_neg (by simpa using ha)]
    have hun : ∀ r, (w.record r).serving ≠ some p ∧ (w.record r).target ≠ some p := fun r => by
      have h := mt (hin r) ha
      rw [Record.pinned_iff, not_or] at h
      rw [hw]; exact h
    have hmoved := ((movedOff_of_unnamed hun false).settled Port.goDown).2
    have hload : ((w.setLoad p 0).modPort p Port.goDown).setLoad p 0 = (w.modPort p Port.goDown).setLoad p 0 := by
      simp [State.setLoad, State.modPort, State.setPort, State.port]
    exact ⟨hload ▸ hmoved, by simp [State.modPort_port]⟩

/-- A port that was not ACTIVE goes down alone (R105). -/
theorem enterDown_idle {s : State} {p : PortId} (h : (s.port p).state ≠ .active) (new : PortState) :
    enterDown p new s = (s.setPort p { s.port p with state := new }.goDown).setLoad p 0 := by
  unfold enterDown; dsimp only
  rw [if_neg (by simpa using h)]
  simp [State.modPort, State.setPort, State.port]

/-- A port that leaves ACTIVE for DORMANT (R23, R24, R105). -/
theorem enterDormant_movedOff {s w : State} (hs : ∀ r, (s.record r).shapeOk) {p : PortId} (hl : s.load p = s.named p)
    (hw : w = s.setPort p { s.port p with state := .dormant }) :
    w.MovedOff p (s.leftBy p true w) (enterDormant p s) ∧ (enterDormant p s).port p =
      { (s.leftBy p true w).port p with
        orders := ((s.leftBy p true w).port p).orders.filter fun x => x.kind ≠ .acquire } := by
  have hleft : w.leftBy p true w = s.leftBy p true w := State.leftBy_congr (fun r => by rw [hw]; rfl) p true w
  rw [← hleft]
  have hmod : (s.modPort p fun q => { q with state := .dormant }) = w := hw.symm
  obtain ⟨hmoved, hport⟩ := departRecords_movedOff (s := w) (by rw [hw]; exact hs) (by rw [hw]; exact hl) true
  unfold enterDormant
  rw [hmod]
  generalize departRecords p true w = v at hmoved hport ⊢
  exact ⟨(hmoved.settled _).1, by simp [State.modPort_port, hport]⟩

/-! ### Port Control (R106, R107) -/

theorem portOf_byteOf (p : PortId) : portOf (byteOf p.val) = some p := by
  revert p; decide +kernel

/-- The answer of Port Control: port, state, return state, class (Table 12-7). -/
def portBytes (p : PortId) (x : Port) : List Byte :=
  [byteOf p.val, x.state.code, (match x.returnState with | .dormant => 1 | .active => 2), byteOf x.cls.val]

/-- A Port Control action at a port that its byte names. -/
theorem serve_ownPort {s : State} {o : Origin} (ho : o.lane = .primary) (hq : (s.lane o.lane).queue.length < 16)
    (p : PortId) (act : PortId → State → State) :
    serve o .primaryOnly (ownPort (byteOf p.val) act) s = (act p s).done o (portBytes p ((act p s).port p)) := by
  rw [serve_done (State.serves_primary _ ho hq) (by simp only [ownPort, portOf_byteOf]; rfl)]
  unfold portBytes
  cases ((act p s).port p).returnState <;> rfl

theorem execMakeDormant_eq {s : State} {o : Origin} (ho : o.lane = .primary) (hq : (s.lane o.lane).queue.length < 16)
    (p : PortId) (cls : Byte) : exec (.makeDormant o (byteOf p.val) cls) s =
      .next ((makePortDormant p s).done o (portBytes p ((makePortDormant p s).port p))) :=
  congrArg Host.Outcome.next (serve_ownPort ho hq p makePortDormant)

theorem execTurnOff_eq {s : State} {o : Origin} (ho : o.lane = .primary) (hq : (s.lane o.lane).queue.length < 16)
    (p : PortId) (cls : Byte) : exec (.turnOff o (byteOf p.val) cls) s =
      .next ((turnPortOff p s).done o (portBytes p ((turnPortOff p s).port p))) :=
  congrArg Host.Outcome.next (serve_ownPort ho hq p turnPortOff)

/-! ### Isolation (R116) -/

theorem execPortIsolated_out {s : State} {p : PortId} (h : s.isolationDue.get p = true)
    (hst : (s.port p).state = .off ∨ (s.port p).state = .isolated) :
    exec (.portIsolated p) s = .next { s with isolationDue := vset s.isolationDue p false } := by
  rcases hst with hst | hst <;> simp [exec, execPortIsolated, h, hst]

theorem execPortIsolated_in {s : State} {p : PortId} (h : s.isolationDue.get p = true)
    (hst : (s.port p).state = .active ∨ (s.port p).state = .dormant) : exec (.portIsolated p) s =
      .next (isolatePort p (if (s.port p).state = .active then .active else .dormant)
        { s with isolationDue := vset s.isolationDue p false }) := by
  rcases hst with hst | hst <;> simp [exec, execPortIsolated, h, hst]

/-- A posting and a write of a port may change places. -/
theorem State.post_setPort (s : State) (q : PortId) (x : Port) (c : EventClass) (k : EventKind)
    (p : Option PortId) (i : Option HeadsetId) (n : Option LaneId) (d : Byte) :
    (s.setPort q x).post c k p i n d = (s.post c k p i n d).setPort q x := by
  unfold State.post
  by_cases h : c = .info ∧ s.params.infoEvents = false
  · exact (if_pos h).trans (congrArg (State.setPort · q x) (if_pos h)).symm
  · have h' : ¬(c = .info ∧ (s.setPort q x).params.infoEvents = false) := h
    rw [if_neg h', if_neg h]; rfl

/-- A port that leaves ACTIVE by command counts each record it moves, and touches no other port's service. -/
theorem State.MovedOff.counted {s w t : State} {p : PortId} {d : Bool} {x : Port} (hs : ∀ r, (s.record r).shapeOk)
    (hw : w = s.setPort p x) (h : w.MovedOff p (s.leftBy p d w) t) :
    (s.CountersOk → ∀ k, t.roamCounters.get k = min 65535 (s.roamCounters.get k +
      ((List.finRange 192).filter fun r => (s.record r).countsIn p k).length)) ∧
    (∀ q, q ≠ p → (s.port q).SameButQueue (t.port q)) ∧ s.TouchedBy t := by
  have hroam : t.roamCounters = (s.leftBy p d w).roamCounters := by rw [h.same]
  have hget : w.roamCounters = s.roamCounters := by rw [hw]; rfl
  refine ⟨fun hc k => ?_, fun q hq => ?_, ?_⟩
  · have hv : s.roamCounters.get k ≤ 65535 := hc (.roam k)
    rw [hroam, State.leftBy_roamCounters hs p d k w (by rw [hget]; exact hv), hget]
  · have hport := s.leftBy_sameButQueue p q d w
    rw [← h.ports q hq] at hport
    rwa [hw, State.setPort_port, if_neg hq] at hport
  · have htouched := s.leftBy_touched p d w
    have hsw : s.TouchedBy w := by rw [hw]; rfl
    exact (hsw.trans htouched).trans (.of_eq h.same)

end Sys2Proof.Machine
section
open Sys2Proof Sys2Proof.Machine

/-- Settles O31: the pass over the records is the departure on account of each, and no named port is left. -/
theorem portLeavingServiceMovesItsRecords : Obligations.PortLeavingServiceMovesItsRecords := by
  intro o p cls s ho hq hs hl reply gone lost promoted failed moved emptied
  have hcount : s.load p = s.named p := hl.counted p
  have hin : ∀ r, (s.record r).pinned p = true → (s.port p).state = .active := fun r => hl.inService r p
  have hmoved : ∀ (new : PortState) (d : Bool) (t w : State), w = s.setPort p { s.port p with state := new } →
      decide (new = .dormant) = d → w.MovedOff p (s.leftBy p d w) t → moved (gone new) t := by
    intro new d t w hw hd h
    obtain ⟨hroam, hqueue, htouched⟩ := h.counted hs.shape hw
    have hgone : s.leftBy p d w = gone new := by rw [← hd, hw]
    rw [hgone] at h
    subst hw
    refine ⟨h.records, h.loads, fun hc k => ?_, fun q hq => ⟨h.ports q hq, hqueue q hq⟩, h.same, htouched⟩
    rw [hroam hc k]
    congr 2
    by_cases hd : k = RoamCounter.handoffsDone.index
    · simp only [Record.countsIn, hd, if_true]; rfl
    · by_cases hf : k = RoamCounter.handoffsFailed.index
      · simp only [Record.countsIn, if_neg hd, if_pos hf]; rfl
      · simp [Record.countsIn, hd, hf]
  have hoff : (s.port p).state ≠ .off → turnPortOff p s =
      (enterDown p .off s).modPort p fun q => { q with flags := .clear } := fun h => if_neg h
  have hreply : portBytes p = reply := funext fun x => rfl
  refine ⟨fun ha => ⟨?_, ?_⟩, fun hst => ?_, fun hst => ?_⟩
  · have hrun := execMakeDormant_eq ho hq p cls
    rw [hreply] at hrun
    have hact : makePortDormant p s = enterDormant p s := by simp [makePortDormant, ha]
    rw [hact] at hrun
    obtain ⟨hm, hport⟩ := enterDormant_movedOff hs.shape hcount rfl
    have hgone : (gone .dormant) = s.leftBy p true (s.setPort p { s.port p with state := .dormant }) := rfl
    have hsame := State.leftBy_sameButQueue s p p true (s.setPort p { s.port p with state := .dormant })
    rw [← hgone, State.setPort_port, if_pos rfl] at hsame
    rw [← hgone] at hport
    have hstate := congrArg Port.state hsame
    refine ⟨_, hrun, hmoved .dormant true _ _ rfl rfl hm, hport, ?_, ?_⟩
    · rw [hport]; exact hstate
    · rw [hport]
      refine (congrArg (fun z : Port => { z with state := .active }) hsame).trans ?_
      simp [← ha]
  · have hrun := execTurnOff_eq ho hq p cls
    rw [hreply] at hrun
    rw [hoff (by simp [ha])] at hrun
    obtain ⟨hm, hport⟩ := enterDown_movedOff hs.shape hcount hin .off rfl
    refine ⟨_, hrun, hmoved .off false _ _ rfl rfl (hm.settled _).1, ?_⟩
    simp [State.modPort_port, State.setPort_port, hport, Port.goDown, ConditionFlags.clear, emptied]
  · have hrun := execTurnOff_eq ho hq p cls
    rw [hreply] at hrun
    have hact : turnPortOff p s = (s.setPort p emptied).setLoad p 0 := by
      rw [hoff (by rcases hst with h | h <;> simp [h])]
      have hna : (s.port p).state ≠ .active := by rcases hst with h | h <;> simp [h]
      rw [enterDown_idle hna]
      simp [State.modPort, State.setPort, State.setLoad, State.port, Port.goDown, ConditionFlags.clear, emptied]
    rw [hact] at hrun
    have hport : ((s.setPort p emptied).setLoad p 0).port p = emptied := by simp [State.setPort_port]
    rw [hport] at hrun
    exact hrun
  · have hrun := execTurnOff_eq ho hq p cls
    rw [hreply] at hrun
    have hact : turnPortOff p s = s := if_pos hst
    rw [hact] at hrun
    exact hrun

/-- Settles O59: the port goes down from the state that the posting of Port Isolated has left. -/
theorem isolationTakesThePortDown : Obligations.IsolationTakesThePortDown := by
  intro p s hs hl q isolated base u lost
  refine ⟨fun h => ?_, fun h hst => ?_, fun h hst => ?_⟩
  · simp [exec, execPortIsolated, h]
  · exact execPortIsolated_out h hst
  · have hrun : exec (.portIsolated p) s = .next (isolatePort p isolated.returnState base) := execPortIsolated_in h hst
    have hret : isolated.returnState.state.code = if q.state = .active then 2 else 1 := by
      rcases hst with hst | hst <;> simp [isolated, hst] <;> rfl
    have hin : (base.modPort p fun x => { x with returnState := isolated.returnState }) =
      base.setPort p { q with returnState := isolated.returnState } := rfl
    unfold isolatePort at hrun
    rw [hret, hin, State.post_setPort] at hrun
    generalize hv : base.post .alarm .portIsolated (some p) none none (if q.state = .active then 2 else 1) = v at hrun
    have hw : (base.setPort p isolated).post .alarm .portIsolated (some p) none none
        (if q.state = .active then 2 else 1) = v.setPort p isolated := by rw [← hv]; exact State.post_setPort ..
    have hrec : ∀ r, v.record r = s.record r := fun r => by rw [← hv]; exact State.post_record ..
    have hload : ∀ a, v.load a = s.load a := fun a => by rw [← hv]; exact State.post_load ..
    have hport : ∀ a, v.port a = s.port a := fun a => by rw [← hv]; exact State.post_port ..
    have hparams : v.params = s.params := by rw [← hv]; exact State.post_params ..
    have hnamed : v.named p = s.named p := by simp only [State.named, hrec]
    have hu : s.leftBy p false (v.setPort p isolated) = u := by rw [← hw]
    obtain ⟨hm, hdown⟩ := enterDown_movedOff (s := v.setPort p { q with returnState := isolated.returnState })
      (w := v.setPort p isolated) (p := p) (fun r => (hrec r).symm ▸ hs.shape r)
      (((hload p).trans (hl.counted p)).trans hnamed.symm)
      (fun r hr => by
        rw [State.setPort_port, if_pos rfl]
        exact hl.inService r p (hrec r ▸ hr)) .isolated (by simp [State.setPort, State.port, isolated])
    rw [State.leftBy_congr (s := s) (w := v.setPort p _) hrec, hu] at hm
    refine ⟨_, hrun, ?_, fun r => ?_, fun a => ?_, fun a ha => ⟨hm.ports a ha, ?_⟩, hm.same⟩
    · rw [hdown, State.setPort_port, if_pos rfl]; rfl
    · rw [hm.records r]
      exact congr (congrArg (Record.departed p) (congrArg Params.barTime hparams)) (hrec r)
    · rw [hm.loads a]
      have hlost : (v.setPort p isolated).lostBridges p a = lost a := by
        simp only [State.lostBridges, State.setPort_record, hrec]; rfl
      rw [hlost, State.setPort_load, hload a]
    · rw [hm.ports a ha, ← hu]
      have := s.leftBy_sameButQueue p a false (v.setPort p isolated)
      rwa [State.setPort_port, if_neg ha, hport a] at this

end
end

section
/-! Admit (O38). -/

namespace Sys2Proof.Machine

/-! ### The record and the lane chosen (R11, R82) -/

/-- The FREE record of lowest index is the one found (R11). -/
theorem State.lowestFree_eq {s : State} {r : RecordIx} (hr : (s.record r).state = .free)
    (hlow : ∀ q, q < r → (s.record q).state ≠ .free) : s.lowestFree = some r := by
  rw [State.lowestFree, List.find?_eq_some_iff_getElem]
  refine ⟨by simpa using hr, r.val, by simp, by simp, fun j hj => ?_⟩
  simpa using hlow ⟨j, hj.trans r.isLt⟩ hj

theorem State.findRecord_of_unused {s : State} {x : HeadsetId}
    (h : ∀ q, (s.record q).state ≠ .free → (s.record q).id ≠ some x) : s.findRecord x = none := by
  simp only [State.findRecord, List.find?_eq_none, decide_eq_true_eq]
  exact fun q _ hq => h q hq.1 hq.2

/-- A range around one of its members. -/
theorem range_split {n i : Nat} (h : i < n) : ∃ m, List.range n = List.range i ++ i :: m := by
  refine ⟨(List.range n).drop (i + 1), ?_⟩
  have hi : i < (List.range n).length := by simpa using h
  conv_lhs => rw [← List.take_append_drop i (List.range n), List.drop_eq_getElem_cons hi]
  simp [List.take_range, Nat.min_eq_left h.le]

theorem laneOf_eq {k : Nat} {n : LaneId} (h : n.val = k) : laneOf k = some n := by
  subst h; simp [laneOf]

/-- The pool search finds the first unbound lane from the cursor round (R82). -/
theorem searchPool_eq {s : State} {n : LaneId} (h : s.PoolChoice n) : searchPool s = some n := by
  obtain ⟨i, hi, hn, hfree, hbefore⟩ := h
  obtain ⟨m, hm⟩ := range_split hi
  rw [searchPool, hm, List.findSome?_append, List.findSome?_eq_none_iff.mpr fun j hj => ?_, List.findSome?_cons]
  · have hlane : laneOf (poolLane s.partition.fixed s.partition.pool s.cursor i) = some n := laneOf_eq hn
    simp [hlane, hfree]
  · obtain ⟨k, hk, hbound⟩ := hbefore j (List.mem_range.mp hj)
    have hlane : laneOf (poolLane s.partition.fixed s.partition.pool s.cursor j) = some k := laneOf_eq hk
    simp [hlane, hbound]

/-- The cursor an Admit to a pool lane leaves (R82). -/
theorem State.PoolChoice.cursorAfter {s : State} {n : LaneId} (h : s.PoolChoice n) : cursorAfter s.partition n =
    if n.val + 1 = s.partition.fixed + s.partition.pool then s.partition.fixed else n.val + 1 := by
  obtain ⟨i, hi, hn, -, -⟩ := h
  dsimp only at hn
  have hmod := Nat.mod_lt (s.cursor - s.partition.fixed + i) (Nat.zero_lt_of_lt hi)
  unfold Sys2Proof.Machine.cursorAfter
  split <;> split <;> omega

/-- A lane of the fixed region is chosen as it is named (R81). -/
theorem chooseLane_fixed {s : State} {sel : Byte} {n : LaneId} (hsel : sel ≠ 0xFF) (hn : n.val = sel.toNat)
    (hfix : n.val < s.partition.fixed) (hall : s.params.allCall ≠ some n) (hfree : s.binding n = none) :
    chooseLane sel s = .ok (n, s.cursor) := by
  have hlane : laneOf sel.toNat = some n := laneOf_eq hn
  have hgood : ¬(s.partition.fixed ≤ n.val ∨ s.params.allCall = some n) := by
    rintro (h | h)
    · omega
    · exact hall h
  simp only [chooseLane, if_neg hsel, hlane, if_neg hgood, hfree]; rfl

theorem chooseLane_pool {s : State} {n : LaneId} (h : s.PoolChoice n) : chooseLane 0xFF s = .ok (n,
    if n.val + 1 = s.partition.fixed + s.partition.pool then s.partition.fixed else n.val + 1) := by
  simp [chooseLane, searchPool_eq h, h.cursorAfter]

/-- The checks of an Admit passed, the record is made (R81, R83). -/
theorem ownAdmit_ok {s : State} {x : HeadsetId} {sel : Byte} {r : RecordIx} {n : LaneId} {cursor : Nat}
    (hx : canonical x = true) (hnew : s.findRecord x = none) (hr : s.lowestFree = some r)
    (hn : chooseLane sel s = .ok (n, cursor)) : ownAdmit (idBytes x ++ [sel]) s =
      (.done [byteOf r.val, byteOf n.val, ((admitInto r x n cursor s).record r).state.code], admitInto r x n cursor s) := by
  simp [ownAdmit, idBytes, id24_idBytes, hx, hnew, hr, hn]

/-! ### The attach of a seeded record (R11, R41) -/

theorem seedAttach_idle {s : State} {r : RecordIx} (h : ∀ c ∈ (s.record r).cands, ¬s.fitsSearch c) :
    seedAttach r s = s := by
  unfold seedAttach; split
  · rfl
  · rename_i c cs hc
    exact if_neg (mt (s.fitsSearch_iff c).mp (h c (by simp [hc])))

theorem seedAttach_fits {s : State} {r : RecordIx} {c : Candidate} {cs : List Candidate}
    (hc : (s.record r).cands = c :: cs) (h : s.fitsSearch c) : seedAttach r s = beginAttach r c.antenna s := by
  simp only [seedAttach, hc]
  exact if_pos ((s.fitsSearch_iff c).mpr h)

/-! ### The record made (R83) -/

/-- The state once the lane is bound and the record made, before a seeded attach. -/
def State.enrolled (s : State) (r : RecordIx) (x : HeadsetId) (n : LaneId) (cursor : Nat) : State :=
  (({ s with cursor := cursor }.setBinding n (some r)).silence n).setRecord r
    (Record.admitted x n (s.registrations.find? (·.id = x)))

/-- The ID's registration and listing taken out (R83). -/
def State.unlist (s : State) (x : HeadsetId) : State :=
  { s.removeRegistrations (·.id = x) with denials := s.denials.filter (·.id ≠ x) }

theorem admitInto_eq (r : RecordIx) (x : HeadsetId) (n : LaneId) (cursor : Nat) (s : State) :
    admitInto r x n cursor s = (seedAttach r (s.enrolled r x n cursor)).unlist x := rfl

theorem State.unlist_frame (s : State) (x : HeadsetId) : ∃ full, s.unlist x = { s with
    registrations := s.registrations.filter fun e => e.id ≠ x
    fullReported := full
    denials := s.denials.filter fun d => d.id ≠ x } := by
  obtain ⟨full, h⟩ := s.removeRegistrations_frame (·.id = x)
  refine ⟨full, ?_⟩
  rw [State.unlist, h]
  simp

/-- A queue that an entry has left is not full, and is not reported so (R73). -/
theorem State.unlist_fullReported {s : State} {x : HeadsetId} {e : Registration} (he : e ∈ s.registrations)
    (hx : e.id = x) (hroom : s.registrations.length ≤ 16) : (s.unlist x).fullReported = false := by
  have hany : s.registrations.any (fun e => e.id = x) = true := List.any_eq_true.mpr ⟨e, he, by simp [hx]⟩
  have hlt : (s.registrations.filter fun e => !(decide (e.id = x))).length < s.registrations.length :=
    List.length_filter_lt_length_iff_exists.mpr ⟨e, he, by simp [hx]⟩
  have hfull : ¬Config.maxRegistrations ≤ (s.registrations.filter fun e => !(decide (e.id = x))).length := by
    simp only [Config.maxRegistrations]; omega
  simp [State.unlist, State.removeRegistrations, hany, hfull]

/-- The one registration of an ID is the one found. -/
theorem State.AdmissionOk.find_registration {s : State} (h : s.AdmissionOk) {e : Registration} {x : HeadsetId}
    (he : e ∈ s.registrations) (hx : e.id = x) : s.registrations.find? (·.id = x) = some e := by
  cases hf : s.registrations.find? (·.id = x) with
  | none => exact absurd hx (by simpa using List.find?_eq_none.mp hf e he)
  | some e' =>
    have he' := List.mem_of_find?_eq_some hf
    have hx' : e'.id = x := by simpa using List.find?_some hf
    rw [List.inj_on_of_nodup_map h.distinct he' he (hx'.trans hx.symm)]

/-- A seeded attach, as the order queue decides it, changes nothing but its record, ports, loads and events. -/
theorem beginAttach_frame {s : State} {r : RecordIx} {a : PortId} (ha : (s.port a).state = .active) :
    beginAttach r a s = { s with
      records := (beginAttach r a s).records
      loads := (beginAttach r a s).loads
      ports := (beginAttach r a s).ports
      events := (beginAttach r a s).events
      lostEvents := (beginAttach r a s).lostEvents } ∧
    ∀ q, q ≠ r → (beginAttach r a s).record q = s.record q := by
  by_cases ho : (takeOrder (s.port a).orders .acquire (s.record r).headset).1 = .refused
  · rw [beginAttach_refused ha ho]
    exact ⟨(State.post_frame ..).trans rfl, fun q hq => by simp [State.setRecord_record, hq]⟩
  · rw [beginAttach_taken ha ho]
    exact ⟨rfl, fun q hq => by simp [State.setRecord_record, hq]⟩

theorem seedAttach_frame (r : RecordIx) (s : State) :
    seedAttach r s = { s with
      records := (seedAttach r s).records
      loads := (seedAttach r s).loads
      ports := (seedAttach r s).ports
      events := (seedAttach r s).events
      lostEvents := (seedAttach r s).lostEvents } ∧
    ∀ q, q ≠ r → (seedAttach r s).record q = s.record q := by
  unfold seedAttach; split
  · exact ⟨rfl, fun _ _ => rfl⟩
  · split
    · rename_i c _ _ h
      exact beginAttach_frame ((s.fitsSearch_iff c).mp h).1
    · exact ⟨rfl, fun _ _ => rfl⟩

/-- What every Admit does, whatever becomes of the seed (R83). -/
structure State.Admitted (s t : State) (r : RecordIx) (x : HeadsetId) (n : LaneId) (cursor : Nat) : Prop where
  binding : ∀ m, t.binding m = if m = n then some r else s.binding m
  hold : ∀ m, t.holdOf m = if m = n then ⟨zeroBlock, false, s.params.concealLimit⟩ else s.holdOf m
  cursor : t.cursor = cursor
  registrations : t.registrations = s.registrations.filter fun e => e.id ≠ x
  denials : t.denials = s.denials.filter fun d => d.id ≠ x
  others : ∀ q, q ≠ r → t.record q = s.record q
  frame : t = { s with
    bindings := t.bindings
    holds := t.holds
    cursor := t.cursor
    registrations := t.registrations
    fullReported := t.fullReported
    denials := t.denials
    records := t.records
    loads := t.loads
    ports := t.ports
    events := t.events
    lostEvents := t.lostEvents }

theorem State.admitted_of {s u : State} {r : RecordIx} {x : HeadsetId} {n : LaneId} {cursor : Nat}
    (hu : u = { s.enrolled r x n cursor with
      records := u.records, loads := u.loads, ports := u.ports, events := u.events, lostEvents := u.lostEvents })
    (hrec : ∀ q, q ≠ r → u.record q = (s.enrolled r x n cursor).record q) :
    s.Admitted (u.unlist x) r x n cursor := by
  obtain ⟨full, h⟩ := u.unlist_frame x
  rw [h]
  have hothers : ∀ q, q ≠ r → u.record q = s.record q := fun q hq => by
    rw [hrec q hq, State.enrolled, State.setRecord_record, if_neg hq]; rfl
  rw [hu] at hothers ⊢
  refine ⟨fun m => ?_, fun m => ?_, rfl, rfl, rfl, hothers, rfl⟩
  · exact State.setBinding_binding ..
  · exact State.silence_holdOf ..

/-- The record and the events stay as they are when an ID is taken off the lists. -/
theorem State.unlist_keeps (s : State) (x : HeadsetId) (q : RecordIx) : (s.unlist x).record q = s.record q ∧
    (s.unlist x).loads = s.loads ∧ (s.unlist x).ports = s.ports ∧ (s.unlist x).events = s.events ∧
    (s.unlist x).lostEvents = s.lostEvents := by
  obtain ⟨full, h⟩ := s.unlist_frame x
  rw [h]; exact ⟨rfl, rfl, rfl, rfl, rfl⟩

/-- The candidate a registration seeds (R39). -/
def Registration.seed (e : Registration) : Candidate := ⟨e.antenna, 16 * e.level.val, 0, 0⟩

/-- The record made is seeded from the ID's registration. -/
theorem State.enrolled_record (s : State) (r : RecordIx) (x : HeadsetId) (n : LaneId) (cursor : Nat) :
    (s.enrolled r x n cursor).record r = Record.admitted x n (s.registrations.find? (·.id = x)) :=
  State.setRecord_record_same ..

theorem State.enrolled_keeps (s : State) (r : RecordIx) (x : HeadsetId) (n : LaneId) (cursor : Nat) :
    (s.enrolled r x n cursor).loads = s.loads ∧ (s.enrolled r x n cursor).ports = s.ports ∧
      s.SameEvents (s.enrolled r x n cursor) :=
  ⟨rfl, rfl, rfl, rfl, rfl, rfl⟩

/-- A seeded antenna that does not fit leaves the record searching (R11). -/
theorem seedAttach_unfit {s : State} {r : RecordIx} {x : HeadsetId} {n : LaneId} {cursor : Nat} {e : Registration}
    (hseed : s.registrations.find? (·.id = x) = some e) (h : ¬(s.enrolled r x n cursor).fitsSearch e.seed) :
    seedAttach r (s.enrolled r x n cursor) = s.enrolled r x n cursor :=
  seedAttach_idle fun c hc => by
    rw [s.enrolled_record, hseed] at hc
    rw [List.mem_singleton.mp hc]; exact h

/-- A seeded antenna that fits and takes the Acquire (R11, R12). -/
theorem seedAttach_taken {s : State} {r : RecordIx} {x : HeadsetId} {n : LaneId} {cursor : Nat} {e : Registration}
    (hseed : s.registrations.find? (·.id = x) = some e) (h : (s.enrolled r x n cursor).fitsSearch e.seed)
    (ho : (takeOrder (s.port e.antenna).orders .acquire x).1 ≠ .refused) :
    seedAttach r (s.enrolled r x n cursor) =
      (((s.enrolled r x n cursor).setRecord r ((Record.admitted x n (some e)).attachBegun e.antenna)).raiseLoad
        e.antenna).setPort e.antenna { s.port e.antenna with
          orders := (takeOrder (s.port e.antenna).orders .acquire x).2 } := by
  have hself := s.enrolled_record r x n cursor
  rw [hseed] at hself
  have hhead : ((s.enrolled r x n cursor).record r).headset = x := by rw [hself]; rfl
  have hport : (s.enrolled r x n cursor).port e.antenna = s.port e.antenna := rfl
  rw [seedAttach_fits (c := e.seed) (cs := []) (by rw [hself]; rfl) h]
  have htaken := beginAttach_taken (s := s.enrolled r x n cursor) (r := r) (a := e.antenna) h.1
    (by rw [hhead, hport]; exact ho)
  rwa [hhead, hself, hport] at htaken

/-- A seeded antenna that fits and refuses the Acquire (R12). -/
theorem seedAttach_refused {s : State} {r : RecordIx} {x : HeadsetId} {n : LaneId} {cursor : Nat} {e : Registration}
    (hseed : s.registrations.find? (·.id = x) = some e) (h : (s.enrolled r x n cursor).fitsSearch e.seed)
    (ho : (takeOrder (s.port e.antenna).orders .acquire x).1 = .refused) :
    seedAttach r (s.enrolled r x n cursor) =
      ((s.enrolled r x n cursor).setRecord r (Record.admitted x n (some e))).post .notice .attachFailed
        (some e.antenna) (some x) (some n) 1 := by
  have hself := s.enrolled_record r x n cursor
  rw [hseed] at hself
  have hhead : ((s.enrolled r x n cursor).record r).headset = x := by rw [hself]; rfl
  have hport : (s.enrolled r x n cursor).port e.antenna = s.port e.antenna := rfl
  rw [seedAttach_fits (c := e.seed) (cs := []) (by rw [hself]; rfl) h]
  have hrefused := beginAttach_refused (s := s.enrolled r x n cursor) (r := r) (a := e.antenna) h.1
    (by rw [hhead, hport]; exact ho)
  rwa [hself] at hrefused

/-- The antenna of a registration fits when it is in service, has room and meets the Reacquire Level (R41, R42). -/
theorem State.enrolled_fits_iff (s : State) (r : RecordIx) (x : HeadsetId) (n : LaneId) (cursor : Nat)
    (e : Registration) : (s.enrolled r x n cursor).fitsSearch e.seed ↔ (s.port e.antenna).state = .active ∧
      (s.port e.antenna).flags.rfOverload = false ∧ (s.port e.antenna).flags.referenceLost = false ∧
      s.load e.antenna < 12 ∧ s.params.reacquireLevel ≤ e.level.val := by
  constructor
  · rintro ⟨hst, hrf, href, hload, -, hq⟩
    have : 16 * s.params.reacquireLevel ≤ 16 * e.level.val := hq
    exact ⟨hst, hrf, href, hload, by omega⟩
  · rintro ⟨hst, hrf, href, hload, hq⟩
    exact ⟨hst, hrf, href, hload, rfl, Nat.mul_le_mul_left 16 hq⟩

end Sys2Proof.Machine
section
open Sys2Proof Sys2Proof.Machine

/-- Settles O38: the checks passed, the record is made, attached or not as its seed decides, and the ID unlisted. -/
theorem admitMakesTheRecord : Obligations.AdmitMakesTheRecord := by
  intro o x sel r n cursor s ho hq hlane hadm hx hnew hfree hlow hsel bare
  have hchosen : chooseLane sel s = .ok (n, cursor) := by
    rcases hsel with ⟨hne, hn, hfix, hall, hb, hcur⟩ | ⟨he, hpool, hcur⟩
    · rw [hcur]; exact chooseLane_fixed hne hn hfix hall hb
    · rw [he, hcur]; exact chooseLane_pool hpool
  have hrun : exec (.admitHeadset o (idBytes x ++ [sel])) s =
      .next ((admitInto r x n cursor s).done o [byteOf r.val, byteOf n.val,
        ((admitInto r x n cursor s).record r).state.code]) :=
    congrArg Host.Outcome.next (serve_done (State.serves_primary _ ho hq)
      (ownAdmit_ok hx (State.findRecord_of_unused hnew) (State.lowestFree_eq hfree hlow) hchosen))
  rw [admitInto_eq] at hrun
  have hself := s.enrolled_record r x n cursor
  have hframe := seedAttach_frame r (s.enrolled r x n cursor)
  have hadmitted := State.admitted_of (s := s) hframe.1 hframe.2
  have hkeeps := (seedAttach r (s.enrolled r x n cursor)).unlist_keeps x r
  obtain ⟨hloads, hports, hsame⟩ := s.enrolled_keeps r x n cursor
  by_cases hreg : ∃ e ∈ s.registrations, e.id = x
  · obtain ⟨e, he, hid⟩ := hreg
    have hfind := hadm.find_registration he hid
    have hfull : ((seedAttach r (s.enrolled r x n cursor)).unlist x).fullReported = false :=
      State.unlist_fullReported (by rw [hframe.1]; exact he) hid (by rw [hframe.1]; exact hadm.room)
    have hunfit := fun h => seedAttach_unfit (r := r) (n := n) (cursor := cursor) hfind h
    have htaken := fun h ho => seedAttach_taken (r := r) (n := n) (cursor := cursor) hfind h ho
    have hrefused := fun h ho => seedAttach_refused (r := r) (n := n) (cursor := cursor) hfind h ho
    have hfit := s.enrolled_fits_iff r x n cursor e
    rw [hfind] at hself
    generalize s.enrolled r x n cursor = v at *
    generalize seedAttach r v = u at *
    generalize u.unlist x = t at *
    obtain ⟨hb, hh, hc, hr, hd, hothers, hfr⟩ := hadmitted
    obtain ⟨hrec, htl, htp, hte, htlost⟩ := hkeeps
    have hload : ∀ p, t.load p = u.load p := fun p => by simp only [State.load, htl]
    have hport : ∀ p, t.port p = u.port p := fun p => by simp only [State.port, htp]
    have hvload : ∀ p, v.load p = s.load p := fun p => by simp only [State.load, hloads]
    have hvport : ∀ p, v.port p = s.port p := fun p => by simp only [State.port, hports]
    refine ⟨t, hrun, hb, hh, hc, hr, hd, hothers, hfr, fun h => absurd hid (h e he), fun e' he' hid' => ?_⟩
    obtain rfl : e = e' := Option.some.inj (hfind.symm.trans (hadm.find_registration he' hid'))
    intro fit seeded asked
    refine ⟨hfull, fun hf => ?_, fun hf ho => ?_, fun hf ho => ?_⟩
    · rw [hrec, htl, htp, hte, hunfit (mt hfit.mp hf)]
      exact ⟨hself, hloads, hports, hsame.1⟩
    · rw [hrec, hte]
      simp only [hload, hport]
      rw [htaken (hfit.mpr hf) ho]
      refine ⟨?_, fun p => ?_, fun p => ?_, hsame.1⟩
      · simp [Record.attachBegun, Record.admitted, Record.free, seeded, bare]
      · by_cases hp : p = e.antenna <;> simp [State.raiseLoad_load, hp, hvload]
      · by_cases hp : p = e.antenna <;> simp [State.setPort_port, hp, hvport, asked]
    · rw [hrec, htl, htp, hte, htlost, hrefused (hfit.mpr hf) ho, State.post_record, State.post_loads, State.post_ports,
        State.setRecord_record_same]
      have hevent := (hsame.trans (u := v.setRecord r (Record.admitted x n (some e))) ⟨rfl, rfl, rfl, rfl⟩).post
        .notice .attachFailed (some e.antenna) (some x) (some n) 1
      exact ⟨rfl, hloads, hports, hevent.1, hevent.2.1⟩
  · have hnone : s.registrations.find? (·.id = x) = none :=
      List.find?_eq_none.mpr fun e he => by simpa using fun hid => hreg ⟨e, he, hid⟩
    rw [hnone] at hself
    have hidle : seedAttach r (s.enrolled r x n cursor) = s.enrolled r x n cursor :=
      seedAttach_idle fun c hc => by rw [hself] at hc; cases hc
    generalize s.enrolled r x n cursor = v at *
    generalize seedAttach r v = u at *
    generalize u.unlist x = t at *
    obtain ⟨hb, hh, hc, hr, hd, hothers, hfr⟩ := hadmitted
    obtain ⟨hrec, htl, htp, hte, -⟩ := hkeeps
    refine ⟨t, hrun, hb, hh, hc, hr, hd, hothers, hfr, fun _ => ?_, fun e he hid => absurd ⟨e, he, hid⟩ hreg⟩
    rw [hrec, htl, htp, hte, hidle]
    exact ⟨hself, hloads, hports, hsame.1⟩

end
end

section
/-! CYCLE_CLOSE: what the treatment of the records leaves alone, the six stages in order, and the consumption at the ports
(O45, O46). -/

namespace Sys2Proof.Machine

/-! ### What the stages of a close leave alone -/

/-- From u to v the stages of a close have handed over the hold-write requests of a list, every port keeps all but its
orders and counters, and nothing else has changed but what a close may change. -/
structure State.Worked (u v : State) (handed : List HoldRequest) : Prop where
  queues : ∀ p, (u.port p).SameButQueue (v.port p)
  requests : v.holdRequests = u.holdRequests ++ handed
  frame : v = { u with
    ports := v.ports
    records := v.records
    loads := v.loads
    bindings := v.bindings
    holds := v.holds
    roamCounters := v.roamCounters
    events := v.events
    lostEvents := v.lostEvents
    holdRequests := v.holdRequests }

theorem State.Worked.trans {u v w : State} {l m : List HoldRequest} (h : u.Worked v l) (h' : v.Worked w m) :
    u.Worked w (l ++ m) where
  queues p := (h.queues p).trans (h'.queues p)
  requests := by rw [h'.requests, h.requests, List.append_assoc]
  frame := by
    have hf := h.frame
    have hf' := h'.frame
    rw [hf] at hf'
    exact hf'

theorem State.Worked.andThen {u v w : State} {l : List HoldRequest} (h : u.Worked v l) (h' : v.Worked w []) :
    u.Worked w l := by
  simpa using h.trans h'

/-- A change of records, loads, bindings, holds and counters alone. -/
theorem State.worked_of {u v : State} (hp : v.ports = u.ports) (hr : v.holdRequests = u.holdRequests) (h : v = { u with
    records := v.records
    loads := v.loads
    bindings := v.bindings
    holds := v.holds
    roamCounters := v.roamCounters
    events := v.events
    lostEvents := v.lostEvents }) : u.Worked v [] where
  queues p := by rw [State.port, State.port, hp]; exact .refl _
  requests := by simp [hr]
  frame := by rw [hp, hr]; exact h

theorem State.Worked.refl (u : State) : u.Worked u [] := State.worked_of rfl rfl rfl

theorem State.Worked.setRecord {u v : State} {l : List HoldRequest} (h : u.Worked v l) (r : RecordIx) (rd : Record) :
    u.Worked (v.setRecord r rd) l := h.andThen (State.worked_of rfl rfl rfl)

theorem State.Worked.modRecord {u v : State} {l : List HoldRequest} (h : u.Worked v l) (r : RecordIx)
    (f : Record → Record) : u.Worked (v.modRecord r f) l := h.andThen (State.worked_of rfl rfl rfl)

theorem State.Worked.lowerLoad {u v : State} {l : List HoldRequest} (h : u.Worked v l) (p : PortId) :
    u.Worked (v.lowerLoad p) l := h.andThen (State.worked_of rfl rfl rfl)

theorem State.Worked.raiseLoad {u v : State} {l : List HoldRequest} (h : u.Worked v l) (p : PortId) :
    u.Worked (v.raiseLoad p) l := h.andThen (State.worked_of rfl rfl rfl)

theorem State.Worked.bumpRoam {u v : State} {l : List HoldRequest} (h : u.Worked v l) (k : RoamCounter) :
    u.Worked (v.bumpRoam k) l := h.andThen (State.worked_of rfl rfl rfl)

theorem State.Worked.post {u v : State} {l : List HoldRequest} (h : u.Worked v l) (c : EventClass) (k : EventKind)
    (p : Option PortId) (i : Option HeadsetId) (n : Option LaneId) (d : Byte) : u.Worked (v.post c k p i n d) l :=
  h.andThen (State.worked_of (by simp) (by simp) (by simpa using v.post_frame c k p i n d))

theorem State.Worked.postFor {u v : State} {l : List HoldRequest} (h : u.Worked v l) (c : EventClass) (k : EventKind)
    (p : Option PortId) (rd : Record) (d : Byte) : u.Worked (v.postFor c k p rd d) l := h.post ..

theorem State.Worked.freeRecord {u v : State} {l : List HoldRequest} (h : u.Worked v l) (r : RecordIx) :
    u.Worked (v.freeRecord r) l := by
  refine h.andThen ?_
  unfold State.freeRecord; split <;> exact State.worked_of rfl rfl rfl

theorem State.requestOrder_sameButQueue (s : State) (p q : PortId) (k : OrderKind) (x : HeadsetId) :
    (s.port q).SameButQueue ((s.requestOrder p k x).2.port q) := by
  rcases s.requestOrder_cases p k x with ⟨-, h⟩ | ⟨o, l, -, -, h⟩ | ⟨l, -, h⟩ <;> rw [h]
  · exact .refl _
  · by_cases hq : q = p
    · subst hq; simp [State.modPort_port, Port.SameButQueue]
    · simp [State.modPort_port, hq, Port.SameButQueue]
  · by_cases hq : q = p
    · subst hq; simp [State.bumpPort, State.modPort_port, Port.SameButQueue, Port.bump]
    · simp [State.bumpPort, State.modPort_port, hq, Port.SameButQueue]

theorem State.Worked.requestOrder {u v : State} {l : List HoldRequest} (h : u.Worked v l) (p : PortId) (k : OrderKind)
    (x : HeadsetId) : u.Worked (v.requestOrder p k x).2 l :=
  h.andThen ⟨fun q => v.requestOrder_sameButQueue p q k x, by rw [v.requestOrder_frame]; simp,
    by rw [v.requestOrder_frame]⟩

theorem State.Worked.dropAndLower {u v : State} {l : List HoldRequest} (h : u.Worked v l) (p : Option PortId)
    (x : HeadsetId) : u.Worked (v.dropAndLower p x) l := by
  cases p with
  | none => exact h
  | some p => exact (h.requestOrder p .drop x).lowerLoad p

/-! ### The stages -/

theorem completionStage_worked (ev : List Evidence) (r : RecordIx) (s : State) :
    s.Worked (completionStage ev r s) [] := by
  unfold completionStage completeAttach completeBridge; dsimp only
  repeat' split
  · exact .refl s
  · exact (((State.Worked.refl s).modRecord ..).bumpRoam _).postFor ..
  · exact ((((State.Worked.refl s).dropAndLower ..).modRecord ..).bumpRoam _).postFor ..
  · exact .refl s
  · exact .refl s

theorem State.Worked.linkLoss {u v : State} {l : List HoldRequest} (h : u.Worked v l) (r : RecordIx) :
    u.Worked (linkLoss r v) l := by
  unfold Sys2Proof.Machine.linkLoss
  exact (((h.dropAndLower ..).dropAndLower ..).modRecord ..).postFor ..

theorem missStage_worked (heard : Bool) (r : RecordIx) (s : State) : s.Worked (missStage heard r s) [] := by
  unfold missStage; dsimp only
  generalize (if heard = true then 0 else (s.record r).missRaised) = n
  repeat' split
  · exact ((State.Worked.refl s).modRecord ..).linkLoss r
  · exact (State.Worked.refl s).modRecord ..
  · exact .refl s

theorem State.Worked.failBridge {u v : State} {l : List HoldRequest} (h : u.Worked v l) (r : RecordIx) (t : PortId)
    (why : FailReason) : u.Worked (failBridge r t why v) l := by
  unfold Sys2Proof.Machine.failBridge reportFailed
  exact ((h.modRecord ..).bumpRoam _).postFor ..

theorem State.Worked.failAttach {u v : State} {l : List HoldRequest} (h : u.Worked v l) (r : RecordIx) (a : PortId)
    (why : FailReason) : u.Worked (failAttach r a why v) l := by
  unfold Sys2Proof.Machine.failAttach
  exact (h.modRecord ..).postFor ..

theorem bridgeTimerStage_worked (r : RecordIx) (s : State) : s.Worked (bridgeTimerStage r s).2 [] := by
  unfold bridgeTimerStage; dsimp only
  repeat' split
  · exact (((State.Worked.refl s).modRecord ..).dropAndLower ..).failBridge ..
  · dsimp only; exact (State.Worked.refl s).modRecord r _
  · exact .refl s

theorem attachTimerStage_worked (r : RecordIx) (s : State) : s.Worked (attachTimerStage r s).2 [] := by
  unfold attachTimerStage; dsimp only
  repeat' split
  · exact (((State.Worked.refl s).modRecord ..).dropAndLower ..).failAttach ..
  · dsimp only; exact (State.Worked.refl s).modRecord r _
  · exact .refl s

theorem orphanStage_worked (r : RecordIx) (s : State) : s.Worked (orphanStage r s) [] := by
  unfold orphanStage; dsimp only
  repeat' split
  · exact ((((State.Worked.refl s).modRecord ..).dropAndLower ..).freeRecord r).postFor ..
  · exact (State.Worked.refl s).modRecord ..
  · exact .refl s

theorem timerStage_worked (r : RecordIx) (s : State) : s.Worked (timerStage r s) [] := by
  unfold timerStage barStage
  exact ((((bridgeTimerStage_worked r s).andThen (attachTimerStage_worked r _)).andThen
    (orphanStage_worked r _)).modRecord ..)

theorem beginAttach_worked (r : RecordIx) (a : PortId) (s : State) : s.Worked (beginAttach r a s) [] := by
  unfold beginAttach; dsimp only
  have hasked := (((State.Worked.refl s).modRecord r fun rd =>
    { rd with state := .attaching, target := some a, accepted := false, timer := 0 }).raiseLoad a).requestOrder a
      .acquire (s.record r).headset
  split
  · exact ((hasked.lowerLoad a).modRecord ..).postFor ..
  · exact hasked

theorem beginBridge_worked (r : RecordIx) (t : PortId) (k : BridgeKind) (s : State) :
    s.Worked (beginBridge r t k s).2 [] := by
  unfold beginBridge reportFailed; dsimp only
  generalize hf : (fun rd : Record => ({ rd with
    state := .bridging
    target := some t
    accepted := false
    timer := 0
    kind := some k
    dwellTarget := none
    dwellCount := 0
    deferred := false
    cands := if k = .forced then insertForced rd.pinned t rd.cands else rd.cands } : Record)) = f
  have hasked := (((State.Worked.refl s).modRecord r f).raiseLoad t).requestOrder t .acquire (s.record r).headset
  split
  · dsimp only; exact (((hasked.lowerLoad t).modRecord ..).bumpRoam _).postFor ..
  · exact hasked

theorem handoffTest_worked (r : RecordIx) (x : PortId) (s : State) : s.Worked (handoffTest r x s) [] := by
  unfold handoffTest; dsimp only
  repeat' split
  · exact (State.Worked.refl s).setRecord ..
  · exact (State.Worked.refl s).setRecord ..
  · exact ((State.Worked.refl s).setRecord ..).andThen (beginBridge_worked ..)
  · exact (State.Worked.refl s).setRecord ..
  · exact (State.Worked.refl s).setRecord ..

theorem decisionStage_worked (r : RecordIx) (s : State) : s.Worked (decisionStage r s) [] := by
  unfold decisionStage decideActive beginRescue searchStage; dsimp only
  repeat' split
  · exact (((State.Worked.refl s).bumpRoam _).postFor ..).andThen (beginBridge_worked ..)
  · exact handoffTest_worked ..
  · exact handoffTest_worked ..
  · exact beginAttach_worked ..
  · exact .refl s
  · exact .refl s

/-- Stage 4 hands over at most one request, in the record's name (R88). -/
theorem voiceStage_worked (before : Record) (ev : List Evidence) (r : RecordIx) (s : State) :
    ∃ l, s.Worked (voiceStage before ev r s) l ∧ l.length ≤ 1 ∧ ∀ q ∈ l, q.index = r := by
  unfold voiceStage; dsimp only
  split
  · split
    · exact ⟨[_], ⟨fun p => .refl _, rfl, rfl⟩, by simp, by simp⟩
    · exact ⟨[], .refl s, by simp, by simp⟩
  · exact ⟨[], .refl s, by simp, by simp⟩

/-- The treatment of a record hands over at most one request, in the record's name. -/
theorem closeRecord_worked (ev : List Evidence) (s : State) (r : RecordIx) :
    ∃ l, s.Worked (closeRecord ev s r) l ∧ l.length ≤ 1 ∧ ∀ q ∈ l, q.index = r := by
  unfold closeRecord; dsimp only
  split
  · exact ⟨[], .refl s, by simp, by simp⟩
  · generalize evidenceOf (s.record r) ev = mine
    have h2 : s.Worked (measureStage mine r (completionStage mine r s)) [] := by
      unfold measureStage; exact (completionStage_worked mine r s).modRecord ..
    generalize measureStage mine r (completionStage mine r s) = s₂ at h2 ⊢
    have h3 := h2.andThen (missStage_worked (heardCycle mine (s₂.record r)) r s₂)
    obtain ⟨l, h4, hl⟩ := voiceStage_worked (s.record r) mine r (missStage (heardCycle mine (s₂.record r)) r s₂)
    have h5 := (h3.trans h4).andThen (timerStage_worked r _)
    rw [List.nil_append] at h5
    refine ⟨l, ?_, hl⟩
    split
    · exact h5
    · exact h5.andThen (decisionStage_worked r _)

end Sys2Proof.Machine
end

section
/-! CYCLE_CLOSE whole: the records in ascending index, what is handed over, and the consumption at the ports (O45, O46). -/

namespace Sys2Proof.Machine

/-! ### The pass over the records -/

/-- The ascending indexes below n, in order, before n and those above it. -/
theorem finRange_split {n : Nat} (r : Fin n) :
    ∃ above, List.finRange n = (List.finRange n).filter (· < r) ++ r :: above ∧ r ∉ above := by
  obtain ⟨below, above, h⟩ := List.append_of_mem (List.mem_finRange r)
  have hp := List.pairwise_lt_finRange n
  rw [h, List.pairwise_append, List.pairwise_cons] at hp
  obtain ⟨-, ⟨habove, -⟩, hbelow⟩ := hp
  have hb : below.filter (· < r) = below :=
    List.filter_eq_self.mpr fun a ha => by simpa using hbelow a ha r (by simp)
  have ha : above.filter (· < r) = [] :=
    List.filter_eq_nil_iff.mpr fun a ha => by simpa using Fin.le_of_lt (habove a ha)
  refine ⟨above, ?_, fun hr => Nat.lt_irrefl _ (habove r hr)⟩
  rw [h, List.filter_append, List.filter_cons, if_neg (by simp), hb, ha, List.append_nil]

/-- A pass leaves the records outside its list. -/
theorem foldl_record_of_notMem {f : State → RecordIx → State}
    (hf : ∀ u r q, q ≠ r → (f u r).record q = u.record q) {l : List RecordIx} {r : RecordIx} (hr : r ∉ l) (s : State) :
    (l.foldl f s).record r = s.record r := by
  induction l generalizing s with
  | nil => rfl
  | cons a l ih =>
    rw [List.mem_cons, not_or] at hr
    rw [List.foldl_cons, ih hr.2, hf s a r hr.1]

/-- In a pass over all records each is found as the pass found it and left as its own turn leaves it. -/
theorem foldl_finRange_record {f : State → RecordIx → State} (hf : ∀ u r q, q ≠ r → (f u r).record q = u.record q)
    (s : State) (r : RecordIx) :
    (((List.finRange 192).filter (· < r)).foldl f s).record r = s.record r ∧
      ((List.finRange 192).foldl f s).record r =
        (f (((List.finRange 192).filter (· < r)).foldl f s) r).record r := by
  obtain ⟨above, hsplit, hr⟩ := finRange_split r
  refine ⟨foldl_record_of_notMem hf (by simp) s, ?_⟩
  generalize (List.finRange 192).filter (· < r) = below at *
  rw [hsplit, List.foldl_append, List.foldl_cons, foldl_record_of_notMem hf hr]

/-- A pass of turns that each hand over at most one request in the record's name hands over requests in ascending
index. -/
theorem State.Worked.pass {f : State → RecordIx → State}
    (hf : ∀ (u : State) (r : RecordIx), ∃ l : List HoldRequest, u.Worked (f u r) l ∧ l.length ≤ 1 ∧ ∀ q ∈ l, q.index = r) (rs : List RecordIx)
    (hrs : rs.Pairwise (· < ·)) (s : State) :
    ∃ l, s.Worked (rs.foldl f s) l ∧ (l.map (·.index)).Pairwise (· < ·) ∧ ∀ q ∈ l, q.index ∈ rs := by
  induction rs generalizing s with
  | nil => exact ⟨[], .refl s, by simp, by simp⟩
  | cons r rs ih =>
    rw [List.pairwise_cons] at hrs
    obtain ⟨l, hl, hone, hname⟩ := hf s r
    obtain ⟨m, hm, hsorted, hin⟩ := ih hrs.2 (f s r)
    refine ⟨l ++ m, hl.trans hm, ?_, fun q hq => ?_⟩
    · rw [List.map_append, List.pairwise_append]
      refine ⟨?_, hsorted, ?_⟩
      · match l, hone with
        | [], _ => simp
        | [_], _ => simp
      · intro a ha b hb
        obtain ⟨q, hq, rfl⟩ := List.mem_map.mp ha
        obtain ⟨q', hq', rfl⟩ := List.mem_map.mp hb
        rw [hname q hq]; exact hrs.1 _ (hin q' hq')
    · rcases List.mem_append.mp hq with h | h
      · simp [hname q h]
      · exact List.mem_cons_of_mem _ (hin q h)

/-! ### What a close reads and hands over -/

/-- An ID that no record holds. -/
theorem State.findRecord_isNone (s : State) (x : HeadsetId) :
    (s.findRecord x).isNone = true ↔ ∀ r, (s.record r).state = .free ∨ (s.record r).id ≠ some x := by
  simp only [State.findRecord, Option.isNone_iff_eq_none, List.find?_eq_none, decide_eq_true_eq, List.mem_finRange,
    true_implies]
  exact forall_congr' fun r => by tauto

theorem Burst.isRegister_iff (b : Burst) : b.isRegister = true ↔ b.kind = .register := by
  unfold Burst.isRegister; cases b.kind <;> simp

/-- A close reads a Gathering frame by the port's state and the kind of the burst (R7, R28). -/
theorem readPort_eq (a : PortId) (p : Port) : readPort a p = match p.gatherSlot with
    | none => []
    | some f => (f.bursts.filter fun b => match p.state, b.kind with
      | .active, _ => true
      | .dormant, .voice _ => false
      | .dormant, _ => true
      | .off, _ => false
      | .isolated, _ => false).map fun b => (⟨a, b⟩ : Evidence) := by
  unfold readPort
  cases p.gatherSlot with
  | none => rfl
  | some f =>
    dsimp only
    cases p.state with
    | active => exact congrArg (List.map (Evidence.mk a)) (List.filter_eq_self.mpr fun _ _ => rfl).symm
    | off => exact congrArg (List.map (Evidence.mk a)) (List.filter_eq_nil_iff.mpr fun _ _ => Bool.false_ne_true).symm
    | isolated => exact congrArg (List.map (Evidence.mk a)) (List.filter_eq_nil_iff.mpr fun _ _ => Bool.false_ne_true).symm
    | dormant =>
      refine congrArg _ (List.filter_congr fun b _ => ?_)
      unfold Burst.isVoice; cases b.kind <;> rfl

/-- The bursts handed to the registration intake are the Register bursts whose ID no record holds (R71). -/
theorem unknownRegisters_eq (s : State) (ev : List Evidence) :
    unknownRegisters s ev = (ev.filter fun e => e.burst.kind = .register ∧
      ∀ r, (s.record r).state = .free ∨ (s.record r).id ≠ some e.burst.id).map fun e =>
        (⟨e.port, e.burst.id, e.burst.level⟩ : Heard) := by
  refine congrArg _ (List.filter_congr fun e _ => Bool.eq_iff_iff.mpr ?_)
  simp only [Bool.and_eq_true, Burst.isRegister_iff, s.findRecord_isNone, decide_eq_true_eq]

theorem handIntake_eq (g : CycleNo) (heard : List Heard) (s : State) :
    handIntake g heard s = { s with intakes := s.intakes ++ (if heard = [] then [] else [⟨g, heard⟩]) } := by
  unfold handIntake; split
  · simp
  · rfl

/-! ### The consumption (R115) -/

theorem consumeAll_port (g : CycleNo) (s : State) (p : PortId) : (consumeAll g s).port p = (s.port p).consume g :=
  vmap_get ..

theorem consumeAll_due (g : CycleNo) (s : State) (p : PortId) : (consumeAll g s).isolationDue.get p = true ↔
    s.isolationDue.get p = true ∨ ((s.port p).state = .active ∨ (s.port p).state = .dormant) ∧
      s.params.linkTimeout ≤ ((s.port p).consume g).missing := by
  have hstate : ((s.port p).consume g).state = (s.port p).state := by unfold Port.consume; split <;> rfl
  simp only [consumeAll, vofFn_get, vmap_get, Bool.or_eq_true, Bool.and_eq_true, decide_eq_true_eq, Port.entitled]
  rw [← State.port, hstate]

theorem Port.consume_orders (g : CycleNo) (p : Port) :
    (p.consume g).orders = p.orders ∧ (p.consume g).counters = p.counters := by
  unfold Port.consume; split <;> exact ⟨rfl, rfl⟩

theorem Port.SameButQueue.state_eq {p q : Port} (h : p.SameButQueue q) : q.state = p.state := by
  unfold Port.SameButQueue at h; rw [← h]

/-- What the consumption makes of a port is fixed by all but its orders and counters. -/
theorem Port.SameButQueue.consume {p q : Port} (h : p.SameButQueue q) (g : CycleNo) :
    { q.consume g with orders := p.orders, counters := p.counters } =
      if p.state = .active ∨ p.state = .dormant then
        { p with
          missing := if p.gatherSlot = none then min (p.missing + 1) 250 else 0
          gatherSlot := p.earlySlot
          earlySlot := none
          gathering := g + 1 }
      else { p with gathering := g + 1 } := by
  obtain ⟨orders, counters, rfl⟩ : ∃ o c, p = { q with orders := o, counters := c } := ⟨_, _, h.symm⟩
  unfold Port.consume
  by_cases hserves : q.state = .active ∨ q.state = .dormant
  · rw [if_pos (by simpa [Port.entitled] using hserves), if_pos hserves]
    cases q.gatherSlot <;> rfl
  · rw [if_neg (by simpa [Port.entitled] using hserves), if_neg hserves]

/-! ### The close that is scheduled -/

/-- The state a scheduled close starts from: it is no longer pending. -/
def State.closeBegun (s : State) : State := { s with pendingClose := none }

/-- The state in which a close leaves the records, all of them treated. -/
def State.treated (s : State) : State :=
  (List.finRange 192).foldl (closeRecord (closeEvidence s.closeBegun)) s.closeBegun

theorem makePendingClose_eq {s : State} {c : CloseDue} (hc : s.pendingClose = some c) :
    makePendingClose s = consumeAll c.cycle (handIntake c.cycle
      (unknownRegisters s.closeBegun (closeEvidence s.closeBegun)) s.treated) := by
  unfold makePendingClose; rw [hc]; rfl

/-- The records of a close hand over their requests in ascending index, and change nothing but what a close may. -/
theorem State.treated_worked (s : State) :
    ∃ l, s.closeBegun.Worked s.treated l ∧ (l.map (·.index)).Pairwise (· < ·) := by
  obtain ⟨l, hl, hsorted, -⟩ := State.Worked.pass (closeRecord_worked (closeEvidence s.closeBegun)) (List.finRange 192)
    (List.pairwise_lt_finRange 192) s.closeBegun
  exact ⟨l, hl, hsorted⟩

/-- What a close may change (R6). -/
theorem makePendingClose_frame (s : State) : makePendingClose s = { s with
    pendingClose := none
    ports := (makePendingClose s).ports
    records := (makePendingClose s).records
    loads := (makePendingClose s).loads
    bindings := (makePendingClose s).bindings
    holds := (makePendingClose s).holds
    roamCounters := (makePendingClose s).roamCounters
    events := (makePendingClose s).events
    lostEvents := (makePendingClose s).lostEvents
    holdRequests := (makePendingClose s).holdRequests
    intakes := (makePendingClose s).intakes
    isolationDue := (makePendingClose s).isolationDue } := by
  cases hc : s.pendingClose with
  | none =>
    have hrun : makePendingClose s = s := by unfold makePendingClose; rw [hc]
    rw [hrun, ← hc]
  | some c =>
    obtain ⟨requests, hworked, -⟩ := s.treated_worked
    rw [makePendingClose_eq hc, handIntake_eq]
    generalize s.treated = done at *
    rw [hworked.frame]; rfl

theorem closeRecord_others (ev : List Evidence) (u : State) (r q : RecordIx) (h : q ≠ r) :
    (closeRecord ev u r).record q = u.record q := (closeRecord_turn ev u r).others q h

theorem closeRecord_of_free {ev : List Evidence} {u : State} {r : RecordIx} (h : (u.record r).state = .free) :
    closeRecord ev u r = u := if_pos h

/-- A close leaves a FREE record as it is. -/
theorem State.treated_record_of_free {s : State} {r : RecordIx} (h : (s.record r).state = .free) :
    s.treated.record r = s.record r := by
  obtain ⟨hfound, hleft⟩ := foldl_finRange_record (closeRecord_others (closeEvidence s.closeBegun)) s.closeBegun r
  refine hleft.trans ?_
  generalize List.foldl _ _ _ = u at *
  rw [closeRecord_of_free (by rw [hfound]; exact h), hfound]; rfl

end Sys2Proof.Machine

section
open Sys2Proof Sys2Proof.Machine

/-- Settles O45: the treatment of a record is the statement's six stages on the statement's evidence; a turn leaves the
other records alone, so each is found as the close found it; what the records hand over is gathered along the pass. -/
theorem closeTreatsEachRecordInSixStages : Obligations.CloseTreatsEachRecordInSixStages := by
  unfold Obligations.CloseTreatsEachRecordInSixStages
  intro s c hc evidence stages start found done handed
  have hev : closeEvidence start = evidence :=
    congrArg (fun f => (List.finRange 24).flatMap f) (funext fun p => readPort_eq p (start.port p))
  have hstages : closeRecord (closeEvidence start) = stages := by rw [hev]; rfl
  have hdone : s.treated = done := by rw [State.treated, State.closeBegun, hstages]
  have hheard : unknownRegisters start (closeEvidence start) = handed := by rw [unknownRegisters_eq, hev]; rfl
  obtain ⟨requests, hworked, hsorted⟩ := s.treated_worked
  have hturns : ∀ r, (found r).record r = start.record r ∧ done.record r = (stages (found r) r).record r :=
    foldl_finRange_record (hstages ▸ closeRecord_others (closeEvidence start)) start
  clear_value handed done found
  have hrun := makePendingClose_eq hc
  rw [State.closeBegun, hheard, handIntake_eq] at hrun
  rw [hdone] at hrun hworked
  have hintakes : done.intakes = s.intakes := by rw [hworked.frame]; rfl
  refine ⟨makePendingClose s, rfl, fun r => ?_, ⟨requests, ?_, hsorted⟩, ?_, fun p => ?_, ?_⟩
  · rw [hrun]; exact hturns r
  · rw [hrun]; exact hworked.requests
  · rw [hrun, ← hintakes]; rfl
  · rw [hrun, consumeAll_port]; exact Port.consume_orders c.cycle _
  · rw [hrun]; rfl

/-- Settles O46: the treatment of the records keeps all of a port but its orders and counters, and the consumption reads
neither. -/
theorem closeConsumesTheFrames : Obligations.CloseConsumesTheFrames := by
  unfold Obligations.CloseConsumesTheFrames
  refine fun s => ⟨fun hnone => ?_, fun c hc => ⟨makePendingClose s, rfl, ?_⟩⟩
  · exact congrArg Host.Outcome.next (by unfold makePendingClose; rw [hnone])
  obtain ⟨requests, hworked, -⟩ := s.treated_worked
  have hfree := fun r => s.treated_record_of_free (r := r)
  have hframe := makePendingClose_frame s
  have hrun := makePendingClose_eq hc
  rw [handIntake_eq] at hrun
  rw [hrun] at hframe ⊢
  generalize s.treated = done at *
  have hisolation : done.isolationDue = s.isolationDue := by rw [hworked.frame]; rfl
  have hparams : done.params = s.params := by rw [hworked.frame]; rfl
  refine ⟨fun p => ?_, fun p => ?_, hfree, ?_⟩
  · rw [consumeAll_port]; exact (hworked.queues p).consume c.cycle
  · have hstate : (done.port p).state = (s.port p).state := (hworked.queues p).state_eq
    rw [consumeAll_due, consumeAll_port, ← hisolation, ← hparams, ← hstate]; rfl
  · exact hframe
end
end

section
/-! The upstream transmit: each lane reads and changes what is its own, so the frame is the 64 lanes as the transmit finds
them. -/

namespace Sys2Proof.Machine

/-! ### What a transmit may change -/

/-- A lane changes the lanes alone. -/
theorem sendLane_frame (n : LaneId) (s : State) : (sendLane n s).2 = { s with
    holds := (sendLane n s).2.holds
    laneCounters := (sendLane n s).2.laneCounters
    primary := (sendLane n s).2.primary
    secondary := (sendLane n s).2.secondary } := by
  unfold sendLane
  split
  · unfold buildControl; dsimp only; cases ctlLaneOf n <;> rfl
  · split
    · rfl
    · split
      · rfl
      · unfold sendBound; dsimp only
        split
        · rfl
        · split <;> rfl

theorem sendLanes_frame (ns : List LaneId) (s : State) : (sendLanes ns s).2 = { s with
    holds := (sendLanes ns s).2.holds
    laneCounters := (sendLanes ns s).2.laneCounters
    primary := (sendLanes ns s).2.primary
    secondary := (sendLanes ns s).2.secondary } := by
  induction ns generalizing s with
  | nil => rfl
  | cons n ns ih =>
    have hfirst := sendLane_frame n s
    have hrest := ih (sendLane n s).2
    rw [sendLanes]; dsimp only
    generalize (sendLanes ns (sendLane n s).2).2 = v at hrest ⊢
    rw [hfirst] at hrest
    exact hrest

/-- A transmit changes the lanes and what is sent alone (R92). -/
theorem transmit_frame (s : State) : transmit s = { s with
    upstreamOut := (transmit s).upstreamOut
    holds := (transmit s).holds
    laneCounters := (transmit s).laneCounters
    primary := (transmit s).primary
    secondary := (transmit s).secondary } := by
  unfold transmit; dsimp only
  rw [sendLanes_frame]

/-! ### What is a lane's own -/

/-- Two states agree but for lanes and agree on lane n: its hold, its counters, and the control lane it is. -/
structure State.AgreeAt (n : LaneId) (u v : State) : Prop where
  frame : v = { u with holds := v.holds, laneCounters := v.laneCounters, primary := v.primary, secondary := v.secondary }
  hold : v.holdOf n = u.holdOf n
  counters : v.laneCounters.get n = u.laneCounters.get n
  primary : n = 63 → v.primary = u.primary
  secondary : n = 62 → v.secondary = u.secondary

theorem State.AgreeAt.refl (n : LaneId) (u : State) : u.AgreeAt n u := ⟨rfl, rfl, rfl, fun _ => rfl, fun _ => rfl⟩

theorem State.AgreeAt.trans {n : LaneId} {u v w : State} (h : u.AgreeAt n v) (h' : v.AgreeAt n w) : u.AgreeAt n w where
  frame := by
    have hf := h.frame
    have hf' := h'.frame
    rw [hf] at hf'
    exact hf'
  hold := h'.hold.trans h.hold
  counters := h'.counters.trans h.counters
  primary hn := (h'.primary hn).trans (h.primary hn)
  secondary hn := (h'.secondary hn).trans (h.secondary hn)

theorem State.setHold_agreeAt {m n : LaneId} (h : m ≠ n) (s : State) (x : Hold) : s.AgreeAt m (s.setHold n x) :=
  ⟨rfl, vset_get_other _ _ _ _ h, rfl, fun _ => rfl, fun _ => rfl⟩

theorem State.bumpLane_agreeAt {m n : LaneId} (h : m ≠ n) (s : State) (k : LaneCounter) : s.AgreeAt m (s.bumpLane n k) :=
  ⟨rfl, rfl, vset_get_other _ _ _ _ h, fun _ => rfl, fun _ => rfl⟩

/-- A lane of the control region that is not lane 63 is lane 62. -/
theorem State.isControl_second {s : State} (hc : s.partition.control ≤ 2) {n : LaneId} (h : s.isControl n = true)
    (hn : n ≠ 63) : n = 62 := by
  simp only [State.isControl, decide_eq_true_eq] at h
  have h63 : n.val ≠ 63 := fun e => hn (Fin.ext e)
  exact Fin.ext (by change n.val = 62; omega)

/-- What a lane sends leaves every other lane as it is. -/
theorem sendLane_agreeAt {s : State} (hc : s.partition.control ≤ 2) {m n : LaneId} (h : m ≠ n) :
    s.AgreeAt m (sendLane n s).2 := by
  unfold sendLane
  split
  · rename_i hctl
    by_cases hn : n = 63
    · subst hn
      exact ⟨rfl, rfl, rfl, fun e => absurd e h, fun _ => rfl⟩
    · have h62 := State.isControl_second hc hctl hn
      subst h62
      exact ⟨rfl, rfl, rfl, fun _ => rfl, fun e => absurd e h⟩
  · split
    · exact .refl m s
    · split
      · exact .refl m s
      · unfold sendBound; dsimp only
        split
        · exact s.setHold_agreeAt h _
        · split
          · exact (s.setHold_agreeAt h _).trans (State.bumpLane_agreeAt h _ _)
          · exact s.bumpLane_agreeAt h _

theorem State.AgreeAt.setHold {n : LaneId} {u v : State} (h : u.AgreeAt n v) (x : Hold) :
    (u.setHold n x).AgreeAt n (v.setHold n x) where
  frame := by rw [h.frame]; rfl
  hold := by simp [State.setHold_holdOf]
  counters := h.counters
  primary := h.primary
  secondary := h.secondary

theorem State.AgreeAt.bumpLane {n : LaneId} {u v : State} (h : u.AgreeAt n v) (k : LaneCounter) :
    (u.bumpLane n k).AgreeAt n (v.bumpLane n k) where
  frame := by rw [h.frame]; rfl
  hold := h.hold
  counters := by simp [State.bumpLane, h.counters]
  primary := h.primary
  secondary := h.secondary

/-- The control block of a lane is built from that lane and from what no lane holds. -/
theorem State.AgreeAt.buildControl {n : LaneId} {u v : State} (h : u.AgreeAt n v) (l : CtlLane)
    (hl : v.lane l = u.lane l) : (buildControl l v).1 = (buildControl l u).1 ∧
      (buildControl l u).2.AgreeAt n (buildControl l v).2 := by
  have hbytes : ∀ placed, controlBytes v l placed = controlBytes u l placed := fun placed => by
    unfold controlBytes controlByte0 controlByte1
    rw [hl, h.frame]
  unfold Sys2Proof.Machine.buildControl; dsimp only
  rw [hl, hbytes]
  generalize takeResponses Config.responseBytes (u.lane l).queue = taken
  refine ⟨rfl, ?_⟩
  have hf := h.frame
  cases l
  · exact ⟨by rw [hf]; rfl, h.hold, h.counters, fun _ => rfl, h.secondary⟩
  · exact ⟨by rw [hf]; rfl, h.hold, h.counters, h.primary, fun _ => rfl⟩

/-- What a lane sends and leaves behind reads nothing of another lane. -/
theorem sendLane_congr {u v : State} (hc : u.partition.control ≤ 2) {n : LaneId} (h : u.AgreeAt n v) :
    (sendLane n v).1 = (sendLane n u).1 ∧ (sendLane n u).2.AgreeAt n (sendLane n v).2 := by
  have hctl : v.isControl n = u.isControl n := by rw [h.frame]; rfl
  have hparams : v.params = u.params := by rw [h.frame]
  have hbound : v.binding n = u.binding n := by rw [h.frame]; rfl
  unfold sendLane
  rw [hctl, hparams, hbound]
  split
  · rename_i hin
    have hlane : v.lane (ctlLaneOf n) = u.lane (ctlLaneOf n) := by
      unfold ctlLaneOf; split
      · exact h.primary ‹_›
      · exact h.secondary (State.isControl_second hc hin ‹_›)
    obtain ⟨hblock, hleft⟩ := h.buildControl _ hlane
    exact ⟨congrArg (LaneSend.mk .fresh) hblock, hleft⟩
  · split
    · exact ⟨rfl, h⟩
    · split
      · exact ⟨rfl, h⟩
      · unfold sendBound; dsimp only
        rw [h.hold, hparams]
        split
        · exact ⟨rfl, h.setHold _⟩
        · split
          · exact ⟨rfl, (h.setHold _).bumpLane _⟩
          · exact ⟨rfl, h.bumpLane _⟩

/-! ### The lanes one after the other -/

/-- Lanes sent one after the other send what each would send first, and leave what each would leave. -/
theorem sendLanes_eq {u : State} (hc : u.partition.control ≤ 2) {ns : List LaneId} (hns : ns.Nodup) (v : State)
    (h : ∀ n ∈ ns, u.AgreeAt n v) (hv : v.partition.control ≤ 2) :
    (sendLanes ns v).1 = ns.map (fun n => (sendLane n u).1) ∧
      (∀ n ∈ ns, (sendLane n u).2.AgreeAt n (sendLanes ns v).2) ∧ ∀ n ∉ ns, v.AgreeAt n (sendLanes ns v).2 := by
  induction ns generalizing v with
  | nil => exact ⟨rfl, by simp, fun n _ => .refl n v⟩
  | cons n ns ih =>
    obtain ⟨hn, hns⟩ := List.nodup_cons.mp hns
    obtain ⟨hsent, hleft⟩ := sendLane_congr hc (h n (by simp))
    have hother : ∀ m, m ≠ n → v.AgreeAt m (sendLane n v).2 := fun m hm => sendLane_agreeAt hv hm
    have hsize : (sendLane n v).2.partition = v.partition := by rw [sendLane_frame]
    obtain ⟨hsends, hins, houts⟩ := ih hns (sendLane n v).2
      (fun m hm => (h m (by simp [hm])).trans (hother m (by rintro rfl; exact hn hm))) (by rw [hsize]; exact hv)
    refine ⟨?_, fun m hm => ?_, fun m hm => ?_⟩
    · rw [sendLanes, List.map_cons, ← hsent, ← hsends]
    · rcases List.mem_cons.mp hm with rfl | hm
      · exact hleft.trans (houts m hn)
      · exact hins m hm
    · rw [List.mem_cons, not_or] at hm
      exact (hother m hm.1).trans (houts m hm.2)

/-! ### The frame -/

/-- The number of a lane status (Table 12-4). -/
def LaneStatus.number : LaneStatus → Fin 4
  | .idle => 0
  | .fresh => 1
  | .concealed => 2
  | .silence => 3

theorem LaneStatus.code_eq (x : LaneStatus) : x.code = byteOf x.number.val := by cases x <;> rfl

theorem packed_codes : ∀ a b c d : Fin 4,
    byteOf a.val ||| (byteOf b.val <<< 2) ||| (byteOf c.val <<< 4) ||| (byteOf d.val <<< 6) =
      byteOf (a.val + 4 * b.val + 16 * c.val + 64 * d.val) := by decide

theorem upstreamFlags_eq (s : State) : upstreamFlags s =
    byteOf ((match s.timer.clock with | .follow => 0 | .holdover => 1 | .localClock => 2) +
      if s.partition.control = 2 then 4 else 0) := by
  unfold upstreamFlags
  by_cases h : s.partition.control = 2 <;> simp only [h] <;> cases s.timer.clock <;> rfl

/-- Byte k of the lane status field, from the sends of all lanes in order. -/
theorem statusByte_map (f : LaneId → LaneSend) (k : Fin 16) : statusByte ((List.finRange 64).map f) k.val =
    byteOf ((f ⟨4 * k.val, by omega⟩).status.number.val + 4 * (f ⟨4 * k.val + 1, by omega⟩).status.number.val +
      16 * (f ⟨4 * k.val + 2, by omega⟩).status.number.val +
      64 * (f ⟨4 * k.val + 3, by omega⟩).status.number.val) := by
  have hget : ∀ i (h : i < 64), (((List.finRange 64).map f)[i]?.map (·.status.code)).getD 0 =
      byteOf (f ⟨i, h⟩).status.number.val := fun i h => by
    rw [List.getElem?_eq_getElem (by simpa using h)]
    simp [LaneStatus.code_eq]
  unfold statusByte; dsimp only
  rw [hget (4 * k.val + 0) (by omega), hget (4 * k.val + 1) (by omega), hget (4 * k.val + 2) (by omega),
    hget (4 * k.val + 3) (by omega)]
  exact packed_codes _ _ _ _

theorem sendLanes_length (ns : List LaneId) (s : State) : (sendLanes ns s).1.length = ns.length := by
  induction ns generalizing s with
  | nil => rfl
  | cons n ns ih => simp [sendLanes, ih]

/-- An upstream matrix frame has 4115 bytes, the first two the number (Table 12-4). -/
theorem transmit_upstreamOut (s : State) :
    (transmit s).upstreamOut.length = 4115 ∧ (transmit s).upstreamOut.take 2 = halfBytes s.timer.cycle := by
  have hlanes := sendLanes_length (List.finRange 64) s
  unfold transmit upstreamBytes; dsimp only
  generalize (sendLanes (List.finRange 64) s).1 = sends at *
  refine ⟨?_, by simp [halfBytes]⟩
  have hblocks : (sends.flatMap (·.block.toList)).length = 4096 := by
    simp [List.length_flatMap, hlanes]
  simp only [List.length_append, hblocks]
  simp [halfBytes]

/-- The frame of a transmit: the number, the flags, the statuses and the blocks of the 64 lanes as it finds them (R92). -/
theorem transmit_frameBytes {u : State} (hc : u.partition.control ≤ 2) :
    (transmit u).upstreamOut = halfBytes u.timer.cycle ++ [upstreamFlags u] ++
      (List.finRange 16).map (fun k => statusByte ((List.finRange 64).map fun n => (sendLane n u).1) k.val) ++
        (List.finRange 64).flatMap (fun n => (sendLane n u).1.block.toList) := by
  have hsends := (sendLanes_eq hc (List.nodup_finRange 64) u (fun n _ => .refl n u) hc).1
  unfold transmit upstreamBytes; dsimp only
  rw [hsends, List.flatMap_map, ← List.map_coe_finRange_eq_range, List.map_map]; rfl

/-- Each lane is left by a transmit as it would be left alone. -/
theorem transmit_agreeAt {u : State} (hc : u.partition.control ≤ 2) (n : LaneId) :
    (transmit u).holdOf n = (sendLane n u).2.holdOf n ∧
      (transmit u).laneCounters.get n = (sendLane n u).2.laneCounters.get n ∧
      (n = 63 → (transmit u).primary = (sendLane n u).2.primary) ∧
      (n = 62 → (transmit u).secondary = (sendLane n u).2.secondary) := by
  have h := (sendLanes_eq hc (List.nodup_finRange 64) u (fun n _ => .refl n u) hc).2.1 n (List.mem_finRange n)
  unfold transmit; dsimp only
  generalize (sendLanes (List.finRange 64) u).2 = v at h ⊢
  exact ⟨h.hold, h.counters, h.primary, h.secondary⟩

end Sys2Proof.Machine
end

section
/-! The cycle start: the pending close, the countdowns, the events placed and the transmit (O40, O43). -/

namespace Sys2Proof.Machine

/-! ### Hold writes -/

theorem takeHoldRequest_frame (s : State) (q : HoldRequest) : takeHoldRequest s q = { s with
    holds := (takeHoldRequest s q).holds
    laneCounters := (takeHoldRequest s q).laneCounters } := by
  unfold takeHoldRequest writeHold; dsimp only
  split
  · split <;> rfl
  · rfl

/-- Taking a request reads nothing of those still waiting. -/
theorem takeHoldRequest_waiting (s : State) (q : HoldRequest) (l m : List HoldRequest) :
    { takeHoldRequest { s with holdRequests := l } q with holdRequests := m } =
      takeHoldRequest { s with holdRequests := m } q := by
  unfold takeHoldRequest writeHold; dsimp only
  have hvalid : State.holdValid { s with holdRequests := l } q = State.holdValid { s with holdRequests := m } q := rfl
  rw [hvalid]
  split
  · have hfresh : State.holdOf { s with holdRequests := l } q.lane = State.holdOf { s with holdRequests := m } q.lane := rfl
    rw [hfresh]
    split <;> rfl
  · rfl

theorem foldl_takeHoldRequest_frame (l : List HoldRequest) (s : State) : l.foldl takeHoldRequest s = { s with
    holds := (l.foldl takeHoldRequest s).holds
    laneCounters := (l.foldl takeHoldRequest s).laneCounters } := by
  induction l generalizing s with
  | nil => rfl
  | cons q l ih =>
    have hfirst := takeHoldRequest_frame s q
    have hrest := ih (takeHoldRequest s q)
    rw [List.foldl_cons]
    generalize l.foldl takeHoldRequest (takeHoldRequest s q) = v at hrest ⊢
    rw [hfirst] at hrest
    exact hrest

theorem takeHoldRequests_frame (s : State) : takeHoldRequests s = { s with
    holds := (takeHoldRequests s).holds
    laneCounters := (takeHoldRequests s).laneCounters
    holdRequests := [] } := foldl_takeHoldRequest_frame s.holdRequests { s with holdRequests := [] }

theorem takeHoldRequests_of_none {s : State} (h : s.holdRequests = []) : takeHoldRequests s = s := by
  unfold takeHoldRequests; rw [h, List.foldl_nil, ← h]

/-- To take all requests is to take the oldest and then all others (R95). -/
theorem takeHoldRequests_of_holdWrite {s w : State} (h : exec .holdWrite s = .next w) :
    takeHoldRequests s = takeHoldRequests w := by
  replace h : execHoldWrite s = .next w := h
  unfold execHoldWrite at h
  split at h
  · cases h; rfl
  · rename_i q qs hs
    cases h
    have hwaiting : (takeHoldRequest { s with holdRequests := qs } q).holdRequests = qs := by
      rw [takeHoldRequest_frame]
    unfold takeHoldRequests
    rw [hwaiting, takeHoldRequest_waiting, hs]; rfl

/-! ### The transmit of a start -/

/-- What the transmit of a cycle start may change (R92, R95). -/
theorem transmitAt_frame (order : StartOrder) (s : State) : transmitAt order s = { s with
    upstreamOut := (transmitAt order s).upstreamOut
    holds := (transmitAt order s).holds
    laneCounters := (transmitAt order s).laneCounters
    primary := (transmitAt order s).primary
    secondary := (transmitAt order s).secondary
    holdRequests := (transmitAt order s).holdRequests } := by
  unfold transmitAt
  split
  · have hwrites := takeHoldRequests_frame s
    have hsent := transmit_frame (takeHoldRequests s)
    generalize transmit (takeHoldRequests s) = v at hsent ⊢
    rw [hwrites] at hsent
    rw [hsent]
  · rw [transmit_frame]

theorem transmitAt_upstreamOut (order : StartOrder) (s : State) :
    (transmitAt order s).upstreamOut.length = 4115 ∧
      (transmitAt order s).upstreamOut.take 2 = halfBytes s.timer.cycle := by
  unfold transmitAt
  split
  · have hcycle : (takeHoldRequests s).timer = s.timer := by rw [takeHoldRequests_frame]
    rw [← hcycle]; exact transmit_upstreamOut _
  · exact transmit_upstreamOut s

/-! ### The countdowns (R53, R74, R76) -/

theorem Denial.filterMap_tick (l : List Denial) : l.filterMap Denial.tick =
    (l.filter fun d => 1 < d.remaining).map fun d => { d with remaining := d.remaining - 1 } := by
  induction l with
  | nil => rfl
  | cons d l ih =>
    by_cases h : d.remaining ≤ 1
    · simp [Denial.tick, h, ih]
    · simp [Denial.tick, h, ih, Nat.lt_of_not_le h]

/-- The state with Freeze Expired posted where the freeze ends at this start (R53). -/
def State.toldExpired (v : State) : State :=
  if v.freeze.active = true ∧ v.freeze.remaining ≤ 1 then v.post .notice .freezeExpired none none none 0 else v

/-- The registrations kept at this start (R74). -/
def State.keptRegistrations (v : State) : List Registration :=
  v.registrations.filter fun e => (v.timer.cycle - e.lastHeard).toNat < v.params.registrationAge

/-- The freeze after this start (R53). -/
def State.freezeLowered (v : State) : Freeze :=
  if v.freeze.active = true ∧ v.freeze.remaining ≤ 1 then ⟨false, 0, v.freeze.requested⟩
  else if v.freeze.active = true then { v.freeze with remaining := v.freeze.remaining - 1 } else v.freeze

theorem freezeTick_eq (v : State) : freezeTick v = { v with
    freeze := v.freezeLowered
    events := v.toldExpired.events
    lostEvents := v.toldExpired.lostEvents } := by
  unfold freezeTick State.freezeLowered State.toldExpired
  by_cases hactive : v.freeze.active = true
  · by_cases hlast : v.freeze.remaining ≤ 1
    · rw [if_pos hactive, if_pos hlast, if_pos ⟨hactive, hlast⟩, if_pos ⟨hactive, hlast⟩, State.post_frame]; rfl
    · have hmore : ¬ (v.freeze.active = true ∧ v.freeze.remaining ≤ 1) := fun h => hlast h.2
      rw [if_pos hactive, if_neg hlast, if_neg hmore, if_neg hmore, if_pos hactive]
  · have hidle : ¬ (v.freeze.active = true ∧ v.freeze.remaining ≤ 1) := fun h => hactive h.1
    rw [if_neg hactive, if_neg hidle, if_neg hidle, if_neg hactive]

theorem ageRegistrations_eq (v : State) : ageRegistrations v = { v with
    registrations := v.keptRegistrations
    fullReported := if v.keptRegistrations.length = v.registrations.length then v.fullReported
      else v.fullReported && decide (16 ≤ v.keptRegistrations.length) } := by
  have hkept : v.registrations.filter (fun x => !Registration.aged v.timer.cycle v.params.registrationAge x) =
      v.keptRegistrations :=
    List.filter_congr fun e _ => by
      rw [Registration.aged, ← decide_not]; exact decide_eq_decide.mpr Nat.not_le
  have hnone : v.keptRegistrations.length = v.registrations.length ↔
      v.registrations.any (Registration.aged v.timer.cycle v.params.registrationAge) = false := by
    rw [← hkept, List.length_filter_eq_length_iff, List.any_eq_false]; simp
  unfold ageRegistrations State.removeRegistrations
  rw [hkept]
  split
  · rename_i hany
    rw [if_neg (by rw [hnone, hany]; decide)]; rfl
  · rename_i hany
    have hlength := hnone.mpr (Bool.eq_false_iff.mpr hany)
    have hall : v.keptRegistrations = v.registrations := List.filter_sublist.eq_of_length hlength
    rw [if_pos hlength, hall]

/-- The countdowns and the events placed, field by field (R6, R53, R74, R76, R125). -/
theorem scheduleEvents_countdowns (v : State) : scheduleEvents (countdowns v) = { v with
    pendingClose := some ⟨v.timer.cycle - 1, v.timer.lastStart + v.params.gatherDelay⟩
    sendDue := Vector.replicate 24 true
    freeze := v.freezeLowered
    registrations := v.keptRegistrations
    fullReported := if v.keptRegistrations.length = v.registrations.length then v.fullReported
      else v.fullReported && decide (16 ≤ v.keptRegistrations.length)
    denials := (v.denials.filter fun d => 1 < d.remaining).map fun d => { d with remaining := d.remaining - 1 }
    events := v.toldExpired.events
    lostEvents := v.toldExpired.lostEvents } := by
  unfold countdowns countDenials scheduleEvents
  rw [ageRegistrations_eq, freezeTick_eq]; dsimp only
  rw [Denial.filterMap_tick]; rfl

/-! ### A start begins its cycle -/

theorem beginCycle_eq (n : CycleNo) (time : Nat) (s : State) :
    beginCycle n time s = { s with timer := s.timerStarted s.timer.clock n time } := by
  have hclock : clockAtStart s.params.clockSource s.timer.clock = (s.timerStarted s.timer.clock n time).clock := by
    unfold State.timerStarted; cases s.params.clockSource <;> cases s.timer.clock <;> rfl
  unfold beginCycle; rw [hclock]; rfl

/-- The close made before the number begins changes neither number nor clock (R124). -/
theorem beginCycle_makePendingClose (n : CycleNo) (time : Nat) (s : State) :
    beginCycle n time (makePendingClose s) =
      { makePendingClose s with timer := s.timerStarted s.timer.clock n time } := by
  have htimer : (makePendingClose s).timerStarted (makePendingClose s).timer.clock n time =
      s.timerStarted s.timer.clock n time := by rw [makePendingClose_frame]; rfl
  rw [beginCycle_eq, htimer]

theorem exec_cycleClose {s w : State} (h : exec .cycleClose s = .next w) : makePendingClose s = w :=
  Host.Outcome.next.inj h

theorem exec_localCycleStart {order : StartOrder} {s : State} (h : s.timer.clock ≠ .follow) :
    exec (.localCycleStart order) s = .next (cycleStart order (s.timer.cycle + 1) (s.timer.lastStart + 16) id s) := by
  change execLocalCycleStart order s = _
  unfold execLocalCycleStart
  cases hclock : s.timer.clock with
  | follow => exact absurd hclock h
  | holdover => rfl
  | localClock => rfl

theorem exec_localCycleStart_follow {order : StartOrder} {s : State} (h : s.timer.clock = .follow) :
    exec (.localCycleStart order) s = .next s := by
  change execLocalCycleStart order s = _
  unfold execLocalCycleStart; rw [h]

theorem exec_holdoverWatchExpiry {order : StartOrder} {s : State} (h : s.timer.clock = .follow) :
    exec (.holdoverWatchExpiry order) s = .next (cycleStart order (s.timer.cycle + 1)
      (max s.timer.lastStart s.timer.lastArrival + 20) postHoldover
      { s with timer := { s.timer with clock := .holdover } }) := by
  change execHoldoverWatchExpiry order s = _
  unfold execHoldoverWatchExpiry; rw [h]; rfl

/-! ### A local cycle start -/

/-- From s to w nothing has changed but what a close, a transmit and a new number may change. -/
structure State.Starting (s w : State) : Prop where
  frame : w = { s with
    timer := w.timer
    pendingClose := w.pendingClose
    upstreamOut := w.upstreamOut
    holds := w.holds
    laneCounters := w.laneCounters
    primary := w.primary
    secondary := w.secondary
    holdRequests := w.holdRequests
    ports := w.ports
    records := w.records
    loads := w.loads
    bindings := w.bindings
    roamCounters := w.roamCounters
    intakes := w.intakes
    isolationDue := w.isolationDue
    events := w.events
    lostEvents := w.lostEvents }

/-- A local cycle start has begun the next number, scheduled the close, placed the sends and taken the countdowns. -/
structure State.LocallyStarted (s t : State) : Prop where
  timer : t.timer = s.timerStarted s.timer.clock (s.timer.cycle + 1) (s.timer.lastStart + 16)
  pendingClose : t.pendingClose = some ⟨s.timer.cycle, s.timer.lastStart + 16 + s.params.gatherDelay⟩
  sendDue : ∀ p, t.sendDue.get p = true
  freeze : t.freeze = s.freezeLowered
  registrations : t.registrations = s.registrations.filter (fun e =>
    (s.timer.cycle + 1 - e.lastHeard).toNat < s.params.registrationAge)
  denials : t.denials = (s.denials.filter fun d => 1 < d.remaining).map (fun d => { d with remaining := d.remaining - 1 })
  frame : t = { s with
    timer := t.timer
    pendingClose := t.pendingClose
    sendDue := t.sendDue
    freeze := t.freeze
    registrations := t.registrations
    fullReported := t.fullReported
    denials := t.denials
    upstreamOut := t.upstreamOut
    holds := t.holds
    laneCounters := t.laneCounters
    primary := t.primary
    secondary := t.secondary
    holdRequests := t.holdRequests
    ports := t.ports
    records := t.records
    loads := t.loads
    bindings := t.bindings
    roamCounters := t.roamCounters
    intakes := t.intakes
    isolationDue := t.isolationDue
    events := t.events
    lostEvents := t.lostEvents }

/-- The countdowns and the placing of the events complete a local start. -/
theorem State.Starting.counted {s w : State} (h : s.Starting w)
    (htimer : w.timer = s.timerStarted s.timer.clock (s.timer.cycle + 1) (s.timer.lastStart + 16)) :
    s.LocallyStarted (scheduleEvents (countdowns w)) := by
  have hframe := h.frame
  have hfreeze : w.freeze = s.freeze := by rw [hframe]
  have hparams : w.params = s.params := by rw [hframe]
  have hregistrations : w.registrations = s.registrations := by rw [hframe]
  have hdenials : w.denials = s.denials := by rw [hframe]
  rw [scheduleEvents_countdowns]
  refine ⟨htimer, ?_, fun p => replicate_get true p, ?_, ?_, ?_, ?_⟩
  · dsimp only; rw [htimer, hparams]; dsimp only [State.timerStarted]; rw [BitVec.add_sub_cancel]
  · dsimp only [State.freezeLowered]; rw [hfreeze]
  · dsimp only [State.keptRegistrations]; rw [htimer, hparams, hregistrations]; rfl
  · dsimp only; rw [hdenials]
  · rw [hframe]

/-- A transmit after the start leaves what the start has done. -/
theorem State.LocallyStarted.transmitAt {s t : State} (h : s.LocallyStarted t) (order : StartOrder) :
    s.LocallyStarted (transmitAt order t) := by
  rw [transmitAt_frame]
  exact ⟨h.timer, h.pendingClose, h.sendDue, h.freeze, h.registrations, h.denials, by rw [h.frame]⟩

/-- A local start whose transmit comes before the close. -/
theorem startTransmitted_locallyStarted (order : StartOrder) (s : State) :
    s.LocallyStarted (startTransmitted order (s.timer.cycle + 1) (s.timer.lastStart + 16) s) := by
  unfold startTransmitted
  rw [beginCycle_eq]
  have hsent := transmitAt_frame order
    { s with timer := s.timerStarted s.timer.clock (s.timer.cycle + 1) (s.timer.lastStart + 16) }
  generalize transmitAt order _ = u at hsent ⊢
  have hclosed := makePendingClose_frame u
  generalize makePendingClose u = w at hclosed ⊢
  rw [hsent] at hclosed
  exact State.Starting.counted ⟨by rw [hclosed]⟩ (by rw [hclosed])

/-- A local start up to its transmit. -/
theorem startCycle_locallyStarted (s : State) :
    s.LocallyStarted (startCycle (s.timer.cycle + 1) (s.timer.lastStart + 16) s) := by
  unfold startCycle
  rw [beginCycle_makePendingClose]
  have hclosed := makePendingClose_frame s
  generalize makePendingClose s = w at hclosed ⊢
  exact State.Starting.counted ⟨by rw [hclosed]⟩ rfl

theorem startTransmitted_upstreamOut (order : StartOrder) (n : CycleNo) (time : Nat) (s : State) :
    (startTransmitted order n time s).upstreamOut = (transmitAt order (beginCycle n time s)).upstreamOut := by
  unfold startTransmitted
  rw [scheduleEvents_countdowns, makePendingClose_frame]

theorem startCycle_cycle (n : CycleNo) (time : Nat) (s : State) : (startCycle n time s).timer.cycle = n := by
  unfold startCycle; rw [scheduleEvents_countdowns]; rfl

/-- Either order of a start sends one frame with the new number (R92). -/
theorem cycleStart_upstreamOut (order : StartOrder) (n : CycleNo) (time : Nat) (s : State) :
    (cycleStart order n time id s).upstreamOut.length = 4115 ∧
      (cycleStart order n time id s).upstreamOut.take 2 = halfBytes n := by
  unfold cycleStart
  split
  · rw [id, startTransmitted_upstreamOut]; exact transmitAt_upstreamOut order (beginCycle n time s)
  · have h := transmitAt_upstreamOut order (startCycle n time s)
    rw [startCycle_cycle] at h; exact h

theorem cycleStart_locallyStarted (order : StartOrder) (s : State) :
    s.LocallyStarted (cycleStart order (s.timer.cycle + 1) (s.timer.lastStart + 16) id s) := by
  unfold cycleStart
  split
  · exact startTransmitted_locallyStarted order s
  · exact (startCycle_locallyStarted s).transmitAt order

/-- The freeze after a start, read one condition after the other. -/
theorem State.freezeLowered_eq (s : State) : s.freezeLowered =
    if s.freeze.active = true then
      if s.freeze.remaining ≤ 1 then ⟨false, 0, s.freeze.requested⟩
      else { s.freeze with remaining := s.freeze.remaining - 1 }
    else s.freeze := by
  unfold State.freezeLowered
  by_cases hactive : s.freeze.active = true <;> by_cases hlast : s.freeze.remaining ≤ 1 <;> simp [hactive, hlast]

end Sys2Proof.Machine

section
open Sys2Proof Sys2Proof.Machine

/-- Settles O43: each lane reads and leaves its own alone, so the frame is the lanes as the transmit finds them; a start
is its close, its number, its countdowns and its transmit in the order of the operand. -/
theorem upstreamFrameCarriesEveryLane : Obligations.UpstreamFrameCarriesEveryLane := by
  unfold Obligations.UpstreamFrameCarriesEveryLane
  refine ⟨fun u hcontrol => ?_, fun s w => ⟨takeHoldRequests_of_none, takeHoldRequests_of_holdWrite⟩, fun order s => ?_⟩
  · have hc : u.partition.control ≤ 2 := by omega
    have hlane := transmit_agreeAt hc
    have hbytes := transmit_frameBytes hc
    have hframe := transmit_frame u
    intro lane code flags statuses t
    have hcode : ∀ n, code n = (sendLane n u).1.status.number.val := fun n => by
      dsimp only [code, lane]; cases (sendLane n u).1.status <;> rfl
    have hstatuses : (List.finRange 16).map
        (fun k => statusByte ((List.finRange 64).map fun n => (sendLane n u).1) k.val) = statuses :=
      List.map_congr_left fun k _ => by rw [statusByte_map]; simp only [hcode]
    rw [upstreamFlags_eq, hstatuses] at hbytes
    exact ⟨hbytes, fun n => ⟨(hlane n).1, (hlane n).2.1⟩, (hlane 63).2.2.1 rfl, (hlane 62).2.2.2 rfl, hframe⟩
  · intro sent counted
    have hcounted : ∀ v, counted v (scheduleEvents (countdowns v)) := scheduleEvents_countdowns
    refine ⟨fun n time w => ⟨fun hclose => ?_, fun hclose => ?_⟩, fun hclock => exec_localCycleStart hclock,
      fun hclock => exec_holdoverWatchExpiry hclock⟩
    · obtain rfl := exec_cycleClose hclose
      have h := hcounted (beginCycle n time (makePendingClose s))
      rw [beginCycle_makePendingClose] at h
      unfold startCycle; rw [beginCycle_makePendingClose]; exact h
    · replace hclose : exec .cycleClose (transmitAt order { s with timer := s.timerStarted s.timer.clock n time }) =
        .next w := hclose
      unfold startTransmitted; rw [beginCycle_eq]
      generalize transmitAt order { s with timer := s.timerStarted s.timer.clock n time } = v at hclose ⊢
      rw [exec_cycleClose hclose]; exact hcounted w

/-- Settles O40: whichever order the operand gives, what the close and the transmit change the countdowns do not read. -/
theorem localCycleStartBeginsTheNextCycle : Obligations.LocalCycleStartBeginsTheNextCycle := by
  unfold Obligations.LocalCycleStartBeginsTheNextCycle
  refine fun order s => ⟨exec_localCycleStart_follow, fun hclock => ⟨_, exec_localCycleStart hclock, ?_⟩⟩
  obtain ⟨htimer, hclose, hsends, hfreeze, hregistrations, hdenials, hframe⟩ := cycleStart_locallyStarted order s
  obtain ⟨hlength, hnumber⟩ := cycleStart_upstreamOut order (s.timer.cycle + 1) (s.timer.lastStart + 16) s
  generalize cycleStart order (s.timer.cycle + 1) (s.timer.lastStart + 16) id s = t at *
  exact ⟨htimer, hclose, hsends, hfreeze.trans s.freezeLowered_eq, hregistrations, hdenials, hlength, hnumber, hframe⟩

end
end

section
/-! Stage 2 of a close: what a sample is, how a quality moves, and the order of the list and of the offers (O47). -/

namespace Sys2Proof.Machine

/-! ### Samples (R29, R30) -/

theorem sampleOf_none {penalty : Nat} {ev : List Evidence} {a : PortId} (h : ∀ e ∈ ev, e.port ≠ a) :
    sampleOf penalty ev a = none := by
  have hnone : ev.filter (·.port = a) = [] := List.filter_eq_nil_iff.mpr fun e he => by simpa using h e he
  rw [sampleOf, hnone]; rfl

/-- The sample is the value of a burst that no burst of the antenna exceeds. -/
theorem sampleOf_highest {penalty : Nat} {ev : List Evidence} {e : Evidence} (he : e ∈ ev)
    (h : ∀ y ∈ ev, y.port = e.port → measured penalty y.burst ≤ measured penalty e.burst) :
    sampleOf penalty ev e.port = some (measured penalty e.burst) := by
  refine List.max?_eq_some_iff.mpr ⟨List.mem_map_of_mem (by simp [he]), fun n hn => ?_⟩
  obtain ⟨y, hy, rfl⟩ := List.mem_map.mp hn
  obtain ⟨hmem, hport⟩ := List.mem_filter.mp hy
  exact h y hmem (by simpa using hport)

/-! ### Smoothing (R32 to R34) -/

/-- The part of the way toward a goal never leads past it, so a quality stays at or above 0 (R32). -/
theorem smooth_eq (k q goal : Nat) : (smooth k q goal : Int) = (q : Int) + Int.tdiv ((goal : Int) - q) (2 ^ k) := by
  refine Int.toNat_of_nonneg ?_
  rcases Nat.le_total q goal with h | h
  · have := Int.tdiv_nonneg (a := (goal : Int) - q) (b := 2 ^ k) (by omega) (by positivity)
    omega
  · have hback : Int.tdiv ((goal : Int) - q) (2 ^ k) = -Int.tdiv ((q : Int) - goal) (2 ^ k) := by
      rw [← Int.neg_tdiv, neg_sub]
    have : Int.tdiv ((q : Int) - goal) (2 ^ k) ≤ (q : Int) - goal := Int.tdiv_le_self _ (by omega)
    omega

/-- The update of an entry, by its antenna's sample (R32, R33). -/
theorem updateEntry_eq (k : Nat) (sample : PortId → Option Nat) (c : Candidate) : updateEntry k sample c =
    { c with
      q := smooth k c.q (16 * (sample c.antenna).getD 0)
      absent := if (sample c.antenna).isSome then 0 else min (c.absent + 1) 255 } := by
  unfold updateEntry
  cases sample c.antenna <;> rfl

/-! ### The order of the list (R3, R35, R37) -/

/-- An entry is inserted behind all entries of its quality or more. -/
theorem insertCand_eq (c : Candidate) (l : List Candidate) : insertCand c l =
    l.takeWhile (fun y => decide (c.q ≤ y.q)) ++ c :: l.dropWhile fun y => decide (c.q ≤ y.q) := by
  induction l with
  | nil => rfl
  | cons y l ih =>
    by_cases h : c.q ≤ y.q
    · simp [insertCand, h, Nat.not_lt.mpr h, ih]
    · simp [insertCand, h, Nat.lt_of_not_le h]

/-- Among the entries of one quality an inserted entry is the last. -/
theorem insertCand_filter {l : List Candidate} (h : l.Pairwise fun x y => y.q ≤ x.q) (c : Candidate) (q : Nat) :
    (insertCand c l).filter (fun y => y.q = q) = l.filter (fun y => y.q = q) ++ [c].filter fun y => y.q = q := by
  induction l with
  | nil => rfl
  | cons x l ih =>
    obtain ⟨hx, hl⟩ := List.pairwise_cons.mp h
    simp only [insertCand]
    split
    · rename_i hlt
      by_cases hq : c.q = q
      · have hnone : (x :: l).filter (fun y => y.q = q) = [] := List.filter_eq_nil_iff.mpr fun y hy => by
          have : y.q ≤ x.q := by
            rcases List.mem_cons.mp hy with rfl | hy
            exacts [Nat.le_refl _, hx y hy]
          simp only [decide_eq_true_eq]; omega
        rw [List.filter_cons, hnone]; simp [hq]
      · simp [List.filter_cons, hq]
    · rw [List.filter_cons, List.filter_cons, ih hl]; split <;> rfl

/-- The re-sort keeps the order of the entries of one quality (R35). -/
theorem resort_filter (cs : List Candidate) (q : Nat) :
    (resort cs).filter (fun y => y.q = q) = cs.filter fun y => y.q = q := by
  induction cs using List.reverseRecOn with
  | nil => rfl
  | append_singleton l c ih =>
    have hlast : resort (l ++ [c]) = insertCand c (resort l) := List.foldl_concat ..
    rw [hlast, insertCand_filter (resort_ordered l), ih, List.filter_append]

/-! ### Eviction (R38) -/

/-- The choice of the victim, one entry on. -/
def victimStep (pinned : PortId → Bool) (best : Option Candidate) (c : Candidate) : Option Candidate :=
  if pinned c.antenna then best
  else
    match best with
    | none => some c
    | some b => if c.q ≤ b.q then some c else some b

theorem victim_append_cons (pinned : PortId → Bool) (before : List Candidate) (v : Candidate) (after : List Candidate) :
    victim pinned (before ++ v :: after) = after.foldl (victimStep pinned) (victimStep pinned (victim pinned before) v) :=
  List.foldl_append ..

/-- The unpinned entry of lowest quality, the latest among equals, is the victim. -/
theorem victim_of_lowest {pinned : PortId → Bool} {before after : List Candidate} {v : Candidate}
    (hv : pinned v.antenna = false) (hb : ∀ c ∈ before, pinned c.antenna = true ∨ v.q ≤ c.q)
    (ha : ∀ c ∈ after, pinned c.antenna = true ∨ v.q < c.q) : victim pinned (before ++ v :: after) = some v := by
  have hchosen : victimStep pinned (victim pinned before) v = some v := by
    cases hbest : victim pinned before with
    | none => simp [victimStep, hv]
    | some b =>
      obtain ⟨hmem, hp⟩ := victim_mem hbest
      have : v.q ≤ b.q := (hb b hmem).resolve_left (by simp [hp])
      simp [victimStep, hv, this]
  rw [victim_append_cons, hchosen]
  clear hb hchosen
  induction after with
  | nil => rfl
  | cons c after ih =>
    have hkeep : victimStep pinned (some v) c = some v := by
      rcases ha c (.head _) with hp | hq
      · simp [victimStep, hp]
      · simp [victimStep, Nat.not_le.mpr hq]
    rw [List.foldl_cons, hkeep]
    exact ih fun c hc => ha c (.tail _ hc)

theorem victim_of_pinned {pinned : PortId → Bool} {cs : List Candidate} (h : ∀ c ∈ cs, pinned c.antenna = true) :
    victim pinned cs = none := by
  cases hv : victim pinned cs with
  | none => rfl
  | some v =>
    obtain ⟨hmem, hp⟩ := victim_mem hv
    rw [h v hmem] at hp; cases hp

/-- Taking out an entry of a list with one entry per antenna leaves the others. -/
theorem removeCand_append_cons {before after : List Candidate} {v : Candidate}
    (h : ((before ++ v :: after).map (·.antenna)).Nodup) :
    removeCand v.antenna (before ++ v :: after) = before ++ after := by
  rw [List.map_append, List.map_cons, List.nodup_middle, List.nodup_cons, ← List.map_append] at h
  have hothers : ∀ c ∈ before ++ after, c.antenna ≠ v.antenna := fun c hc e => h.1 (e ▸ List.mem_map_of_mem hc)
  have hall : (before ++ after).filter (·.antenna ≠ v.antenna) = before ++ after :=
    List.filter_eq_self.mpr fun c hc => by simpa using hothers c hc
  rw [← hall]
  simp [removeCand]

/-! ### Offers (R31, R37, R38) -/

theorem offer_of_room {l : List Candidate} (h : l.length < 4) (pinned : PortId → Bool) (a : PortId) (x : Nat) :
    offer pinned a x l = insertCand ⟨a, 16 * x, 0, 0⟩ l := if_pos h

theorem offer_of_full {l : List Candidate} (h : 4 ≤ l.length) {pinned : PortId → Bool} {v : Candidate}
    (hv : victim pinned l = some v) (a : PortId) (x : Nat) : offer pinned a x l =
      if v.q < 16 * x then insertCand ⟨a, 16 * x, 0, 0⟩ (removeCand v.antenna l) else l := by
  have hfull : ¬l.length < Config.maxCandidates := Nat.not_lt.mpr h
  rw [offer, if_neg hfull]; simp only [hv]

theorem offer_of_pinned {l : List Candidate} (h : 4 ≤ l.length) {pinned : PortId → Bool}
    (hp : ∀ c ∈ l, pinned c.antenna = true) (a : PortId) (x : Nat) : offer pinned a x l = l := by
  have hfull : ¬l.length < Config.maxCandidates := Nat.not_lt.mpr h
  rw [offer, if_neg hfull]; simp only [victim_of_pinned hp]

/-- One offer comes before another: a higher sample, or an equal one of a lower antenna (R31). -/
def OfferBefore (x y : PortId × Nat) : Prop := y.2 < x.2 ∨ x.2 = y.2 ∧ x.1 < y.1

/-- An offer of a higher antenna finds its place behind the offers of an equal or higher sample. -/
theorem insertOffer_ordered {o : PortId × Nat} {l : List (PortId × Nat)} (h : l.Pairwise OfferBefore)
    (ho : ∀ x ∈ l, x.1 < o.1) : (insertOffer o l).Pairwise OfferBefore := by
  induction l with
  | nil => simp [insertOffer]
  | cons x l ih =>
    obtain ⟨hx, hl⟩ := List.pairwise_cons.mp h
    simp only [insertOffer]
    split
    · rename_i hlt
      refine List.pairwise_cons.mpr ⟨fun y hy => .inl ?_, h⟩
      rcases List.mem_cons.mp hy with rfl | hy
      · exact hlt
      · have := hx y hy; unfold OfferBefore at this; omega
    · rename_i hle
      refine List.pairwise_cons.mpr ⟨fun y hy => ?_, ih hl fun y hy => ho y (.tail _ hy)⟩
      rcases List.mem_cons.mp ((insertOffer_perm o l).mem_iff.mp hy) with rfl | hy
      · rcases (Nat.not_lt.mp hle).eq_or_lt with heq | hlt
        exacts [.inr ⟨heq.symm, ho x (.head _)⟩, .inl hlt]
      · exact hx y hy

/-- Offers taken in ascending antenna come out highest sample first, lowest antenna first among equals. -/
theorem insertOffers_ordered {os : List (PortId × Nat)} (h : os.Pairwise fun x y => x.1 < y.1) :
    (os.foldl (fun acc o => insertOffer o acc) []).Pairwise OfferBefore := by
  induction os using List.reverseRecOn with
  | nil => exact .nil
  | append_singleton l o ih =>
    obtain ⟨hl, -, hlast⟩ := List.pairwise_append.mp h
    rw [List.foldl_concat]
    refine insertOffer_ordered (ih hl) fun x hx => hlast x ?_ o (.head _)
    simpa using (insertOffers_perm l []).mem_iff.mp hx

theorem offers_ordered (sample : PortId → Option Nat) (cs : List Candidate) :
    (offers sample cs).Pairwise OfferBefore := by
  refine insertOffers_ordered (os := (List.finRange 24).filterMap (offerOf sample cs))
    (List.Pairwise.filterMap _ (fun a b hab o ho o' ho' => ?_) (List.pairwise_lt_finRange 24))
  rwa [(offerOf_eq_some ho).1, (offerOf_eq_some ho').1]

/-- Offered are the antennas with a sample and no entry, each with its sample (R31). -/
theorem mem_offers_iff {sample : PortId → Option Nat} {cs : List Candidate} {a : PortId} {x : Nat} :
    (a, x) ∈ offers sample cs ↔ sample a = some x ∧ ∀ c ∈ cs, c.antenna ≠ a := by
  refine ⟨mem_offers, fun ⟨hx, hnew⟩ => ?_⟩
  refine (offers_perm sample cs).mem_iff.mpr (List.mem_filterMap.mpr ⟨a, List.mem_finRange a, ?_⟩)
  simp [offerOf, entryFor_none.mpr hnew, hx]

end Sys2Proof.Machine

section
open Sys2Proof Sys2Proof.Machine

/-- Settles O47: steps 1 to 3 of R31 as equations on the list, step 4 by the choice of the victim. -/
theorem measurementUpdatesTheList : Obligations.MeasurementUpdatesTheList := by
  unfold Obligations.MeasurementUpdatesTheList
  refine ⟨fun k sample c hq hs => ?_, fun penalty ev a => ⟨sampleOf_none, ?_⟩,
    fun pinned a x l => ⟨fun hroom => ?_, fun hfull hp => offer_of_pinned hfull hp a x, ?_⟩, fun r ev s => ?_⟩
  · have hbound := (updateEntry_bounds (k := k) hs hq).2.1
    intro goal c'
    have hc' : c' = _ := updateEntry_eq k sample c
    refine ⟨?_, hbound, by rw [hc'], by rw [hc'], by rw [hc']⟩
    rw [hc']
    simpa [goal] using smooth_eq k c.q (16 * (sample c.antenna).getD 0)
  · rintro e he rfl h
    exact sampleOf_highest he h
  · rw [offer_of_room hroom, insertCand_eq]
  · rintro hfull hnodup before v after rfl hv hb ha
    rw [offer_of_full hfull (victim_of_lowest hv hb ha), removeCand_append_cons hnodup, insertCand_eq]
  · intro rd sample fresh
    have hsorted := resort_perm (rd.cands.map (updateEntry s.params.smoothingShift sample))
    refine ⟨dropStale rd.pinned s.params.candidateStale
        (resort (rd.cands.map (updateEntry s.params.smoothingShift sample))), offers sample _, hsorted.filter _,
      (resort_ordered _).filter _, fun q => ?_, fun a x => mem_offers_iff, offers_ordered sample _, rfl⟩
    rw [dropStale, List.filter_comm, resort_filter, List.filter_comm]

end
end

section
/-! Force Handoff (O34). -/

namespace Sys2Proof.Machine

/-! ### The entry of a Forced bridge (R39) -/

theorem insertForced_of_mem {cs : List Candidate} {t : PortId} (h : ∃ c ∈ cs, c.antenna = t) (pinned : PortId → Bool) :
    insertForced pinned t cs = cs := by
  obtain ⟨c, hc, ht⟩ := h
  cases he : entryFor cs t with
  | none => exact absurd ht (entryFor_none.mp he c hc)
  | some d => simp only [insertForced, he]

theorem insertForced_of_room {cs : List Candidate} {t : PortId} (hnew : ∀ c ∈ cs, c.antenna ≠ t)
    (hroom : cs.length < 4) (pinned : PortId → Bool) : insertForced pinned t cs = cs ++ [⟨t, 0, 0, 0⟩] := by
  simp only [insertForced, entryFor_none.mpr hnew]; exact if_pos hroom

/-- In a full list the new entry takes the place of the victim. -/
theorem insertForced_of_full {cs : List Candidate} {t : PortId} (hnew : ∀ c ∈ cs, c.antenna ≠ t)
    (hfull : 4 ≤ cs.length) {pinned : PortId → Bool} {v : Candidate} (hv : victim pinned cs = some v) :
    insertForced pinned t cs = removeCand v.antenna cs ++ [⟨t, 0, 0, 0⟩] := by
  have hfull' : ¬cs.length < Config.maxCandidates := Nat.not_lt.mpr hfull
  simp only [insertForced, entryFor_none.mpr hnew, if_neg hfull', hv]

/-- An ACTIVE record pins its serving antenna alone (R1, R4). -/
theorem Record.pinned_of_active {rd : Record} (h : rd.shapeOk) (hst : rd.state = .active) (a : PortId) :
    rd.pinned a = true ↔ rd.serving = some a := by
  obtain ⟨-, -, -, htarget, -, -⟩ := (Record.shapeOk_active hst).mp h
  simp [htarget]

/-! ### The checks of Force Handoff (R67) -/

theorem ownForceHandoff_ok {s : State} {k a b c antenna : Byte} {r : RecordIx} (h : s.selected k a b c = .ok r) :
    ownForceHandoff [k, a, b, c, antenna] s = forceRecord r antenna s := by
  simp only [State.selected] at h
  simp only [ownForceHandoff]
  cases hsel : Selector.ofBytes k a b c <;> simp_all

theorem ownForceHandoff_of_selector {s : State} {r : RecordIx} {sel : List Byte} (h : sel = [0, 0, 0, byteOf r.val] ∨
    ∃ x, canonical x = true ∧ s.findRecord x = some r ∧ sel = 1 :: idBytes x) (antenna : Byte) :
    ownForceHandoff (sel ++ [antenna]) s = forceRecord r antenna s := by
  obtain ⟨k, a, b, c, rfl, hr⟩ := State.selected_of h
  exact ownForceHandoff_ok hr

theorem forceRecord_free {s : State} {r : RecordIx} (h : (s.record r).state = .free) (antenna : Byte) :
    forceRecord r antenna s = refuse .notFound s := if_pos h

theorem forceRecord_busy {s : State} {r : RecordIx} (hfree : (s.record r).state ≠ .free)
    (h : (s.record r).state ≠ .active) (antenna : Byte) : forceRecord r antenna s = refuse .busy s := by
  simp only [forceRecord, if_neg hfree, if_pos h]

theorem forceRecord_noAntenna {s : State} {r : RecordIx} (hst : (s.record r).state = .active) {antenna : Byte}
    (h : 23 < antenna.toNat) : forceRecord r antenna s = refuse .badArgument s := by
  have hnone : portOf antenna = none := dif_neg (by omega)
  simp [forceRecord, hst, hnone]

/-- Behind the checks of the record and the antenna's number come those of the antenna, in their order. -/
theorem forceRecord_antenna {s : State} {r : RecordIx} (hst : (s.record r).state = .active) (t : PortId) :
    forceRecord r (byteOf t.val) s =
      if !s.inService t then refuse .notEligible s
      else if 12 ≤ s.load t then refuse .full s
      else if (s.record r).serving = some t then answer (forceReply r (s.record r) 0) s
      else (forceReply r (s.record r) (if (beginBridge r t .forced s).1 then 1 else 2),
        (beginBridge r t .forced s).2) := by
  simp only [forceRecord, hst, portOf_byteOf, Config.maxLoad]
  simp

theorem State.inService_iff (s : State) (t : PortId) : s.inService t = true ↔ (s.port t).state = .active ∧
    (s.port t).flags.rfOverload = false ∧ (s.port t).flags.referenceLost = false := by
  simp [State.inService]

/-! ### The Forced bridge (R55, R56) -/

/-- A Forced bridge whose Acquire is refused leaves its entry behind, and no trace of the attempt but that (R56). -/
theorem beginBridge_forced_refused {s : State} {r : RecordIx} {t : PortId} {x : HeadsetId}
    (hshape : (s.record r).shapeOk) (hx : (s.record r).id = some x) (hst : (s.record r).state = .active)
    (ht : (s.port t).state = .active)
    (ho : (takeOrder (s.port t).orders .acquire (s.record r).headset).1 = .refused) :
    beginBridge r t .forced s = (false, ((s.setRecord r { s.record r with
      timer := 0
      dwellTarget := none
      dwellCount := 0
      deferred := false
      cands := insertForced (s.record r).pinned t (s.record r).cands }).bumpRoam .handoffsFailed).post
        .notice .handoffFailed (some t) (some x) (s.record r).lane 1) := by
  obtain ⟨-, -, -, htarget, haccepted, hkind⟩ := (Record.shapeOk_active hst).mp hshape
  have hidle : ({ (s.record r).endBridge with cands := (s.record r).bridgeCands .forced t } : Record) =
      { s.record r with
        timer := 0, dwellTarget := none, dwellCount := 0, deferred := false
        cands := insertForced (s.record r).pinned t (s.record r).cands } := by
    simp [Record.endBridge, Record.bridgeCands, hst, htarget, haccepted, hkind]
  rw [beginBridge_refused ht ho, hidle, ← hx]; rfl

end Sys2Proof.Machine

section
open Sys2Proof Sys2Proof.Machine

/-- Settles O34: the checks one after the other; a bridge begun is the order queue's outcome. -/
theorem forceHandoffBeginsABridge : Obligations.ForceHandoffBeginsABridge := by
  unfold Obligations.ForceHandoffBeginsABridge
  intro o s r antenna ho hq
  have hserves := State.serves_fullOnly ho hq
  refine ⟨fun hfree => ?_, fun x hs hx sel hsel => ?_⟩
  · exact congrArg Host.Outcome.next (serve_refused (why := .notFound) hserves
      ((ownForceHandoff_of_selector (.inl rfl) antenna).trans (forceRecord_free hfree antenna)))
  have hown := ownForceHandoff_of_selector (s := s) (r := r)
    (hsel.imp_right fun h => ⟨x, hs.canonical r x hx, hs.findRecord hx, h⟩)
  have hrefused : ∀ {antenna : Byte} {why : Reason}, forceRecord r antenna s = refuse why s →
      exec (.forceHandoff o (sel ++ [antenna])) s = .next (s.refused o why.code) := fun h =>
    congrArg Host.Outcome.next (serve_refused hserves ((hown _).trans h))
  have hdone : ∀ {antenna : Byte} {outcome : Byte} {u : State},
      forceRecord r antenna s = (forceReply r (s.record r) outcome, u) →
      exec (.forceHandoff o (sel ++ [antenna])) s = .next (u.done o ([byteOf r.val] ++ idBytes x ++
        [portByte? (s.record r).serving, outcome])) := fun h =>
    congrArg Host.Outcome.next (serve_done hserves ((hown _).trans (by rw [h, forceReply, hx]; rfl)))
  intro rd run reply
  refine ⟨fun hst => hrefused (forceRecord_busy (hs.inUse hx) hst antenna), fun hst =>
    ⟨fun h => hrefused (forceRecord_noAntenna hst h), ?_⟩⟩
  rintro t rfl eligible asked entered
  have hchecks := forceRecord_antenna hst t
  have heligible := s.inService_iff t
  refine ⟨fun he => hrefused (why := .notEligible) ?_, fun he hl => hrefused (why := .full) ?_,
    fun he hl hsv => hdone (outcome := 0) ?_, fun he hl hsv => ?_⟩
  · rw [hchecks, if_pos (by simpa using mt heligible.mp he)]
  · rw [hchecks, if_neg (by simpa using heligible.mpr he), if_pos hl]
  · rw [hchecks, if_neg (by simpa using heligible.mpr he), if_neg (by omega), if_pos hsv]; rfl
  · rw [if_neg (by simpa using heligible.mpr he), if_neg (by omega), if_neg hsv] at hchecks
    have hasked : asked = takeOrder (s.port t).orders .acquire (s.record r).headset := by
      simp only [asked, Record.headset, hx, Option.getD_some]
    refine ⟨(beginBridge r t .forced s).2, insertForced rd.pinned t rd.cands,
      ⟨fun h => insertForced_of_mem h _, fun hnew => ⟨fun hroom => insertForced_of_room hnew hroom _, ?_⟩⟩,
      fun htaken => ?_, fun hfull => ?_⟩
    · intro hfull hnodup before v after hcands hv hb ha
      have hpinned := Record.pinned_of_active (hs.shape r) hst
      have hvictim : victim rd.pinned rd.cands = some v := by
        rw [hcands]
        exact victim_of_lowest (Bool.eq_false_iff.mpr (mt (hpinned _).mp hv))
          (fun c hc => (hb c hc).imp_left (hpinned _).mpr) fun c hc => (ha c hc).imp_left (hpinned _).mpr
      rw [insertForced_of_full hnew hfull hvictim, hcands, removeCand_append_cons (hcands ▸ hnodup)]
    · rw [hasked] at htaken ⊢
      rw [beginBridge_taken he.1 htaken] at hchecks ⊢
      refine ⟨hdone hchecks, rfl, fun q => ?_, fun q => ?_, fun q => ?_⟩
      · simp [State.setRecord_record, Record.bridgeBegun, Record.bridgeCands, rd]
      · by_cases hq : q = t <;> simp [State.raiseLoad_load, hq]
      · simp [State.setPort_port]
    · rw [hasked] at hfull
      rw [beginBridge_forced_refused (hs.shape r) hx hst he.1 hfull] at hchecks ⊢
      exact ⟨hdone hchecks, rfl⟩

end
end

section
/-! UPLINK_FRAME: placement, acceptance and recovery (O58). -/

namespace Sys2Proof.Machine

/-! ### Changes of one port -/

/-- Of two changes of one port the later acts on what the earlier has left. -/
theorem State.modPort_modPort (s : State) (p : PortId) (f g : Port → Port) :
    (s.modPort p f).modPort p g = s.modPort p fun q => g (f q) := by
  simp [State.modPort, State.setPort, State.port]

theorem State.modPort_of_fixed {s : State} {p : PortId} {f : Port → Port} (h : f (s.port p) = s.port p) :
    s.modPort p f = s := by
  rw [State.modPort, h, State.setPort_self]

/-- A posting and a change of a port do not meet. -/
theorem State.post_modPort (s : State) (p : PortId) (f : Port → Port) (c : EventClass) (k : EventKind)
    (a : Option PortId) (i : Option HeadsetId) (n : Option LaneId) (d : Byte) :
    (s.modPort p f).post c k a i n d = (s.post c k a i n d).modPort p f := by
  have hsame : (s.modPort p f).params.infoEvents = s.params.infoEvents := rfl
  unfold State.post
  by_cases h : c = .info ∧ s.params.infoEvents = false
  · rw [if_pos (hsame ▸ h), if_pos h]
  · rw [if_neg (hsame ▸ h), if_neg h]; rfl

/-! ### Counting (R169) -/

theorem satInc_iterate (m n : Nat) (h : n ≤ 65535) : satInc^[m] n = min 65535 (n + m) := by
  induction m with
  | zero => simp [h]
  | succ m ih => rw [Function.iterate_succ_apply', ih, satInc_min _ (by omega)]; omega

/-- A port with one of its counters incremented m times. -/
def Port.bumpedBy (q : Port) (k : PortCounter) (m : Nat) : Port :=
  { q with counters := vset q.counters k.index (satInc^[m] (q.counters.get k.index)) }

theorem bumpTimes_eq (p : PortId) (k : PortCounter) (m : Nat) (s : State) :
    bumpTimes p k m s = s.modPort p (·.bumpedBy k m) := by
  induction m generalizing s with
  | zero => exact (State.modPort_of_fixed (by simp [Port.bumpedBy])).symm
  | succ m ih =>
    rw [bumpTimes, ih, State.bumpPort, State.modPort_modPort]
    congr 1; funext q
    simp [Port.bumpedBy, Port.bump]

theorem Port.bumpedBy_get {q : Port} {j : Fin 7} (h : q.counters.get j ≤ 65535) (k : PortCounter) (m : Nat) :
    (q.bumpedBy k m).counters.get j = min 65535 (q.counters.get j + if j = k.index then m else 0) := by
  simp only [Port.bumpedBy, vset_get]
  split
  · rename_i hj; subst hj; exact satInc_iterate m _ h
  · omega

/-! ### Acceptance (R112 to R114) -/

/-- The state with Port Condition posted where a frame's flags differ from the port's (R113). -/
def State.notedFlags (s : State) (p : PortId) (f : ConditionFlags) : State :=
  if (s.port p).flags = f then s else s.post .warning .portCondition (some p) none none f.byte

theorem State.notedFlags_frame (s : State) (p : PortId) (f : ConditionFlags) : s.notedFlags p f =
    { s with events := (s.notedFlags p f).events, lostEvents := (s.notedFlags p f).lostEvents } := by
  unfold State.notedFlags; split
  · rfl
  · exact s.post_frame ..

@[simp] theorem State.notedFlags_port (s : State) (p : PortId) (f : ConditionFlags) (a : PortId) :
    (s.notedFlags p f).port a = s.port a := by rw [s.notedFlags_frame]; rfl

@[simp] theorem State.notedFlags_tables (s : State) (p : PortId) (f : ConditionFlags) :
    (s.notedFlags p f).tables = s.tables := by rw [s.notedFlags_frame]

theorem State.notedFlags_events (s : State) (p : PortId) (f : ConditionFlags) : (s.notedFlags p f).events =
    if (s.port p).flags = f then s.events
    else (s.post .warning .portCondition (some p) none none f.byte).events := apply_ite State.events ..

theorem State.notedFlags_lostEvents (s : State) (p : PortId) (f : ConditionFlags) : (s.notedFlags p f).lostEvents =
    if (s.port p).flags = f then s.lostEvents
    else (s.post .warning .portCondition (some p) none none f.byte).lostEvents := apply_ite State.lostEvents ..

theorem latchFlags_eq (p : PortId) (f : ConditionFlags) (s : State) :
    latchFlags p f s = (s.notedFlags p f).modPort p fun q => { q with flags := f } := by
  unfold latchFlags State.notedFlags
  split
  · rename_i h; exact (State.modPort_of_fixed (by rw [← h])).symm
  · exact s.post_modPort ..

/-- A port with a frame in the slot of a placement. -/
def Port.holding (q : Port) (w : Placement) (f : HeldFrame) : Port :=
  match w with
  | .gathering => { q with gatherSlot := some f }
  | .early => { q with earlySlot := some f }
  | .late => q
  | .misaligned => q

theorem holdFrame_eq (p : PortId) (w : Placement) (f : HeldFrame) (s : State) :
    holdFrame p w f s = s.modPort p (·.holding w f) := by
  cases w with
  | gathering => rfl
  | early => rfl
  | late => exact (State.modPort_of_fixed rfl).symm
  | misaligned => exact (State.modPort_of_fixed rfl).symm

/-- The levels of a frame's bursts depend on the tables and on the port's class alone (R27). -/
theorem heldBursts_congr {s t : State} {p : PortId} (ht : t.tables = s.tables) (hp : (t.port p).cls = (s.port p).cls)
    (kept : List UplinkRecord) : heldBursts t p kept = heldBursts s p kept := by
  simp only [heldBursts, State.translate, ht, hp]

/-- A port after a frame with these records is held at it: flags latched, records with bad IDs and damaged bursts
counted, the frame in its slot. -/
def Port.accepted (q : Port) (w : Placement) (f : Uplink) (bursts : List Burst) : Port :=
  let kept := f.records.filter fun x => canonical x.id
  (((({ q with flags := f.flags } : Port).bumpedBy .idErrors (f.records.length - kept.length)).bumpedBy
    .damagedBursts (kept.filter (·.countsDamaged)).length).holding w ⟨f.cycle, bursts⟩)

/-- The state in which a frame's Acquire Results are delivered. -/
def State.holdingFrame (s : State) (p : PortId) (w : Placement) (f : Uplink) : State :=
  (s.notedFlags p f.flags).modPort p fun q =>
    q.accepted w f (heldBursts s p (f.records.filter fun x => canonical x.id))

theorem acceptFrame_eq (p : PortId) (w : Placement) (f : Uplink) (s : State) : acceptFrame p w f s =
    deliverResults p (resultsOf (f.records.filter fun x => canonical x.id)) (s.holdingFrame p w f) := by
  simp only [acceptFrame, latchFlags_eq, bumpTimes_eq, holdFrame_eq, State.modPort_modPort]
  rw [heldBursts_congr (s := s) (by simp) (by simp [State.modPort_port, Port.bumpedBy])]
  rfl

theorem State.holdingFrame_port (s : State) (p : PortId) (w : Placement) (f : Uplink) (a : PortId) :
    (s.holdingFrame p w f).port a = if a = p then
      (s.port p).accepted w f (heldBursts s p (f.records.filter fun x => canonical x.id)) else s.port a := by
  simp [State.holdingFrame, State.modPort_port]

theorem State.holdingFrame_frame (s : State) (p : PortId) (w : Placement) (f : Uplink) : s.holdingFrame p w f =
    { s with
      ports := (s.holdingFrame p w f).ports
      events := (s.holdingFrame p w f).events
      lostEvents := (s.holdingFrame p w f).lostEvents } := by
  unfold State.holdingFrame; rw [s.notedFlags_frame]; rfl

theorem Port.accepted_state (q : Port) (w : Placement) (f : Uplink) (bursts : List Burst) :
    (q.accepted w f bursts).state = q.state := by cases w <;> rfl

theorem Port.holding_counters (q : Port) (w : Placement) (f : HeldFrame) : (q.holding w f).counters = q.counters := by
  cases w <;> rfl

/-- Acceptance counts the records with bad IDs and the damaged bursts among the others, and nothing else (R112). -/
theorem Port.accepted_counters {q : Port} (w : Placement) (f : Uplink) (bursts : List Burst) {j : Fin 7}
    (h : q.counters.get j ≤ 65535) :
    let kept := f.records.filter fun x => canonical x.id
    (q.accepted w f bursts).counters.get j = min 65535 (q.counters.get j +
      if j = PortCounter.idErrors.index then f.records.length - kept.length
      else if j = PortCounter.damagedBursts.index then (kept.filter (·.countsDamaged)).length else 0) := by
  intro kept
  have hne : PortCounter.idErrors.index ≠ PortCounter.damagedBursts.index := by decide
  rw [Port.accepted, Port.holding_counters]
  have hfirst := Port.bumpedBy_get (q := { q with flags := f.flags }) h .idErrors (f.records.length - kept.length)
  rw [Port.bumpedBy_get (by rw [hfirst]; omega), hfirst]
  by_cases hid : j = PortCounter.idErrors.index
  · simp [hid, hne, kept]
  · simp [hid, h, kept]

theorem countsDamaged_eq : UplinkRecord.countsDamaged = fun x => match x with
    | .burst _ _ _ .register => false
    | .burst _ _ d _ => d
    | .result _ _ => false := by
  funext x
  rcases x with ⟨_, _, _, _ | _ | _⟩ | _ <;> rfl

/-! ### Placement (R110, R111) -/

/-- The placement by the distance of a frame's number from the Gathering cycle. -/
theorem placement_eq (n g : CycleNo) : placement n g =
    if (n - g).toNat = 0 then .gathering
    else if (n - g).toNat = 1 then .early
    else if 65528 ≤ (n - g).toNat then .late else .misaligned := by
  have h0 : n - g = 0 ↔ (n - g).toNat = 0 := BitVec.toNat_inj.symm
  have h1 : n - g = 1 ↔ (n - g).toNat = 1 := BitVec.toNat_inj.symm
  simp only [placement, h0, h1]

/-- The slot of a frame in step: Gathering or Early. -/
def stepSlot (n g : CycleNo) : Placement := if (n - g).toNat = 0 then .gathering else .early

theorem placement_inStep {n g : CycleNo} (h : (n - g).toNat ≤ 1) : placement n g = stepSlot n g := by
  rw [placement_eq, stepSlot]; split
  · rfl
  · exact if_pos (by omega)

theorem placement_outOfStep {n g : CycleNo} (h : 1 < (n - g).toNat) :
    placement n g = if 65528 ≤ (n - g).toNat then .late else .misaligned := by
  rw [placement_eq, if_neg (by omega), if_neg (by omega)]

theorem stepSlot_cases (n g : CycleNo) : stepSlot n g = .gathering ∨ stepSlot n g = .early := by
  unfold stepSlot; split <;> simp

theorem placeFrame_late {p : PortId} {f : Uplink} {s : State}
    (h : 65528 ≤ (f.cycle - (s.port p).gathering).toNat) : placeFrame p f s = s.bumpPort p .late := by
  simp only [placeFrame, placement_outOfStep (show 1 < (f.cycle - (s.port p).gathering).toNat by omega), if_pos h]

theorem placeFrame_misaligned {p : PortId} {f : Uplink} {s : State}
    (h : 2 ≤ (f.cycle - (s.port p).gathering).toNat) (h' : (f.cycle - (s.port p).gathering).toNat < 65528) :
    placeFrame p f s = s.bumpPort p .misaligned := by
  simp only [placeFrame, placement_outOfStep h, if_neg (Nat.not_le.mpr h')]

theorem placeFrame_inStep {p : PortId} {f : Uplink} {s : State}
    (h : (f.cycle - (s.port p).gathering).toNat ≤ 1) :
    let w := stepSlot f.cycle (s.port p).gathering
    placeFrame p f s = if (s.port p).occupied w then s.bumpPort p .overruns
      else if (s.port p).settling then s.setPort p { s.port p with settling := false } else acceptFrame p w f s := by
  intro w
  have hw : placement f.cycle (s.port p).gathering = w := placement_inStep h
  rcases stepSlot_cases f.cycle (s.port p).gathering with hs | hs <;> simp only [placeFrame, hw, w, hs] <;> rfl

theorem Port.occupied_stepSlot (q : Port) (n : CycleNo) : q.occupied (stepSlot n q.gathering) =
    (if (n - q.gathering).toNat = 0 then q.gatherSlot else q.earlySlot).isSome := by
  unfold stepSlot; split <;> rfl

/-- An ACTIVE port delivers the Acquire Results of a frame held, any other port ignores them (R114). -/
theorem acceptFrame_outcome (p : PortId) (w : Placement) (f : Uplink) (s : State) : acceptFrame p w f s =
    if (s.port p).state = .active then
      (resultsOf (f.records.filter fun x => canonical x.id)).foldl (fun v x => takeAcquireResult p x.1 x.2 v)
        (s.holdingFrame p w f)
    else s.holdingFrame p w f := by
  have hstate : ((s.holdingFrame p w f).port p).state = (s.port p).state := by
    rw [State.holdingFrame_port, if_pos rfl, Port.accepted_state]
  rw [acceptFrame_eq, deliverResults, hstate]

/-- What acceptance changes of a port: its flags, its counters and the slot of the frame. -/
theorem Port.accepted_stepSlot (q : Port) (f : Uplink) (bursts : List Burst) :
    q.accepted (stepSlot f.cycle q.gathering) f bursts = { q with
      flags := f.flags
      gatherSlot := if (f.cycle - q.gathering).toNat = 0 then some ⟨f.cycle, bursts⟩ else q.gatherSlot
      earlySlot := if (f.cycle - q.gathering).toNat = 0 then q.earlySlot else some ⟨f.cycle, bursts⟩
      counters := (q.accepted (stepSlot f.cycle q.gathering) f bursts).counters } := by
  by_cases h : (f.cycle - q.gathering).toNat = 0
  · simp only [stepSlot, if_pos h]; rfl
  · simp only [stepSlot, if_neg h]; rfl

/-! ### Recovery (R117) -/

theorem uplinkHeader_none {bytes : List Byte}
    (h : ¬bytes.drop (bytes.length - 2) = halfBytes (crc16 (bytes.take (bytes.length - 2))) ∨
      (bytes.take (bytes.length - 2)).length < 4) : uplinkHeader bytes = none := by
  simp only [uplinkHeader]
  split
  · rename_i hcrc
    split
    · rename_i hbody
      have hshort := h.resolve_left (not_not_intro hcrc)
      simp only [hbody, List.length_cons] at hshort
      omega
    · rfl
  · rfl

theorem uplinkHeader_intact {bytes : List Byte} {c1 c0 flags count : Byte} {recs : List Byte}
    (hcrc : bytes.drop (bytes.length - 2) = halfBytes (crc16 (bytes.take (bytes.length - 2))))
    (hbody : bytes.take (bytes.length - 2) = c1 :: c0 :: flags :: count :: recs) :
    uplinkHeader bytes = some (half c1 c0, flags, count.toNat, recs) := by
  simp only [uplinkHeader, if_pos hcrc]
  rw [hbody]

theorem examineRecovery_inStep {p : PortId} {bytes : List Byte} {s : State} {n : CycleNo} {flags : Byte} {count : Nat}
    {recs : List Byte} (hh : uplinkHeader bytes = some (n, flags, count, recs))
    (h : (n - (s.port p).gathering).toNat ≤ 1) : examineRecovery p bytes s =
      (s.setPort p { s.port p with state := (s.port p).returnState.state, settling := false }).post
        .notice .portRecovered (some p) none none (s.port p).returnState.state.code := by
  simp only [examineRecovery, hh]
  exact if_pos (placement_inStep h ▸ stepSlot_cases ..)

theorem examineRecovery_outOfStep {p : PortId} {bytes : List Byte} {s : State} {n : CycleNo} {flags : Byte}
    {count : Nat} {recs : List Byte} (hh : uplinkHeader bytes = some (n, flags, count, recs))
    (h : 1 < (n - (s.port p).gathering).toNat) : examineRecovery p bytes s = s := by
  simp only [examineRecovery, hh]
  refine if_neg ?_
  rw [placement_outOfStep h]
  split <;> simp

/-! ### The command (R108, R109) -/

theorem exec_uplinkFrame_isolated {p : PortId} {s : State} (h : (s.port p).state = .isolated) (bytes : List Byte) :
    exec (.uplinkFrame p bytes) s = .next (examineRecovery p bytes s) := by
  show execUplinkFrame p bytes s = _
  simp only [execUplinkFrame, h]

theorem exec_uplinkFrame_inService {p : PortId} {s : State}
    (h : (s.port p).state = .active ∨ (s.port p).state = .dormant) (bytes : List Byte) :
    exec (.uplinkFrame p bytes) s = .next (match parseUplink bytes with
      | none => s.bumpPort p .frameErrors
      | some f => placeFrame p f s) := by
  show execUplinkFrame p bytes s = _
  rcases h with h | h <;> simp only [execUplinkFrame, h] <;> cases parseUplink bytes <;> rfl

end Sys2Proof.Machine

section
open Sys2Proof Sys2Proof.Machine

/-- Settles O58: by the port's state, then by the frame's distance from the Gathering cycle. -/
theorem uplinkFrameFindsItsSlot : Obligations.UplinkFrameFindsItsSlot := by
  unfold Obligations.UplinkFrameFindsItsSlot
  intro p bytes s hcounters q run body intact
  refine ⟨fun hoff => ?_, fun hiso hbad => ?_, fun c1 c0 rest hiso hcrc hbody hrest => ?_, fun hin hparse => ?_,
    fun f hparse => ?_⟩
  · show execUplinkFrame p bytes s = _
    simp only [execUplinkFrame, show (s.port p).state = .off from hoff]
  · have hnone : uplinkHeader bytes = none := uplinkHeader_none hbad
    have hstays : examineRecovery p bytes s = s := by simp only [examineRecovery, hnone]
    exact (exec_uplinkFrame_isolated hiso bytes).trans (congrArg _ hstays)
  · obtain ⟨flags, count, recs, rfl⟩ : ∃ flags count recs, rest = flags :: count :: recs := by
      match rest, hrest with
      | flags :: count :: recs, _ => exact ⟨flags, count, recs, rfl⟩
    have hheader := uplinkHeader_intact hcrc hbody
    have hrun := exec_uplinkFrame_isolated hiso bytes
    refine ⟨fun hd => hrun.trans (congrArg _ ?_), fun hd => hrun.trans (congrArg _ (examineRecovery_outOfStep hheader hd))⟩
    rw [examineRecovery_inStep hheader hd]
    cases hr : (s.port p).returnState <;> simp only [q, hr] <;> rfl
  · have hrun := exec_uplinkFrame_inService hin bytes
    rwa [hparse] at hrun
  · intro d hin
    have hrun : run = .next (placeFrame p f s) := by
      have hrun := exec_uplinkFrame_inService hin bytes
      rwa [hparse] at hrun
    refine ⟨fun hd => hrun.trans (congrArg _ (placeFrame_late hd)),
      fun hd hd' => hrun.trans (congrArg _ (placeFrame_misaligned hd hd')), fun hd => ?_⟩
    intro slot
    have hocc : (s.port p).occupied (stepSlot f.cycle (s.port p).gathering) = slot.isSome :=
      (s.port p).occupied_stepSlot f.cycle
    rw [placeFrame_inStep hd, hocc] at hrun
    refine ⟨fun hslot => ?_, fun hslot hset => ?_, fun hslot hset => ?_⟩
    · rw [hrun, if_pos (Option.isSome_iff_ne_none.mpr hslot)]
    · rw [hrun, hslot, if_neg (by simp), if_pos hset]
    · intro kept results held damaged
      rw [hslot, if_neg (by simp), if_neg (by simpa using hset), acceptFrame_outcome] at hrun
      have hport := s.holdingFrame_port p (stepSlot f.cycle (s.port p).gathering) f
      have hself := (hport p).trans (if_pos rfl)
      refine ⟨_, hrun, s.holdingFrame_frame .., fun a ha => (hport a).trans (if_neg ha),
        hself ▸ (s.port p).accepted_stepSlot f _, fun k => ?_, s.notedFlags_events p f.flags,
        s.notedFlags_lostEvents p f.flags⟩
      have hk : (s.port p).counters.get k ≤ 65535 := hcounters (.port p k)
      have hcount := Port.accepted_counters (stepSlot f.cycle (s.port p).gathering) f
        (heldBursts s p (f.records.filter fun x => canonical x.id)) hk
      rw [countsDamaged_eq] at hcount
      exact (congrArg (·.counters.get k) hself).trans hcount

end
end

section
/-! SUPPORT. What every command is made of: a packet is served by one owner, wherever it comes from (`Served`), and a law
that a few operations keep is kept by every command (`LawKept.step`). -/

namespace Sys2Proof

/-- The rows that are taken within one block: neither a packet nor a step of the Cycle Timer or of the voice path, nor a
countdown that a cycle start takes. -/
def Instr.withinBlock : Instr → Bool
  | .denyListingExpiry _ | .downlinkSend _ | .linkLost _ | .bridgeTimeout _ | .attachTimeout _ | .headsetDropped _
  | .barTimerExpiry _ _ | .portIsolated _ | .registrationIntake | .uplinkFrame _ _ => true
  | _ => false

end Sys2Proof

namespace Sys2Proof.Machine

/-! ### The owners of packets (Tables 8-3 and 9-1) -/

/-- The owners that carry out the packets of an origin, each with the permission it takes; a packet may also reach no
owner and be refused. -/
inductive Served (o : Origin) : Permission → (State → Reply × State) → Prop where
  | refused (p : Permission) (why : Reason) : Served o p (refuse why)
  | echo (b : List Byte) : Served o .anyLane (ownEcho b)
  | identify (b : List Byte) : Served o .anyLane (ownIdentify b)
  | readStatus (b : List Byte) : Served o .anyLane (ownReadStatus b)
  | configure (b : List Byte) : Served o .primaryOnly (ownConfigure b)
  | readParameters (b : List Byte) : Served o .anyLane (ownReadParameters b)
  | setPartition (b : List Byte) : Served o .primaryOnly (ownSetPartition b)
  | restart (b : List Byte) : Served o .primaryOnly (ownRestart b)
  | clearShed (b : List Byte) : Served o .anyLane (ownClearShed o b)
  | counterExchangeAdd (b : List Byte) : Served o (exchangePermission b) (ownCounterExchangeAdd b)
  | activate (port : Byte) : Served o .primaryOnly (ownPort port activatePort)
  | makeDormant (port : Byte) : Served o .primaryOnly (ownPort port makePortDormant)
  | turnOff (port : Byte) : Served o .primaryOnly (ownPort port turnPortOff)
  | portReset (port : Byte) : Served o .primaryOnly (ownPort port resetPort)
  | setClass (port cls : Byte) : Served o .primaryOnly (ownSetClass port cls)
  | loadTranslate (b : List Byte) : Served o .primaryOnly (ownLoadTranslate b)
  | readTranslate (b : List Byte) : Served o .primaryOnly (ownReadTranslate b)
  | setWindow (b : List Byte) : Served o .primaryOnly (ownSetWindow b)
  | writeWindow (b : List Byte) : Served o .primaryOnly (ownWriteWindow b)
  | readWindow (b : List Byte) : Served o .primaryOnly (ownReadWindow b)
  | fetchRegistrations (b : List Byte) : Served o .primaryOnly (ownFetchRegistrations b)
  | admitHeadset (b : List Byte) : Served o .primaryOnly (ownAdmit b)
  | deny (b : List Byte) : Served o .primaryOnly (ownDeny b)
  | release (b : List Byte) : Served o .fullOnly (ownRelease b)
  | readRecord (b : List Byte) : Served o .anyLane (ownReadRecord b)
  | forceHandoff (b : List Byte) : Served o .fullOnly (ownForceHandoff b)
  | freezeOn (d : Half) : Served o .anyLane (ownFreezeOn o d)
  | freezeOff : Served o .anyLane (ownFreezeOff o)
  | fetchEvents (b : List Byte) : Served o .primaryOnly (ownFetchEvents b)

/-- An operation serves a packet of an origin by one of the owners. -/
def ServesPacket (o : Origin) (f : State → State) : Prop := ∃ p own, Served o p own ∧ f = serve o p own

theorem Served.serves {o : Origin} {p : Permission} {own : State → Reply × State} (h : Served o p own) :
    ServesPacket o (serve o p own) := ⟨p, own, h, rfl⟩

theorem servePortControl_serves (o : Origin) (payload : List Byte) : ServesPacket o (servePortControl o payload) := by
  unfold servePortControl
  split
  · rename_i port action cls
    split
    · exact (Served.activate port).serves
    split
    · exact (Served.makeDormant port).serves
    split
    · exact (Served.turnOff port).serves
    split
    · exact (Served.portReset port).serves
    split
    · exact (Served.setClass port cls).serves
    · exact (Served.refused .primaryOnly .badArgument).serves
  · exact (Served.refused .primaryOnly .badArgument).serves

theorem serveFreeze_serves (o : Origin) (payload : List Byte) : ServesPacket o (serveFreeze o payload) := by
  unfold serveFreeze
  split
  · split
    · exact Served.freezeOff.serves
    split
    · exact (Served.freezeOn _).serves
    · exact (Served.refused .anyLane .badArgument).serves
  · exact (Served.refused .anyLane .badArgument).serves

/-- A packet in a control block is served by one owner, whatever its code (R138). -/
theorem dispatchPacket_serves (o : Origin) (code : Byte) (payload : List Byte) :
    ServesPacket o (dispatchPacket o code payload) := by
  unfold dispatchPacket
  split
  · exact (Served.echo payload).serves
  · exact (Served.identify payload).serves
  · exact (Served.readStatus payload).serves
  · exact (Served.configure payload).serves
  · exact (Served.readParameters payload).serves
  · exact (Served.setPartition payload).serves
  · exact (Served.restart payload).serves
  · exact (Served.clearShed payload).serves
  · exact (Served.counterExchangeAdd payload).serves
  · exact servePortControl_serves o payload
  · exact (Served.loadTranslate payload).serves
  · exact (Served.readTranslate payload).serves
  · exact (Served.setWindow payload).serves
  · exact (Served.writeWindow payload).serves
  · exact (Served.readWindow payload).serves
  · exact (Served.fetchRegistrations payload).serves
  · exact (Served.admitHeadset payload).serves
  · exact (Served.deny payload).serves
  · exact (Served.release payload).serves
  · exact (Served.readRecord payload).serves
  · exact (Served.forceHandoff payload).serves
  · exact serveFreeze_serves o payload
  · exact (Served.fetchEvents payload).serves
  · exact (Served.refused .anyLane .unknownCommand).serves

/-- A row that is a packet is served by one owner. -/
theorem exec_serves {c : Instr} {o : Origin} (h : c.origin = some o) :
    ∃ f, ServesPacket o f ∧ ∀ s, exec c s = .next (f s) := by
  cases c with
  | echo _ b => cases h; exact ⟨_, (Served.echo b).serves, fun _ => rfl⟩
  | identify _ b => cases h; exact ⟨_, (Served.identify b).serves, fun _ => rfl⟩
  | readStatus _ b => cases h; exact ⟨_, (Served.readStatus b).serves, fun _ => rfl⟩
  | configure _ b => cases h; exact ⟨_, (Served.configure b).serves, fun _ => rfl⟩
  | readParameters _ b => cases h; exact ⟨_, (Served.readParameters b).serves, fun _ => rfl⟩
  | setPartition _ b => cases h; exact ⟨_, (Served.setPartition b).serves, fun _ => rfl⟩
  | restart _ b => cases h; exact ⟨_, (Served.restart b).serves, fun _ => rfl⟩
  | clearShed _ b => cases h; exact ⟨_, (Served.clearShed b).serves, fun _ => rfl⟩
  | counterExchangeAdd _ b => cases h; exact ⟨_, (Served.counterExchangeAdd b).serves, fun _ => rfl⟩
  | activate _ p _ => cases h; exact ⟨_, (Served.activate p).serves, fun _ => rfl⟩
  | makeDormant _ p _ => cases h; exact ⟨_, (Served.makeDormant p).serves, fun _ => rfl⟩
  | turnOff _ p _ => cases h; exact ⟨_, (Served.turnOff p).serves, fun _ => rfl⟩
  | portReset _ p _ => cases h; exact ⟨_, (Served.portReset p).serves, fun _ => rfl⟩
  | setClass _ p cls => cases h; exact ⟨_, (Served.setClass p cls).serves, fun _ => rfl⟩
  | loadTranslate _ b => cases h; exact ⟨_, (Served.loadTranslate b).serves, fun _ => rfl⟩
  | readTranslate _ b => cases h; exact ⟨_, (Served.readTranslate b).serves, fun _ => rfl⟩
  | setWindow _ b => cases h; exact ⟨_, (Served.setWindow b).serves, fun _ => rfl⟩
  | writeWindow _ b => cases h; exact ⟨_, (Served.writeWindow b).serves, fun _ => rfl⟩
  | readWindow _ b => cases h; exact ⟨_, (Served.readWindow b).serves, fun _ => rfl⟩
  | fetchRegistrations _ b => cases h; exact ⟨_, (Served.fetchRegistrations b).serves, fun _ => rfl⟩
  | admitHeadset _ b => cases h; exact ⟨_, (Served.admitHeadset b).serves, fun _ => rfl⟩
  | deny _ b => cases h; exact ⟨_, (Served.deny b).serves, fun _ => rfl⟩
  | release _ b => cases h; exact ⟨_, (Served.release b).serves, fun _ => rfl⟩
  | readRecord _ b => cases h; exact ⟨_, (Served.readRecord b).serves, fun _ => rfl⟩
  | forceHandoff _ b => cases h; exact ⟨_, (Served.forceHandoff b).serves, fun _ => rfl⟩
  | freezeOn _ d => cases h; exact ⟨_, (Served.freezeOn d).serves, fun _ => rfl⟩
  | freezeOff _ _ => cases h; exact ⟨_, Served.freezeOff.serves, fun _ => rfl⟩
  | fetchEvents _ b => cases h; exact ⟨_, (Served.fetchEvents b).serves, fun _ => rfl⟩
  | _ => cases h

/-! ### Laws that every command keeps -/

/-- A law of the state holds after reset and is kept by the operations that the commands are made of. -/
structure LawKept (P : State → Prop) : Prop where
  reset : P State.reset
  pending : ∀ {s : State} (q : List Instr), P s → P { s with pending := q }
  served : ∀ {o p own}, Served o p own → ∀ {s : State}, P s → P (serve o p own s)
  bumpCtl : ∀ {s : State} (k : CtlCounter), P s → P (s.bumpCtl k)
  report : ∀ {s : State} (l : CtlLane) (x : Response), P s → P (s.report l x)
  distributeLane : ∀ {s : State} (frame : List Byte) (n : LaneId), P s → P (distributeLane frame s n)
  takeControlSize : ∀ {s : State}, P s → P (takeControlSize s)
  timer : ∀ {s : State} (t : Timer), P s → P { s with timer := t }
  post : ∀ {s : State} (c : EventClass) (k : EventKind) (p : Option PortId) (i : Option HeadsetId) (n : Option LaneId)
    (d : Byte), P s → P (s.post c k p i n d)
  renumbered : ∀ {s : State} (n : CycleNo), P s → P { s with ports := vmap (Port.renumber n) s.ports }
  close : ∀ {s : State}, P s → P (makePendingClose s)
  freezeTick : ∀ {s : State}, P s → P (freezeTick s)
  ageRegistrations : ∀ {s : State}, P s → P (ageRegistrations s)
  countDenials : ∀ {s : State}, P s → P (countDenials s)
  scheduleEvents : ∀ {s : State}, P s → P (scheduleEvents s)
  transmit : ∀ {s : State}, P s → P (transmit s)
  holdRequests : ∀ {s : State} (l : List HoldRequest), P s → P { s with holdRequests := l }
  takeHoldRequest : ∀ {s : State} (q : HoldRequest), P s → P (takeHoldRequest s q)
  withinBlock : ∀ {c : Instr} {s t : State}, c.withinBlock = true → exec c s = .next t → P s → P t

/-- A law that every turn of a pass keeps is kept by the pass. -/
theorem foldl_keeps {α : Type} {P : State → Prop} {f : State → α → State} (hf : ∀ (s : State) (a : α), P s → P (f s a))
    (l : List α) {s : State} (h : P s) : P (l.foldl f s) :=
  List.foldlRecOn l f h fun u hu a _ => hf u a hu

section
variable {P : State → Prop}

theorem LawKept.servesPacket (hP : LawKept P) {o : Origin} {f : State → State} (hf : ServesPacket o f) {s : State}
    (h : P s) : P (f s) := by
  obtain ⟨p, own, hown, rfl⟩ := hf
  exact hP.served hown h

theorem LawKept.takePayload (hP : LawKept P) (l : CtlLane) (hdr : List Byte) (code tag : Byte) (corrected : Bool)
    (n : Nat) (rest : List Byte) {s : State} (h : P s) : P (takePayload l hdr code tag corrected n rest s) := by
  unfold Machine.takePayload; dsimp only
  split
  · exact hP.servesPacket (dispatchPacket_serves ..) h
  · exact hP.report _ _ (hP.bumpCtl _ h)

/-- A control block keeps the law, packet by packet (R133 to R136). -/
theorem LawKept.parseBlock (hP : LawKept P) (l : CtlLane) (fuel : Nat) (bytes : List Byte) {s : State} (h : P s) :
    P (parseBlock l fuel bytes s) := by
  induction fuel generalizing bytes s with
  | zero => exact h
  | succ fuel ih =>
    cases bytes with
    | nil => exact h
    | cons b0 rest =>
      unfold Machine.parseBlock
      split
      · exact ih rest h
      split
      · rename_i b1 b2 chk rest
        split
        · exact hP.report _ _ (hP.bumpCtl _ h)
        · rename_i code tag len corrected _
          have hcounted : P (if corrected then s.bumpCtl .headerCorrections else s) := by
            split
            exacts [hP.bumpCtl _ h, h]
          dsimp only
          split
          · exact ih _ (hP.servesPacket (dispatchPacket_serves ..) hcounted)
          split
          · exact hP.report _ _ hcounted
          · exact ih _ (hP.takePayload _ _ _ _ _ _ _ hcounted)
      · exact hP.report _ _ h

/-- The frame of an arrival keeps the law (R96, R132, R133). -/
theorem LawKept.takeFrame (hP : LawKept P) (frame : List Byte) {s : State} (h : P s) : P (takeFrame frame s) := by
  have hsized : P (Machine.takeControlSize (distribute frame s)) :=
    hP.takeControlSize (foldl_keeps (fun _ n hu => hP.distributeLane frame n hu) _ h)
  have hfirst := hP.parseBlock .primary Config.controlBlockBytes (frameBlock frame 63) hsized
  unfold Machine.takeFrame parseControl; dsimp only
  split
  · exact hP.parseBlock _ _ _ hfirst
  · exact hfirst

theorem LawKept.transmitAt (hP : LawKept P) (order : StartOrder) {s : State} (h : P s) : P (transmitAt order s) := by
  unfold Machine.transmitAt
  split
  · exact hP.transmit (foldl_keeps (fun _ q hu => hP.takeHoldRequest q hu) _ (hP.holdRequests [] h))
  · exact hP.transmit h

theorem LawKept.countdowns (hP : LawKept P) {s : State} (h : P s) : P (countdowns s) :=
  hP.countDenials (hP.ageRegistrations (hP.freezeTick h))

/-- A cycle start keeps the law when what is done before its transmit does (R124). -/
theorem LawKept.cycleStart (hP : LawKept P) (order : StartOrder) (n : CycleNo) (time : Nat)
    {meanwhile : State → State} (hmeanwhile : ∀ {u : State}, P u → P (meanwhile u)) {s : State} (h : P s) :
    P (cycleStart order n time meanwhile s) := by
  unfold Machine.cycleStart
  split
  · exact hmeanwhile (hP.scheduleEvents (hP.countdowns (hP.close (hP.transmitAt order (hP.timer _ h)))))
  · exact hP.transmitAt order (hmeanwhile (hP.scheduleEvents (hP.countdowns (hP.timer _ (hP.close h)))))

theorem LawKept.renumber (hP : LawKept P) (n expected : CycleNo) {s : State} (h : P s) : P (renumber n expected s) :=
  hP.post _ _ _ _ _ _ (hP.renumbered n h)

theorem LawKept.restoreFollow (hP : LawKept P) (started : Bool) {s : State} (h : P s) : P (restoreFollow started s) :=
  hP.post _ _ _ _ _ _ (hP.timer _ h)

theorem LawKept.postHoldover (hP : LawKept P) {s : State} (h : P s) : P (postHoldover s) := by
  unfold Machine.postHoldover
  split
  exacts [hP.post _ _ _ _ _ _ h, h]

theorem LawKept.arriveStarting (hP : LawKept P) (order : StartOrder) (time : Nat) (frame : List Byte) {s : State}
    (h : P s) : P (arriveStarting order time frame s) := by
  have hnumbered : ∀ {u : State}, P u → P (if frameCycle frame = s.timer.cycle + 1 then u
      else Machine.renumber (frameCycle frame) (s.timer.cycle + 1) u) := fun hu => by
    split
    exacts [hu, hP.renumber _ _ hu]
  unfold Machine.arriveStarting; dsimp only
  split
  · exact hP.cycleStart _ _ _ (fun hu => hP.takeFrame frame (hnumbered hu)) h
  · exact hP.takeFrame frame (hP.cycleStart _ _ _ hnumbered h)

/-- An arrival keeps the law (R126 to R129). -/
theorem LawKept.arrive (hP : LawKept P) (after : Nat) (order : StartOrder) (frame : List Byte) {s : State} (h : P s) :
    P (arrive after order frame s) := by
  unfold Machine.arrive; dsimp only
  split
  · exact hP.arriveStarting _ _ _ (hP.timer _ h)
  · split
    · exact hP.arriveStarting _ _ _ (hP.restoreFollow true (hP.timer _ h))
    · exact hP.takeFrame frame (hP.restoreFollow false (hP.timer _ h))
  · exact hP.takeFrame frame (hP.timer _ h)

/-- Every command keeps the law. -/
theorem LawKept.exec (hP : LawKept P) {c : Instr} {s t : State} (h : exec c s = .next t) (hs : P s) : P t := by
  have hnext : ∀ {u : State}, (.next u : Out) = .next t → P u → P t := fun e hu => by cases e; exact hu
  have hpacket : ∀ {o : Origin}, c.origin = some o → P t := fun ho => by
    obtain ⟨f, hf, hc⟩ := exec_serves ho
    exact hnext ((hc s).symm.trans h) (hP.servesPacket hf hs)
  cases c with
  | powerOnReset => exact hnext ((execPowerOnReset_eq s).symm.trans h) (hP.pending _ hP.reset)
  | downstreamArrival after order frame =>
    unfold Machine.exec execDownstreamArrival at h; dsimp only at h
    split at h
    · exact hnext h (hP.arrive after order frame hs)
    · cases h
  | localCycleStart order =>
    unfold Machine.exec execLocalCycleStart at h; dsimp only at h
    split at h
    · exact hnext h hs
    · exact hnext h (hP.cycleStart order _ _ id hs)
    · exact hnext h (hP.cycleStart order _ _ id hs)
  | holdoverWatchExpiry order =>
    unfold Machine.exec execHoldoverWatchExpiry at h; dsimp only at h
    split at h
    · exact hnext h (hP.cycleStart order _ _ hP.postHoldover (hP.timer _ hs))
    · exact hnext h hs
    · exact hnext h hs
  | freezeExpired =>
    refine hnext h ?_
    split
    exacts [hP.freezeTick hs, hs]
  | registrationAgeOut => exact hnext h (hP.ageRegistrations hs)
  | cycleClose => exact hnext h (hP.close hs)
  | holdWrite =>
    unfold Machine.exec execHoldWrite at h; dsimp only at h
    split at h
    · exact hnext h hs
    · exact hnext h (hP.takeHoldRequest _ (hP.holdRequests _ hs))
  | denyListingExpiry _ | downlinkSend _ | linkLost _ | bridgeTimeout _ | attachTimeout _ | headsetDropped _
  | barTimerExpiry _ _ | portIsolated _ | registrationIntake | uplinkFrame _ _ => exact hP.withinBlock rfl h hs
  | _ => exact hpacket rfl

/-- A step keeps the law. -/
theorem LawKept.step (hP : LawKept P) {s t : State} (h : step s = .next t) (hs : P s) : P t := by
  unfold Machine.step at h
  split at h
  · cases h; exact hs
  · exact hP.exec h (hP.pending _ hs)

end

end Sys2Proof.Machine
end

section
/-! The parameters, the freeze and the window: which commands set them, each within their ranges (O8). -/

namespace Sys2Proof.Machine

/-! ### The law, and what leaves it alone -/

/-- The parameters, the freeze and the window are in range (R50, R150, R162). -/
structure State.SettingsOk (s : State) : Prop where
  params : s.params.Ok
  freeze : s.freeze.ok
  window : s.window.ok

/-- The parameters, the freeze and the window are the same in both states. -/
structure State.SameSettings (s t : State) : Prop where
  params : t.params = s.params
  freeze : t.freeze = s.freeze
  window : t.window = s.window

theorem State.SameSettings.refl (s : State) : s.SameSettings s := ⟨rfl, rfl, rfl⟩

theorem State.SameSettings.trans {s t u : State} (h : s.SameSettings t) (h' : t.SameSettings u) : s.SameSettings u :=
  ⟨h'.params.trans h.params, h'.freeze.trans h.freeze, h'.window.trans h.window⟩

theorem State.SameSettings.ok {s t : State} (h : s.SameSettings t) (hs : s.SettingsOk) : t.SettingsOk :=
  ⟨h.params ▸ hs.params, h.freeze ▸ hs.freeze, h.window ▸ hs.window⟩

theorem State.SameSettings.foldl {α : Type} {f : State → α → State} (hf : ∀ (s : State) (a : α), s.SameSettings (f s a))
    (l : List α) (s : State) : s.SameSettings (l.foldl f s) :=
  foldl_keeps (P := s.SameSettings) (fun u a h => h.trans (hf u a)) l (.refl s)

/-- What the stages of a close may change is no setting. -/
theorem State.Worked.sameSettings {u v : State} {l : List HoldRequest} (h : u.Worked v l) : u.SameSettings v := by
  rw [h.frame]; exact ⟨rfl, rfl, rfl⟩

theorem State.SameSettings.post {s t : State} (h : s.SameSettings t) (c : EventClass) (k : EventKind)
    (p : Option PortId) (i : Option HeadsetId) (n : Option LaneId) (d : Byte) : s.SameSettings (t.post c k p i n d) :=
  h.trans ⟨by simp, by simp, by simp⟩

theorem State.SameSettings.modPort {s t : State} (h : s.SameSettings t) (p : PortId) (f : Port → Port) :
    s.SameSettings (t.modPort p f) := h.trans ⟨rfl, rfl, rfl⟩

theorem State.SameSettings.setLoad {s t : State} (h : s.SameSettings t) (p : PortId) (n : Nat) :
    s.SameSettings (t.setLoad p n) := h.trans ⟨rfl, rfl, rfl⟩

theorem State.setLane_sameSettings (s : State) (l : CtlLane) (c : ControlLane) : s.SameSettings (s.setLane l c) :=
  ⟨by simp, by simp, by simp⟩

theorem State.respond_sameSettings (s : State) (l : CtlLane) (x : Response) : s.SameSettings (s.respond l x) :=
  s.setLane_sameSettings ..

theorem State.shedOn_sameSettings (s : State) (l : CtlLane) (tag : Byte) : s.SameSettings (s.shedOn l tag) :=
  ⟨by simp, by simp, by simp⟩

theorem State.report_sameSettings (s : State) (l : CtlLane) (x : Response) : s.SameSettings (s.report l x) := by
  unfold State.report; split
  exacts [s.shedOn_sameSettings .., s.respond_sameSettings ..]

theorem State.requestOrder_sameSettings (s : State) (p : PortId) (k : OrderKind) (x : HeadsetId) :
    s.SameSettings (s.requestOrder p k x).2 := by rw [s.requestOrder_frame]; exact ⟨rfl, rfl, rfl⟩

theorem State.removeRegistrations_sameSettings (s : State) (leaves : Registration → Bool) :
    s.SameSettings (s.removeRegistrations leaves) := by
  obtain ⟨full, h⟩ := s.removeRegistrations_frame leaves
  rw [h]; exact ⟨rfl, rfl, rfl⟩

/-! ### Ports -/

theorem treatDeparture_worked (p : PortId) (toDormant : Bool) (s : State) (r : RecordIx) :
    s.Worked (treatDeparture p toDormant s r) [] := by
  have hasked : s.Worked (if toDormant then (s.lowerLoad p).dropAt p (s.record r).headset else s.lowerLoad p) [] := by
    split
    exacts [((State.Worked.refl s).lowerLoad p).requestOrder .., (State.Worked.refl s).lowerLoad p]
  unfold treatDeparture; dsimp only
  generalize (if toDormant then (s.lowerLoad p).dropAt p (s.record r).headset else s.lowerLoad p) = u at hasked ⊢
  have hlost : s.Worked (loseServing r p u) [] := ((hasked.dropAndLower ..).modRecord ..).postFor ..
  split
  · split
    · unfold departServing; dsimp only
      split
      · split
        exacts [((hasked.modRecord ..).bumpRoam _).postFor .., hlost]
      exacts [hlost, hasked, hasked, hasked]
    · unfold departTarget
      split
      exacts [hasked.failBridge .., hasked.failAttach .., hasked, hasked, hasked]
  · exact .refl s

theorem State.SameSettings.departRecords {s t : State} (h : s.SameSettings t) (p : PortId) (toDormant : Bool) :
    s.SameSettings (departRecords p toDormant t) :=
  h.trans (.foldl (fun u r => (treatDeparture_worked p toDormant u r).sameSettings) _ t)

theorem State.SameSettings.enterDown {s t : State} (h : s.SameSettings t) (p : PortId) (new : PortState) :
    s.SameSettings (enterDown p new t) := by
  unfold Machine.enterDown; dsimp only
  split
  · exact (((h.modPort ..).departRecords ..).modPort ..).setLoad ..
  · exact ((h.modPort ..).modPort ..).setLoad ..

theorem activatePort_sameSettings (p : PortId) (s : State) : s.SameSettings (activatePort p s) := by
  have hsame := State.SameSettings.refl s
  unfold activatePort; split
  exacts [hsame.modPort .., hsame.modPort .., hsame, hsame.modPort ..]

theorem makePortDormant_sameSettings (p : PortId) (s : State) : s.SameSettings (makePortDormant p s) := by
  have hsame := State.SameSettings.refl s
  unfold makePortDormant enterDormant; split
  exacts [hsame.modPort .., hsame, ((hsame.modPort ..).departRecords ..).modPort .., hsame.modPort ..]

theorem turnPortOff_sameSettings (p : PortId) (s : State) : s.SameSettings (turnPortOff p s) := by
  have hsame := State.SameSettings.refl s
  unfold turnPortOff; split
  exacts [hsame, (hsame.enterDown ..).modPort ..]

theorem ownPort_sameSettings (port : Byte) {act : PortId → State → State}
    (hact : ∀ p s, State.SameSettings s (act p s)) (s : State) : s.SameSettings (ownPort port act s).2 := by
  unfold ownPort; split
  exacts [.refl s, hact _ s]

theorem ownSetClass_sameSettings (port cls : Byte) (s : State) : s.SameSettings (ownSetClass port cls s).2 := by
  unfold ownSetClass; split
  exacts [⟨rfl, rfl, rfl⟩, .refl s]

theorem State.SameSettings.isolatePort {s t : State} (h : s.SameSettings t) (p : PortId) (ret : ReturnState) :
    s.SameSettings (isolatePort p ret t) := ((h.modPort ..).post ..).enterDown ..

theorem takeAcquireResult_worked (p : PortId) (x : HeadsetId) (o : AcquireOutcome) (s : State) :
    s.Worked (takeAcquireResult p x o s) [] := by
  unfold takeAcquireResult; split
  · exact .refl s
  dsimp only
  split
  · split
    · exact (State.Worked.refl s).modRecord ..
    · exact (State.Worked.refl s).modRecord ..
    · exact ((State.Worked.refl s).lowerLoad p).failAttach ..
    · exact ((State.Worked.refl s).dropAndLower ..).failBridge ..
    · exact .refl s
  · exact .refl s

theorem placeFrame_sameSettings (p : PortId) (f : Uplink) (s : State) : s.SameSettings (placeFrame p f s) := by
  have haccepted : ∀ w, s.SameSettings (acceptFrame p w f s) := fun w => by
    have hheld : s.SameSettings (s.holdingFrame p w f) := by rw [s.holdingFrame_frame]; exact ⟨rfl, rfl, rfl⟩
    rw [acceptFrame_eq]; unfold deliverResults; split
    · exact hheld.trans (.foldl (fun u (x : HeadsetId × AcquireOutcome) =>
        (takeAcquireResult_worked p x.1 x.2 u).sameSettings) _ _)
    · exact hheld
  have hplaced : ∀ w, s.SameSettings (if (s.port p).occupied w then s.bumpPort p .overruns
      else if (s.port p).settling then s.modPort p fun q => { q with settling := false } else acceptFrame p w f s) :=
    fun w => by
      split
      · exact ⟨rfl, rfl, rfl⟩
      split
      exacts [⟨rfl, rfl, rfl⟩, haccepted w]
  unfold placeFrame; dsimp only
  split
  exacts [⟨rfl, rfl, rfl⟩, ⟨rfl, rfl, rfl⟩, hplaced _, hplaced _]

theorem examineRecovery_sameSettings (p : PortId) (bytes : List Byte) (s : State) :
    s.SameSettings (examineRecovery p bytes s) := by
  unfold examineRecovery; split
  · exact .refl s
  dsimp only
  split
  · exact ((State.SameSettings.refl s).modPort ..).post ..
  · exact .refl s

/-! ### Admission and records -/

theorem takeReport_sameSettings (g : CycleNo) (s : State) (x : Report) : s.SameSettings (takeReport g s x) := by
  have hqueue : ∀ l, s.SameSettings { s with registrations := l } := fun _ => ⟨rfl, rfl, rfl⟩
  have hfull : s.SameSettings { s with fullReported := true } := ⟨rfl, rfl, rfl⟩
  unfold takeReport
  split
  · exact .refl s
  split
  · exact hqueue _
  split
  · exact (hqueue _).post ..
  split
  · exact .refl s
  · exact hfull.post ..

theorem ownAdmit_sameSettings (payload : List Byte) (s : State) : s.SameSettings (ownAdmit payload s).2 := by
  have hadmit : ∀ r x n cursor, s.SameSettings (admitInto r x n cursor s) := fun r x n cursor => by
    obtain ⟨full, hunlisted⟩ := (seedAttach r (s.enrolled r x n cursor)).unlist_frame x
    rw [admitInto_eq, hunlisted, (seedAttach_frame r _).1]; exact ⟨rfl, rfl, rfl⟩
  unfold ownAdmit; dsimp only
  repeat' split
  exacts [.refl s, .refl s, .refl s, .refl s, hadmit .., .refl s]

theorem denyHeadset_sameSettings (x : HeadsetId) (s : State) : s.SameSettings (denyHeadset x s).2 := by
  have horder : ∀ (u : State) (e : Registration), u.SameSettings (denyOrder x e u).2 := fun u e => by
    unfold denyOrder; split
    exacts [u.requestOrder_sameSettings .., .refl u]
  unfold denyHeadset
  cases s.registrations.find? (·.id = x) with
  | none => exact ⟨rfl, rfl, rfl⟩
  | some e =>
    have hasked := (s.removeRegistrations_sameSettings (·.id = x)).trans (horder _ e)
    exact ⟨hasked.params, hasked.freeze, hasked.window⟩

theorem ownDeny_sameSettings (payload : List Byte) (s : State) : s.SameSettings (ownDeny payload s).2 := by
  unfold ownDeny; split
  · dsimp only
    split
    · exact .refl s
    split
    exacts [.refl s, denyHeadset_sameSettings ..]
  · exact .refl s

theorem ownRelease_sameSettings (payload : List Byte) (s : State) : s.SameSettings (ownRelease payload s).2 := by
  have hrelease : ∀ r, s.SameSettings (releaseRecord r s).2 := fun r => by
    unfold releaseRecord; dsimp only
    split
    · exact .refl s
    · exact (((State.Worked.refl s).dropAndLower ..).dropAndLower ..).freeRecord r |>.sameSettings
  unfold ownRelease
  repeat' split
  exacts [.refl s, .refl s, hrelease _, .refl s]

theorem ownForceHandoff_sameSettings (payload : List Byte) (s : State) :
    s.SameSettings (ownForceHandoff payload s).2 := by
  have hforce : ∀ r antenna, s.SameSettings (forceRecord r antenna s).2 := fun r antenna => by
    unfold forceRecord; dsimp only
    split
    · exact .refl s
    split
    · exact .refl s
    split
    · exact .refl s
    split
    · exact .refl s
    split
    · exact .refl s
    split
    exacts [.refl s, (beginBridge_worked ..).sameSettings]
  unfold ownForceHandoff
  repeat' split
  exacts [.refl s, .refl s, hforce .., .refl s]

/-! ### Counters and tables -/

theorem ownCounterExchangeAdd_sameSettings (payload : List Byte) (s : State) :
    s.SameSettings (ownCounterExchangeAdd payload s).2 := by
  unfold ownCounterExchangeAdd; split
  · split
    · exact .refl s
    · rename_i k _; dsimp only; cases k <;> exact ⟨rfl, rfl, rfl⟩
  · exact .refl s

theorem ownLoadTranslate_sameSettings (payload : List Byte) (s : State) :
    s.SameSettings (ownLoadTranslate payload s).2 := by
  unfold ownLoadTranslate; split
  · split
    · exact .refl s
    split
    exacts [.refl s, ⟨rfl, rfl, rfl⟩]
  · exact .refl s

/-! ### Parameters (R151, R152) -/

theorem clampTo_range {lo hi : Nat} (h : lo ≤ hi) (v : Half) : lo ≤ clampTo lo hi v ∧ clampTo lo hi v ≤ hi := by
  unfold clampTo; omega

theorem clampTrigger_range (v : Half) :
    clampTrigger v = 4 ∨ clampTrigger v = 8 ∨ clampTrigger v = 12 ∨ clampTrigger v = 14 := by
  unfold clampTrigger; repeat' split
  all_goals decide

/-- Whatever value is stored as a parameter, it is brought into that parameter's range (R152, Table 9-3). -/
theorem Params.Ok.put {p : Params} (h : p.Ok) (n : Nat) (v : Half) : (p.put n v).Ok := by
  unfold Params.put
  split
  · exact { h with smoothingShift := clampTo_range (by decide) v }
  · exact { h with hysteresisMargin := (clampTo_range (by decide) v).2 }
  · exact { h with dwell := clampTo_range (by decide) v }
  · exact { h with rescueThreshold := clampTo_range (by decide) v }
  · exact { h with bridgeLimit := clampTo_range (by decide) v }
  · exact { h with attachLimit := clampTo_range (by decide) v }
  · exact { h with missLimit := clampTo_range (by decide) v }
  · exact { h with lostHold := clampTo_range (by decide) v }
  · exact { h with reacquireLevel := (clampTo_range (by decide) v).2 }
  · exact { h with candidateStale := clampTo_range (by decide) v }
  · exact { h with barTime := clampTo_range (by decide) v }
  · exact { h with damagePenalty := (clampTo_range (by decide) v).2 }
  · exact { h with concealLimit := (clampTo_range (by decide) v).2 }
  · exact { h with gatherDelay := clampTo_range (by decide) v }
  · exact { h with linkTimeout := clampTo_range (by decide) v }
  · exact { h with registrationAge := clampTo_range (by decide) v }
  · exact { h with denyHold := clampTo_range (by decide) v }
  · exact { h with holdTrigger := clampTrigger_range v }
  · exact { h with }
  · exact { h with }
  · exact { h with }
  · exact { h with }
  · exact h

theorem Params.Ok.storePairs {p : Params} (h : p.Ok) (pairs : List (Byte × Half)) : (storePairs pairs p).1.Ok := by
  induction pairs generalizing p with
  | nil => exact h
  | cons x pairs ih => exact ih (h.put x.1.toNat x.2)

theorem ownConfigure_settingsOk (payload : List Byte) {s : State} (h : s.SettingsOk) :
    (ownConfigure payload s).2.SettingsOk := by
  unfold ownConfigure; split
  · exact h
  split
  · exact h
  · exact { h with params := h.params.storePairs _ }

/-- A new partition may clear the All-Call lane, and sets no other parameter (R79). -/
theorem ownSetPartition_settingsOk (payload : List Byte) {s : State} (h : s.SettingsOk) :
    (ownSetPartition payload s).2.SettingsOk := by
  unfold ownSetPartition; split
  · split
    · exact h
    split
    · exact h
    · exact { h with params := { h.params with } }
  · exact h

/-! ### The freeze (R50 to R53) -/

theorem Freeze.ok_idle (requested : Bool) : Freeze.ok ⟨false, 0, requested⟩ := rfl

theorem Freeze.ok_clamped (d : Half) (requested : Bool) : Freeze.ok ⟨true, clampFreeze d, requested⟩ := by
  simp only [Freeze.ok, clampFreeze, Config.maxFreeze, if_true]; omega

/-- Freeze Request is no part of the range. -/
theorem Freeze.ok.request {f : Freeze} (h : f.ok) (requested : Bool) : Freeze.ok { f with requested := requested } := h

theorem State.SettingsOk.post {s : State} (h : s.SettingsOk) (c : EventClass) (k : EventKind) (p : Option PortId)
    (i : Option HeadsetId) (n : Option LaneId) (d : Byte) : (s.post c k p i n d).SettingsOk :=
  ((State.SameSettings.refl s).post c k p i n d).ok h

theorem State.SettingsOk.withFreeze {s : State} (h : s.SettingsOk) {f : Freeze} (hf : f.ok) :
    State.SettingsOk { s with freeze := f } := ⟨h.params, hf, h.window⟩

theorem ownFreezeOn_settingsOk (o : Origin) (d : Half) {s : State} (h : s.SettingsOk) :
    (ownFreezeOn o d s).2.SettingsOk := by
  unfold ownFreezeOn freezeReply; dsimp only
  split <;> dsimp only
  exacts [(h.withFreeze (h.freeze.request true)).post .., h.withFreeze (Freeze.ok_clamped d false)]

theorem ownFreezeOff_settingsOk (o : Origin) {s : State} (h : s.SettingsOk) : (ownFreezeOff o s).2.SettingsOk := by
  unfold ownFreezeOff freezeReply
  split
  exacts [h.withFreeze (h.freeze.request false), h.withFreeze (Freeze.ok_idle false)]

/-- Restart ends the freeze and keeps parameters and window (R155, Table 9-5). -/
theorem ownRestart_settingsOk (payload : List Byte) {s : State} (h : s.SettingsOk) :
    (ownRestart payload s).2.SettingsOk := by
  have hcleared : (restartBlocks s).SettingsOk := ⟨h.params, Freeze.ok_idle false, h.window⟩
  unfold ownRestart; split
  · dsimp only; exact hcleared.post ..
  · exact h

/-- The count of an active freeze is lowered while more than 1 remains, and the freeze ends at the last (R53). -/
theorem State.freezeLowered_ok {s : State} (h : s.freeze.ok) : s.freezeLowered.ok := by
  unfold State.freezeLowered
  split
  · exact Freeze.ok_idle _
  split
  · simp_all [Freeze.ok]; omega
  · exact h

theorem freezeTick_settingsOk {s : State} (h : s.SettingsOk) : (freezeTick s).SettingsOk := by
  rw [freezeTick_eq]; exact ⟨h.params, State.freezeLowered_ok h.freeze, h.window⟩

/-! ### The window and its pointer (R162 to R164) -/

/-- The pointer's next place on one side of the window: one further, and not past the end, when it is not at the end. -/
theorem nextIx_between {lo x hi : Fin 24} (hlo : lo ≤ x) (hhi : x ≤ hi) (hx : x ≠ hi) :
    lo ≤ nextIx x ∧ nextIx x ≤ hi := by
  unfold nextIx; omega

/-- The pointer advances within its window (R162). -/
theorem Window.ok.advance {w : Window} (h : w.ok) : w.advance.1.ok := by
  obtain ⟨hrows, hcols, ⟨hrow, hrow'⟩, hcol, hcol'⟩ := h
  have hfirstRow : w.rs ≤ w.rs ∧ w.rs ≤ w.re := ⟨le_rfl, hrows⟩
  have hfirstCol : w.cs ≤ w.cs ∧ w.cs ≤ w.ce := ⟨le_rfl, hcols⟩
  unfold Window.advance
  split
  · split
    · rename_i hnext; exact ⟨hrows, hcols, nextIx_between hrow hrow' hnext, hcol, hcol'⟩
    split
    · rename_i hnext; exact ⟨hrows, hcols, hfirstRow, nextIx_between hcol hcol' hnext⟩
    · exact ⟨hrows, hcols, hfirstRow, hfirstCol⟩
  all_goals
    split
    · rename_i hnext; exact ⟨hrows, hcols, ⟨hrow, hrow'⟩, nextIx_between hcol hcol' hnext⟩
    split
    · rename_i hnext; exact ⟨hrows, hcols, nextIx_between hrow hrow' hnext, hfirstCol⟩
    · exact ⟨hrows, hcols, hfirstRow, hfirstCol⟩

theorem State.SettingsOk.advance {s : State} (h : s.SettingsOk) : s.advance.1.SettingsOk :=
  { h with window := h.window.advance }

theorem writeCell_settingsOk {s : State} (h : s.SettingsOk) (b : Byte) : (writeCell s b).1.SettingsOk := by
  unfold writeCell; dsimp only
  split <;> exact State.SettingsOk.advance ⟨h.params, h.freeze, h.window⟩

theorem writeCells_settingsOk (bs : List Byte) {s : State} (h : s.SettingsOk) : (writeCells bs s).1.SettingsOk := by
  induction bs generalizing s with
  | nil => exact h
  | cons b bs ih => exact ih (writeCell_settingsOk h b)

theorem readCells_settingsOk (n : Nat) {s : State} (h : s.SettingsOk) : (readCells n s).2.SettingsOk := by
  induction n generalizing s with
  | zero => exact h
  | succ n ih => exact ih h.advance

/-- A window that is set has its bounds in order, and its pointer at the first cell. -/
theorem ownSetWindow_settingsOk (payload : List Byte) {s : State} (h : s.SettingsOk) :
    (ownSetWindow payload s).2.SettingsOk := by
  unfold ownSetWindow; split
  · split
    · exact h
    split
    · split
      · rename_i hbounds
        exact { h with window := ⟨hbounds.1, hbounds.2, ⟨le_rfl, hbounds.1⟩, le_rfl, hbounds.2⟩ }
      · exact h
    · exact h
  · exact h

theorem ownWriteWindow_settingsOk (payload : List Byte) {s : State} (h : s.SettingsOk) :
    (ownWriteWindow payload s).2.SettingsOk := by
  unfold ownWriteWindow; split
  exacts [h, writeCells_settingsOk payload h]

theorem ownReadWindow_settingsOk (payload : List Byte) {s : State} (h : s.SettingsOk) :
    (ownReadWindow payload s).2.SettingsOk := by
  unfold ownReadWindow; split
  exacts [readCells_settingsOk _ h, h]

/-! ### Owners that only read -/

@[simp] theorem ownEcho_state (b : List Byte) (s : State) : (ownEcho b s).2 = s := by
  unfold ownEcho; split <;> rfl

@[simp] theorem ownIdentify_state (b : List Byte) (s : State) : (ownIdentify b s).2 = s := by
  unfold ownIdentify; split <;> rfl

@[simp] theorem ownReadStatus_state (b : List Byte) (s : State) : (ownReadStatus b s).2 = s := by
  unfold ownReadStatus; split <;> rfl

@[simp] theorem ownReadParameters_state (b : List Byte) (s : State) : (ownReadParameters b s).2 = s := by
  unfold ownReadParameters; repeat' split
  all_goals rfl

@[simp] theorem ownFetchRegistrations_state (b : List Byte) (s : State) : (ownFetchRegistrations b s).2 = s := by
  unfold ownFetchRegistrations; repeat' split
  all_goals rfl

@[simp] theorem ownReadTranslate_state (b : List Byte) (s : State) : (ownReadTranslate b s).2 = s := by
  unfold ownReadTranslate; repeat' split
  all_goals rfl

@[simp] theorem ownReadRecord_state (b : List Byte) (s : State) : (ownReadRecord b s).2 = s := by
  unfold ownReadRecord; repeat' split
  all_goals rfl

/-! ### Every command -/

/-- The owner of a packet leaves the settings in range. -/
theorem Served.settingsOk {o : Origin} {p : Permission} {own : State → Reply × State} (hown : Served o p own)
    {s : State} (h : s.SettingsOk) : (own s).2.SettingsOk := by
  cases hown with
  | refused why => exact h
  | echo b => rw [ownEcho_state]; exact h
  | identify b => rw [ownIdentify_state]; exact h
  | readStatus b => rw [ownReadStatus_state]; exact h
  | configure b => exact ownConfigure_settingsOk b h
  | readParameters b => rw [ownReadParameters_state]; exact h
  | setPartition b => exact ownSetPartition_settingsOk b h
  | restart b => exact ownRestart_settingsOk b h
  | clearShed b =>
    unfold ownClearShed; split
    exacts [(s.setLane_sameSettings ..).ok h, h]
  | counterExchangeAdd b => exact (ownCounterExchangeAdd_sameSettings b s).ok h
  | activate port => exact (ownPort_sameSettings port activatePort_sameSettings s).ok h
  | makeDormant port => exact (ownPort_sameSettings port makePortDormant_sameSettings s).ok h
  | turnOff port => exact (ownPort_sameSettings port turnPortOff_sameSettings s).ok h
  | portReset port =>
    exact (ownPort_sameSettings port (fun p u => (State.SameSettings.refl u).modPort p Port.reset) s).ok h
  | setClass port cls => exact (ownSetClass_sameSettings port cls s).ok h
  | loadTranslate b => exact (ownLoadTranslate_sameSettings b s).ok h
  | readTranslate b => rw [ownReadTranslate_state]; exact h
  | setWindow b => exact ownSetWindow_settingsOk b h
  | writeWindow b => exact ownWriteWindow_settingsOk b h
  | readWindow b => exact ownReadWindow_settingsOk b h
  | fetchRegistrations b => rw [ownFetchRegistrations_state]; exact h
  | admitHeadset b => exact (ownAdmit_sameSettings b s).ok h
  | deny b => exact (ownDeny_sameSettings b s).ok h
  | release b => exact (ownRelease_sameSettings b s).ok h
  | readRecord b => rw [ownReadRecord_state]; exact h
  | forceHandoff b => exact (ownForceHandoff_sameSettings b s).ok h
  | freezeOn d => exact ownFreezeOn_settingsOk o d h
  | freezeOff => exact ownFreezeOff_settingsOk o h
  | fetchEvents b =>
    unfold ownFetchEvents; split
    exacts [⟨h.params, h.freeze, h.window⟩, h]

theorem distributeLane_sameSettings (frame : List Byte) (s : State) (n : LaneId) :
    s.SameSettings (distributeLane frame s n) := by
  have hplaced : ∀ (p : Option PortId) (v : VoiceRecord) (u : State), u.SameSettings (placeAt? p v u) := fun p v u => by
    cases p with
    | none => exact .refl u
    | some p => unfold placeAt? placeAt; dsimp only; split <;> exact ⟨rfl, rfl, rfl⟩
  unfold distributeLane; split
  · exact .refl s
  split
  · exact ⟨rfl, rfl, rfl⟩
  split
  · exact .refl s
  · rename_i r _
    unfold distributeBound; dsimp only
    have hcarried : s.SameSettings (if (s.record r).state = .active ∨ (s.record r).state = .bridging then
        placeAt? (s.record r).serving ⟨(s.record r).headset, n, blockOf (frameBlock frame n)⟩ s else s) := by
      split
      exacts [hplaced .., .refl s]
    split
    exacts [hcarried.trans (hplaced ..), hcarried]

theorem withinBlock_sameSettings {c : Instr} {s t : State} (hc : c.withinBlock = true) (h : exec c s = .next t) :
    s.SameSettings t := by
  have hnext : ∀ {u : State}, (.next u : Out) = .next t → s.SameSettings u → s.SameSettings t := fun e hu => by
    cases e; exact hu
  have hdue : ∀ {b : Bool} {u : State}, s.Worked u [] → s.SameSettings (if b then u else s) := fun hu => by
    split
    exacts [hu.sameSettings, .refl s]
  cases c with
  | denyListingExpiry x => exact hnext h ⟨rfl, rfl, rfl⟩
  | downlinkSend p =>
    unfold exec execDownlinkSend at h; dsimp only at h
    split at h
    · split at h <;> exact hnext h ⟨rfl, rfl, rfl⟩
    · exact hnext h (.refl s)
  | linkLost r => exact hnext h (hdue (missStage_worked ..))
  | bridgeTimeout r => exact hnext h (hdue (bridgeTimerStage_worked ..))
  | attachTimeout r => exact hnext h (hdue (attachTimerStage_worked ..))
  | headsetDropped r => exact hnext h (hdue (orphanStage_worked ..))
  | barTimerExpiry r a => exact hnext h ⟨rfl, rfl, rfl⟩
  | portIsolated p =>
    have hmarked : s.SameSettings { s with isolationDue := vset s.isolationDue p false } := ⟨rfl, rfl, rfl⟩
    unfold exec execPortIsolated at h; dsimp only at h
    split at h
    · split at h
      exacts [hnext h (hmarked.isolatePort ..), hnext h (hmarked.isolatePort ..), hnext h hmarked, hnext h hmarked]
    · exact hnext h (.refl s)
  | registrationIntake =>
    unfold exec execRegistrationIntake at h; dsimp only at h
    split at h
    · exact hnext h (.refl s)
    · rename_i k ks _
      exact hnext h (.trans (t := { s with intakes := ks }) ⟨rfl, rfl, rfl⟩ (.foldl (takeReport_sameSettings k.cycle) _ _))
  | uplinkFrame p bytes =>
    have hchecked : ∀ u, (match parseUplink bytes with
        | none => (.next (s.bumpPort p .frameErrors) : Out)
        | some f => .next (placeFrame p f s)) = .next u → s.SameSettings u := fun u hu => by
      split at hu <;> cases hu
      exacts [⟨rfl, rfl, rfl⟩, placeFrame_sameSettings ..]
    unfold exec execUplinkFrame at h; dsimp only at h
    split at h
    exacts [hnext h (.refl s), hnext h (examineRecovery_sameSettings ..), hchecked t h, hchecked t h]
  | _ => cases hc

/-- The settings stay in range under every command. -/
theorem State.settingsOk_lawKept : LawKept State.SettingsOk where
  reset := by
    obtain ⟨-, -, -, hfreeze, -, -, -, -, -, -, -, hparams, hwindow⟩ := resetMeetsEveryLaw
    exact ⟨hparams, hfreeze, hwindow⟩
  pending q h := ⟨h.params, h.freeze, h.window⟩
  served {o p own} hown s h := by
    rcases serve_cases o p own s with ⟨-, e⟩ | ⟨-, -, e⟩ | ⟨-, -, e⟩ <;> rw [e]
    exacts [(s.shedOn_sameSettings ..).ok h, (s.respond_sameSettings ..).ok h,
      (State.respond_sameSettings ..).ok (hown.settingsOk h)]
  bumpCtl k h := ⟨h.params, h.freeze, h.window⟩
  report l x h := (State.report_sameSettings _ l x).ok h
  distributeLane frame n h := (distributeLane_sameSettings frame _ n).ok h
  takeControlSize h := by
    unfold takeControlSize; dsimp only
    split <;> exact ⟨h.params, h.freeze, h.window⟩
  timer t h := ⟨h.params, h.freeze, h.window⟩
  post c k p i n d h := h.post c k p i n d
  renumbered n h := ⟨h.params, h.freeze, h.window⟩
  close h := by rw [makePendingClose_frame]; exact ⟨h.params, h.freeze, h.window⟩
  freezeTick := freezeTick_settingsOk
  ageRegistrations h := (State.removeRegistrations_sameSettings ..).ok h
  countDenials h := ⟨h.params, h.freeze, h.window⟩
  scheduleEvents h := ⟨h.params, h.freeze, h.window⟩
  transmit h := by rw [transmit_frame]; exact ⟨h.params, h.freeze, h.window⟩
  holdRequests l h := ⟨h.params, h.freeze, h.window⟩
  takeHoldRequest q h := by rw [takeHoldRequest_frame]; exact ⟨h.params, h.freeze, h.window⟩
  withinBlock hc he h := (withinBlock_sameSettings hc he).ok h

end Sys2Proof.Machine

section
open Sys2Proof Sys2Proof.Machine

/-- Settles O8: the commands that set parameters, freeze or window bring them into range, and every other command leaves
them alone. -/
theorem parametersFreezeAndWindowStayInRange : Obligations.ParametersFreezeAndWindowStayInRange := by
  intro s t hparams hfreeze hwindow h
  have hkept := State.settingsOk_lawKept.step h ⟨hparams, hfreeze, hwindow⟩
  exact ⟨hkept.params, hkept.freeze, hkept.window⟩

end
end

section
/-! Freeze On and Off: what the authority makes of them, and the answer (O35). -/

namespace Sys2Proof.Machine

/-- The answer of a Freeze command: the flags and the remaining count of a freeze (Table 12-7). -/
def freezeAnswer (f : Freeze) : List Byte :=
  [byteOf ((if f.active then 1 else 0) + (if f.requested then 2 else 0))] ++ natBytes f.remaining

theorem freezeReply_eq (s : State) : freezeReply s = (.done (freezeAnswer s.freeze), s) := by
  have hflags : freezeFlags s.freeze =
      byteOf ((if s.freeze.active then 1 else 0) + (if s.freeze.requested then 2 else 0)) := by
    unfold freezeFlags
    cases s.freeze.active <;> cases s.freeze.requested <;> decide
  unfold freezeReply freezeAnswer
  rw [hflags]

/-- A Freeze packet is a request from the secondary lane under authority None alone (R52). -/
theorem asRequest_of_authority {o : Origin} {s : State} (h : o.lane = .primary ∨ s.params.authority ≠ .noAuthority) :
    asRequest o s = false := by
  unfold asRequest
  rcases h with h | h <;> simp [h]

theorem asRequest_of_none {o : Origin} {s : State} (hl : o.lane = .secondary)
    (ha : s.params.authority = .noAuthority) : asRequest o s = true := by
  simp [asRequest, hl, ha]

/-- A Freeze packet answers with the freeze as its owner has left it. -/
theorem serve_freezeReply {o : Origin} {s : State} (hq : (s.lane o.lane).queue.length < 16)
    {own : State → Reply × State} {t : State} (h : own s = freezeReply t) :
    serve o .anyLane own s = t.done o (freezeAnswer t.freeze) :=
  serve_done (State.serves_anyLane hq) (h.trans (freezeReply_eq t))

end Sys2Proof.Machine

section
open Sys2Proof Sys2Proof.Machine

/-- Settles O35: by the authority, each command is the act or the request; either way it answers with the freeze left. -/
theorem freezeOrRequest : Obligations.FreezeOrRequest := by
  intro o d s hq n reply becomes
  refine ⟨fun hauthority => ?_, fun hlane hnone => ?_⟩
  · have hact := asRequest_of_authority hauthority
    exact ⟨congrArg _ (serve_freezeReply hq (by simp only [ownFreezeOn, hact]; rfl)),
      congrArg _ (serve_freezeReply hq (by simp only [ownFreezeOff, hact]; rfl))⟩
  · have hrequest := asRequest_of_none hlane hnone
    have hon : ownFreezeOn o d s = freezeReply (({ s with freeze := { s.freeze with requested := true } } : State).post
        .notice .freezeRequested none none none (byteOf (min (n / 64) 255))) := if_pos hrequest
    have hanswered := serve_freezeReply hq hon
    rw [State.post_freeze] at hanswered
    exact ⟨congrArg _ hanswered, congrArg _ (serve_freezeReply hq (if_pos hrequest))⟩

end
end

section
/-! SUPPORT. The work on the roaming table, transition by transition and stage by stage, keeps every law that a few operations
keep (`TableLaw`). -/

namespace Sys2Proof.Machine

/-! ### Laws that the work on the roaming table keeps -/

/-- A law of the state is kept by the operations that the work on the roaming table is made of. -/
structure TableLaw (P : State → Prop) : Prop where
  setRecord : ∀ {s : State} (r : RecordIx) (x : Record), P s → P (s.setRecord r x)
  setLoad : ∀ {s : State} (p : PortId) (n : Nat), P s → P (s.setLoad p n)
  bumpRoam : ∀ {s : State} (k : RoamCounter), P s → P (s.bumpRoam k)
  post : ∀ {s : State} (c : EventClass) (k : EventKind) (p : Option PortId) (i : Option HeadsetId) (n : Option LaneId)
    (d : Byte), P s → P (s.post c k p i n d)
  requestOrder : ∀ {s : State} (p : PortId) (k : OrderKind) (x : HeadsetId), P s → P (s.requestOrder p k x).2
  returnLane : ∀ {s : State} (n : LaneId), P s → P (s.returnLane n)
  holdRequests : ∀ {s : State} (l : List HoldRequest), P s → P { s with holdRequests := l }

section
variable {P : State → Prop} (hP : TableLaw P) {s : State}
include hP

theorem TableLaw.modRecord (r : RecordIx) (f : Record → Record) (h : P s) : P (s.modRecord r f) := hP.setRecord _ _ h

theorem TableLaw.raiseLoad (p : PortId) (h : P s) : P (s.raiseLoad p) := hP.setLoad _ _ h

theorem TableLaw.lowerLoad (p : PortId) (h : P s) : P (s.lowerLoad p) := hP.setLoad _ _ h

theorem TableLaw.postFor (c : EventClass) (k : EventKind) (p : Option PortId) (rd : Record) (d : Byte) (h : P s) :
    P (s.postFor c k p rd d) := hP.post _ _ _ _ _ _ h

theorem TableLaw.freeRecord (r : RecordIx) (h : P s) : P (s.freeRecord r) := by
  unfold State.freeRecord; split
  exacts [hP.setRecord _ _ h, hP.setRecord _ _ (hP.returnLane _ h)]

theorem TableLaw.dropAndLower (p : Option PortId) (x : HeadsetId) (h : P s) : P (s.dropAndLower p x) := by
  cases p with
  | none => exact h
  | some p => exact hP.lowerLoad _ (hP.requestOrder p .drop x h)

/-! The transitions of a record (R12 to R24, R55 to R61). -/

theorem TableLaw.beginAttach (r : RecordIx) (a : PortId) (h : P s) : P (beginAttach r a s) := by
  have hasked : P (((s.modRecord r fun rd => { rd with
      state := .attaching, target := some a, accepted := false, timer := 0 }).raiseLoad a).requestOrder a .acquire
        (s.record r).headset).2 := hP.requestOrder _ _ _ (hP.raiseLoad _ (hP.modRecord _ _ h))
  unfold Machine.beginAttach; dsimp only
  split
  exacts [hP.postFor _ _ _ _ _ (hP.modRecord _ _ (hP.lowerLoad _ hasked)), hasked]

theorem TableLaw.failAttach (r : RecordIx) (a : PortId) (why : FailReason) (h : P s) : P (failAttach r a why s) :=
  hP.postFor _ _ _ _ _ (hP.modRecord _ _ h)

theorem TableLaw.failBridge (r : RecordIx) (t : PortId) (why : FailReason) (h : P s) : P (failBridge r t why s) := by
  unfold Machine.failBridge reportFailed
  exact hP.postFor _ _ _ _ _ (hP.bumpRoam _ (hP.modRecord _ _ h))

theorem TableLaw.beginBridge (r : RecordIx) (t : PortId) (k : BridgeKind) (h : P s) : P (beginBridge r t k s).2 := by
  unfold Machine.beginBridge reportFailed; dsimp only
  generalize hbegun : s.modRecord r _ = begun
  have hasked : P ((begun.raiseLoad t).requestOrder t .acquire (s.record r).headset).2 :=
    hP.requestOrder _ _ _ (hP.raiseLoad _ (hbegun ▸ hP.modRecord _ _ h))
  split
  · dsimp only; exact hP.postFor _ _ _ _ _ (hP.bumpRoam _ (hP.modRecord _ _ (hP.lowerLoad _ hasked)))
  · exact hasked

theorem TableLaw.linkLoss (r : RecordIx) (h : P s) : P (linkLoss r s) :=
  hP.postFor _ _ _ _ _ (hP.modRecord _ _ (hP.dropAndLower _ _ (hP.dropAndLower _ _ h)))

theorem TableLaw.takeAcquireResult (p : PortId) (x : HeadsetId) (o : AcquireOutcome) (h : P s) :
    P (takeAcquireResult p x o s) := by
  unfold Machine.takeAcquireResult; split
  · exact h
  dsimp only; split
  · split
    · exact hP.modRecord _ _ h
    · exact hP.modRecord _ _ h
    · exact hP.failAttach _ _ _ (hP.lowerLoad _ h)
    · exact hP.failBridge _ _ _ (hP.dropAndLower _ _ h)
    · exact h
  · exact h

/-- A record treated as a port leaves ACTIVE keeps the law (R23, R24). -/
theorem TableLaw.treatDeparture (p : PortId) (toDormant : Bool) (r : RecordIx) (h : P s) :
    P (treatDeparture p toDormant s r) := by
  have hasked : P (if toDormant then (s.lowerLoad p).dropAt p (s.record r).headset else s.lowerLoad p) := by
    split
    exacts [hP.requestOrder _ _ _ (hP.lowerLoad _ h), hP.lowerLoad _ h]
  unfold Machine.treatDeparture; dsimp only
  generalize (if toDormant then (s.lowerLoad p).dropAt p (s.record r).headset else s.lowerLoad p) = u at hasked ⊢
  have hlost : P (loseServing r p u) := hP.postFor _ _ _ _ _ (hP.modRecord _ _ (hP.dropAndLower _ _ hasked))
  split
  · split
    · unfold departServing; dsimp only
      split
      · split
        exacts [hP.postFor _ _ _ _ _ (hP.bumpRoam _ (hP.modRecord _ _ hasked)), hlost]
      exacts [hlost, hasked, hasked, hasked]
    · unfold departTarget
      split
      exacts [hP.failBridge _ _ _ hasked, hP.failAttach _ _ _ hasked, hasked, hasked, hasked]
  · exact h

/-! The stages of a close (R8). -/

theorem TableLaw.completionStage (ev : List Evidence) (r : RecordIx) (h : P s) : P (completionStage ev r s) := by
  unfold Machine.completionStage completeAttach completeBridge; dsimp only
  repeat' split
  · exact h
  · exact hP.postFor _ _ _ _ _ (hP.bumpRoam _ (hP.modRecord _ _ h))
  · exact hP.postFor _ _ _ _ _ (hP.bumpRoam _ (hP.modRecord _ _ (hP.dropAndLower _ _ h)))
  · exact h
  · exact h

theorem TableLaw.missStage (heard : Bool) (r : RecordIx) (h : P s) : P (missStage heard r s) := by
  unfold Machine.missStage; dsimp only
  generalize (if heard = true then 0 else (s.record r).missRaised) = n
  repeat' split
  exacts [hP.linkLoss r (hP.modRecord _ _ h), hP.modRecord _ _ h, h]

theorem TableLaw.voiceStage (before : Record) (ev : List Evidence) (r : RecordIx) (h : P s) :
    P (voiceStage before ev r s) := by
  unfold Machine.voiceStage; dsimp only
  repeat' split
  exacts [hP.holdRequests _ h, h, h]

theorem TableLaw.bridgeTimerStage (r : RecordIx) (h : P s) : P (bridgeTimerStage r s).2 := by
  unfold Machine.bridgeTimerStage; dsimp only
  repeat' split
  · exact hP.failBridge _ _ _ (hP.dropAndLower _ _ (hP.modRecord _ _ h))
  · dsimp only; exact hP.modRecord _ _ h
  · exact h

theorem TableLaw.attachTimerStage (r : RecordIx) (h : P s) : P (attachTimerStage r s).2 := by
  unfold Machine.attachTimerStage; dsimp only
  repeat' split
  · exact hP.failAttach _ _ _ (hP.dropAndLower _ _ (hP.modRecord _ _ h))
  · dsimp only; exact hP.modRecord _ _ h
  · exact h

theorem TableLaw.orphanStage (r : RecordIx) (h : P s) : P (orphanStage r s) := by
  unfold Machine.orphanStage; dsimp only
  repeat' split
  exacts [hP.postFor _ _ _ _ _ (hP.freeRecord r (hP.dropAndLower _ _ (hP.modRecord _ _ h))), hP.modRecord _ _ h, h]

theorem TableLaw.handoffTest (r : RecordIx) (x : PortId) (h : P s) : P (handoffTest r x s) := by
  unfold Machine.handoffTest; dsimp only
  repeat' split
  exacts [hP.setRecord _ _ h, hP.setRecord _ _ h, hP.beginBridge _ _ _ (hP.setRecord _ _ h), hP.setRecord _ _ h, hP.setRecord _ _ h]

theorem TableLaw.decisionStage (r : RecordIx) (h : P s) : P (decisionStage r s) := by
  unfold Machine.decisionStage decideActive beginRescue searchStage; dsimp only
  repeat' split
  exacts [hP.beginBridge _ _ _ (hP.postFor _ _ _ _ _ (hP.bumpRoam _ h)), hP.handoffTest _ _ h, hP.handoffTest _ _ h,
    hP.beginAttach _ _ h, h, h]

/-- The treatment of a record in a close keeps the law. -/
theorem TableLaw.closeRecord (ev : List Evidence) (r : RecordIx) (h : P s) : P (closeRecord ev s r) := by
  unfold Machine.closeRecord; dsimp only
  split
  · exact h
  generalize evidenceOf (s.record r) ev = mine
  have hmeasured : P (measureStage mine r (Machine.completionStage mine r s)) :=
    hP.modRecord _ _ (hP.completionStage mine r h)
  generalize measureStage mine r (Machine.completionStage mine r s) = u at hmeasured ⊢
  have hselected : P (Machine.voiceStage (s.record r) mine r
      (Machine.missStage (heardCycle mine (u.record r)) r u)) :=
    hP.voiceStage _ _ _ (hP.missStage _ _ hmeasured)
  generalize Machine.voiceStage (s.record r) mine r _ = v at hselected ⊢
  have htimed : P (timerStage r v) := by
    unfold timerStage barStage
    exact hP.modRecord _ _ (hP.orphanStage r (hP.attachTimerStage r (hP.bridgeTimerStage r hselected)))
  split
  exacts [htimed, hP.decisionStage r htimed]

end
end Sys2Proof.Machine
end

section
/-! Order queues, downlink assemblies and conceal counts: which commands change them, each within their bounds (O6). -/

namespace Sys2Proof.Machine

/-! ### Order queues (R118, R119) -/

/-- A queue stays lawful when it gains one order at most, and not against an order it keeps. -/
theorem ordersOk.of_added {q q' : List Order} {k : OrderKind} {x : HeadsetId} (h : ordersOk q)
    (hroom : q'.length ≤ Config.maxOrders) (hmem : ∀ o ∈ q', o ∈ q ∨ o = ⟨k, x⟩)
    (hdrop : k = .drop → (⟨.acquire, x⟩ : Order) ∉ q') (hacquire : k = .acquire → (⟨.drop, x⟩ : Order) ∉ q') :
    ordersOk q' := by
  refine ⟨hroom, fun y ⟨ha, hd⟩ => ?_⟩
  rcases hmem _ ha with ha' | ha'
  · rcases hmem _ hd with hd' | hd'
    · exact h.2 y ⟨ha', hd'⟩
    · cases hd'; exact hdrop rfl ha
  · cases ha'; exact hacquire rfl hd

theorem ordersOk.sublist {q q' : List Order} (h : ordersOk q) (hs : q'.Sublist q) : ordersOk q' :=
  ⟨hs.length_le.trans h.1, fun x hx => h.2 x ⟨hs.subset hx.1, hs.subset hx.2⟩⟩

theorem ordersOk_nil : ordersOk [] := ⟨Nat.zero_le _, by simp⟩

/-- A request leaves the queue lawful (R118, R119). -/
theorem ordersOk.takeOrder {q : List Order} (h : ordersOk q) (k : OrderKind) (x : HeadsetId) :
    ordersOk (takeOrder q k x).2 := by
  have hroom := takeOrder_length q k x h.1
  revert hroom
  unfold Machine.takeOrder
  split
  · exact fun _ => h.sublist List.filter_sublist
  rename_i hcancels
  split
  · rename_i hreplaces
    refine fun hroom => h.of_added (k := .acquire) (x := x) hroom (fun o ho => ?_) nofun fun _ => by simp
    simp only [List.mem_append, List.mem_filter, List.mem_singleton] at ho
    exact ho.imp And.left id
  rename_i hwanted
  split
  · exact fun _ => h
  have hopposite : (k = .drop → (⟨.acquire, x⟩ : Order) ∉ q) ∧ (k = .acquire → (⟨.drop, x⟩ : Order) ∉ q) :=
    ⟨fun e hm => hcancels ⟨e, hm⟩, fun e hm => hwanted ⟨e, hm⟩⟩
  have hadded : ∀ q' : List Order, q'.length ≤ Config.maxOrders → (∀ o ∈ q', o ∈ q ∨ o = ⟨k, x⟩) → ordersOk q' :=
    fun q' hroom hmem => h.of_added hroom hmem
      (fun e hm => (hmem _ hm).elim (hopposite.1 e) fun he => by cases he; cases e)
      fun e hm => (hmem _ hm).elim (hopposite.2 e) fun he => by cases he; cases e
  split
  · exact fun hroom => hadded _ hroom fun o ho => by simpa using ho
  split
  · exact fun hroom => hadded _ hroom fun o ho => List.mem_or_eq_of_mem_set ho
  · exact fun _ => h

/-! ### Downlink assemblies (R98) -/

/-- An assembly: at most 12 Voice records, one per headset ID. -/
def voiceOk (vs : List VoiceRecord) : Prop := vs.length ≤ Config.maxVoice ∧ (vs.map (·.id)).Nodup

theorem voiceOk_nil : voiceOk [] := ⟨Nat.zero_le _, by simp⟩

/-- A Voice record placed leaves the assembly lawful (R98). -/
theorem voiceOk.placeVoice {held : List VoiceRecord} (h : voiceOk held) (v : VoiceRecord) :
    voiceOk (placeVoice v held).1 := by
  unfold Machine.placeVoice
  split
  · rename_i hknown
    obtain ⟨w, hw, hid⟩ := List.any_eq_true.mp hknown
    have hshorter : (held.filter (·.id ≠ v.id)).length < held.length :=
      List.length_filter_lt_length_iff_exists.mpr ⟨w, hw, by simpa using hid⟩
    refine ⟨?_, ?_⟩
    · have := h.1
      simp only [List.length_append, List.length_singleton]; omega
    · have hkept := h.2.sublist ((List.filter_sublist (p := (·.id ≠ v.id)) (l := held)).map (·.id))
      rw [List.map_append, List.nodup_append]
      refine ⟨hkept, by simp, fun a ha b hb => ?_⟩
      obtain ⟨w, hw, rfl⟩ := List.mem_map.mp ha
      simpa [List.mem_singleton.mp hb] using (List.mem_filter.mp hw).2
  split
  · rename_i hnew hroom
    refine ⟨by simpa using hroom, ?_⟩
    rw [List.map_append, List.nodup_append]
    refine ⟨h.2, by simp, fun a ha b hb => ?_⟩
    obtain ⟨w, hw, rfl⟩ := List.mem_map.mp ha
    simp only [List.any_eq_true, decide_eq_true_eq, not_exists, not_and] at hnew
    simpa [List.mem_singleton.mp hb] using hnew w hw
  · exact h

/-! ### The law, and what leaves it alone -/

/-- From one port to the other a lawful order queue and a lawful assembly stay lawful. -/
structure Port.Bounded (x y : Port) : Prop where
  orders : ordersOk x.orders → ordersOk y.orders
  voice : voiceOk x.voice → voiceOk y.voice

theorem Port.Bounded.refl (x : Port) : x.Bounded x := ⟨id, id⟩

theorem Port.Bounded.trans {x y z : Port} (h : x.Bounded y) (h' : y.Bounded z) : x.Bounded z :=
  ⟨h'.orders ∘ h.orders, h'.voice ∘ h.voice⟩

/-- From s to t every port's queue and assembly stay lawful, and with the parameters in range these stay in range and
every conceal count at most 8. -/
structure State.Bounded (s t : State) : Prop where
  ports : ∀ p, (s.port p).Bounded (t.port p)
  params : s.params.Ok → t.params.Ok
  conceal : s.params.Ok → ∀ n, (s.holdOf n).conceal ≤ 8 → (t.holdOf n).conceal ≤ 8

theorem State.Bounded.refl (s : State) : s.Bounded s := ⟨fun _ => .refl _, id, fun _ _ => id⟩

theorem State.Bounded.trans {s t u : State} (h : s.Bounded t) (h' : t.Bounded u) : s.Bounded u :=
  ⟨fun p => (h.ports p).trans (h'.ports p), h'.params ∘ h.params,
    fun hs n hn => h'.conceal (h.params hs) n (h.conceal hs n hn)⟩

section
variable {s t u : State}

/-- What changes neither ports nor holds nor parameters keeps the law. -/
theorem State.Bounded.same (h : s.Bounded t) (hports : u.ports = t.ports) (hholds : u.holds = t.holds)
    (hparams : u.params = t.params) : s.Bounded u :=
  h.trans ⟨fun p => by rw [State.port, State.port, hports]; exact .refl _, fun hs => by rwa [hparams],
    fun _ n hn => by rwa [State.holdOf, hholds]⟩

theorem State.Bounded.setPort (h : s.Bounded t) (p : PortId) (x : Port) (hx : (t.port p).Bounded x) :
    s.Bounded (t.setPort p x) :=
  h.trans ⟨fun q => by
    rw [State.setPort_port]; split
    · rename_i hq; rw [hq]; exact hx
    · exact .refl _, id, fun _ _ => id⟩

theorem State.Bounded.modPort (h : s.Bounded t) (p : PortId) (f : Port → Port) (hf : ∀ q : Port, q.Bounded (f q)) :
    s.Bounded (t.modPort p f) := h.setPort p _ (hf _)

theorem State.Bounded.bumpPort (h : s.Bounded t) (p : PortId) (k : PortCounter) : s.Bounded (t.bumpPort p k) :=
  h.modPort p (·.bump k) fun _ => ⟨id, id⟩

theorem State.Bounded.setHold (h : s.Bounded t) (n : LaneId) (x : Hold)
    (hx : t.params.Ok → (t.holdOf n).conceal ≤ 8 → x.conceal ≤ 8) : s.Bounded (t.setHold n x) :=
  h.trans ⟨fun _ => .refl _, id, fun ht m hm => by
    rw [State.setHold_holdOf]; split
    · rename_i hmn; exact hx ht (hmn ▸ hm)
    · exact hm⟩

theorem State.Bounded.post (h : s.Bounded t) (c : EventClass) (k : EventKind) (p : Option PortId)
    (i : Option HeadsetId) (n : Option LaneId) (d : Byte) : s.Bounded (t.post c k p i n d) :=
  h.same (by simp) (by simp) (by simp)

theorem State.Bounded.requestOrder (h : s.Bounded t) (p : PortId) (k : OrderKind) (x : HeadsetId) :
    s.Bounded (t.requestOrder p k x).2 := by
  have hasked : ∀ o q, takeOrder (t.port p).orders k x = (o, q) →
      s.Bounded (t.modPort p fun y => { y with orders := q }) := fun o q e =>
    h.setPort p _ ⟨fun hq => by have := hq.takeOrder k x; rwa [e] at this, id⟩
  rcases t.requestOrder_cases p k x with ⟨-, e⟩ | ⟨o, q, hq, -, e⟩ | ⟨q, hq, e⟩ <;> simp only [e]
  exacts [h, hasked o q hq, ((hasked _ q hq).bumpPort p _).post ..]

theorem State.Bounded.silence (h : s.Bounded t) (n : LaneId) : s.Bounded (t.silence n) :=
  h.setHold n _ fun hp _ => hp.concealLimit

theorem State.Bounded.returnLane (h : s.Bounded t) (n : LaneId) : s.Bounded (t.returnLane n) :=
  State.Bounded.silence (t := t.setBinding n none) (h.same rfl rfl rfl) n

end

/-- The work on the roaming table keeps the law. -/
theorem State.bounded_tableLaw (s : State) : TableLaw s.Bounded where
  setRecord _ _ h := h.same rfl rfl rfl
  setLoad _ _ h := h.same rfl rfl rfl
  bumpRoam _ h := h.same rfl rfl rfl
  post c k p i n d h := h.post c k p i n d
  requestOrder p k x h := h.requestOrder p k x
  returnLane n h := h.returnLane n
  holdRequests _ h := h.same rfl rfl rfl


section
variable {s t : State}

/-! ### Ports -/

theorem State.Bounded.departRecords (h : s.Bounded t) (p : PortId) (toDormant : Bool) :
    s.Bounded (departRecords p toDormant t) :=
  foldl_keeps (fun _ r hu => s.bounded_tableLaw.treatDeparture p toDormant r hu) _ h

/-- A port that goes down is emptied (R105). -/
theorem State.Bounded.enterDown (h : s.Bounded t) (p : PortId) (new : PortState) : s.Bounded (enterDown p new t) := by
  have hnew : s.Bounded (t.modPort p fun q => { q with state := new }) := h.modPort p _ fun _ => ⟨id, id⟩
  have hleft : s.Bounded (if (t.port p).state = .active then
      Machine.departRecords p false (t.modPort p fun q => { q with state := new })
        else t.modPort p fun q => { q with state := new }) := by
    split
    exacts [hnew.departRecords p false, hnew]
  unfold Machine.enterDown
  dsimp only
  exact (hleft.modPort p Port.goDown fun _ => ⟨fun _ => ordersOk_nil, fun _ => voiceOk_nil⟩).same rfl rfl rfl

theorem State.Bounded.activatePort (h : s.Bounded t) (p : PortId) : s.Bounded (activatePort p t) := by
  unfold Machine.activatePort; split
  exacts [h.modPort p _ fun _ => ⟨id, id⟩, h.modPort p _ fun _ => ⟨id, id⟩, h, h.modPort p _ fun _ => ⟨id, id⟩]

/-- A port that goes DORMANT loses the Acquires of its queue (R120). -/
theorem State.Bounded.makePortDormant (h : s.Bounded t) (p : PortId) : s.Bounded (makePortDormant p t) := by
  unfold Machine.makePortDormant enterDormant; split
  · exact h.modPort p _ fun _ => ⟨id, id⟩
  · exact h
  · exact ((h.modPort p (fun q => { q with state := .dormant }) fun _ => ⟨id, id⟩).departRecords p true).modPort p _
      fun _ => ⟨fun hq => hq.sublist List.filter_sublist, id⟩
  · exact h.modPort p _ fun _ => ⟨id, id⟩

theorem State.Bounded.turnPortOff (h : s.Bounded t) (p : PortId) : s.Bounded (turnPortOff p t) := by
  unfold Machine.turnPortOff; split
  exacts [h, (h.enterDown p .off).modPort p _ fun _ => ⟨id, id⟩]

theorem Port.reset_bounded (x : Port) : x.Bounded x.reset := ⟨fun _ => ordersOk_nil, fun _ => voiceOk_nil⟩

theorem State.Bounded.ownPort (h : s.Bounded t) (port : Byte) {act : PortId → State → State}
    (hact : ∀ p, s.Bounded (act p t)) : s.Bounded (ownPort port act t).2 := by
  unfold Machine.ownPort; split
  exacts [h, hact _]

theorem State.Bounded.ownSetClass (h : s.Bounded t) (port cls : Byte) : s.Bounded (ownSetClass port cls t).2 := by
  unfold Machine.ownSetClass portReply; split
  · dsimp only; exact h.modPort _ _ fun _ => ⟨id, id⟩
  · exact h

theorem State.Bounded.isolatePort (h : s.Bounded t) (p : PortId) (ret : ReturnState) :
    s.Bounded (isolatePort p ret t) :=
  ((h.modPort p (fun q => { q with returnState := ret }) fun _ => ⟨id, id⟩).post ..).enterDown p .isolated

/-- An uplink frame changes a port's slots, flags and counters, and then delivers its Acquire Results (R112 to R114). -/
theorem State.Bounded.placeFrame (h : s.Bounded t) (p : PortId) (f : Uplink) : s.Bounded (placeFrame p f t) := by
  have haccepted : ∀ w, s.Bounded (acceptFrame p w f t) := fun w => by
    have hnoted : s.Bounded (t.notedFlags p f.flags) := by
      unfold State.notedFlags; split
      exacts [h, h.post ..]
    have hheld : s.Bounded (t.holdingFrame p w f) := hnoted.modPort p _ fun _ => by cases w <;> exact ⟨id, id⟩
    rw [acceptFrame_eq]; unfold deliverResults; split
    · exact foldl_keeps (fun _ (x : HeadsetId × AcquireOutcome) hu =>
        s.bounded_tableLaw.takeAcquireResult p x.1 x.2 hu) _ hheld
    · exact hheld
  have hplaced : ∀ w, s.Bounded (if (t.port p).occupied w then t.bumpPort p .overruns
      else if (t.port p).settling then t.modPort p fun q => { q with settling := false } else acceptFrame p w f t) :=
    fun w => by
      split
      · exact h.bumpPort ..
      split
      exacts [h.modPort p _ fun _ => ⟨id, id⟩, haccepted w]
  unfold Machine.placeFrame; dsimp only
  split
  exacts [h.bumpPort .., h.bumpPort .., hplaced _, hplaced _]

theorem State.Bounded.examineRecovery (h : s.Bounded t) (p : PortId) (bytes : List Byte) :
    s.Bounded (examineRecovery p bytes t) := by
  unfold Machine.examineRecovery; split
  · exact h
  dsimp only; split
  · have hrecovered : ∀ st, s.Bounded (t.modPort p fun q => { q with state := st, settling := false }) :=
      fun _ => h.modPort p _ fun _ => ⟨id, id⟩
    exact (hrecovered _).post ..
  · exact h

/-! ### The close -/

theorem State.Bounded.consumeAll (h : s.Bounded t) (g : CycleNo) : s.Bounded (consumeAll g t) :=
  h.trans ⟨fun p => by
    rw [consumeAll_port]; unfold Port.consume; split <;> exact ⟨id, id⟩, id, fun _ _ => id⟩

/-- A close works on the table and moves the frames of the ports (R8, R115). -/
theorem State.Bounded.makePendingClose (h : s.Bounded t) : s.Bounded (makePendingClose t) := by
  cases hc : t.pendingClose with
  | none => unfold Machine.makePendingClose; rwa [hc]
  | some c =>
    have htreated : s.Bounded t.treated :=
      foldl_keeps (fun _ r hu => s.bounded_tableLaw.closeRecord _ r hu) _ (h.same rfl rfl rfl)
    rw [makePendingClose_eq hc, handIntake_eq]
    generalize t.treated = done at htreated ⊢
    refine State.Bounded.consumeAll ?_ _
    exact htreated.same rfl rfl rfl

/-! ### Voice (R88 to R99) -/

theorem State.Bounded.takeHoldRequest (h : s.Bounded t) (q : HoldRequest) : s.Bounded (takeHoldRequest t q) := by
  have hstored : s.Bounded (t.setHold q.lane { t.holdOf q.lane with block := q.block, fresh := true }) :=
    h.setHold _ _ fun _ => id
  unfold Machine.takeHoldRequest writeHold; dsimp only
  split
  · split
    exacts [hstored.same rfl rfl rfl, hstored]
  · exact h

/-- A lane sent Concealed had a conceal count below the Conceal Limit (R93). -/
theorem State.Bounded.sendLane (h : s.Bounded t) (n : LaneId) : s.Bounded (sendLane n t).2 := by
  unfold Machine.sendLane
  split
  · exact h.same (by simp [buildControl]) (by simp [buildControl]) (by simp [buildControl])
  split
  · exact h
  split
  · exact h
  unfold sendBound; dsimp only
  split
  · exact h.setHold _ _ fun _ _ => Nat.zero_le _
  split
  · rename_i hbelow
    exact (h.setHold n { t.holdOf n with conceal := (t.holdOf n).conceal + 1 } fun hp _ => by
      have := hp.concealLimit; dsimp only; omega).same rfl rfl rfl
  · exact h.same rfl rfl rfl

theorem State.Bounded.sendLanes (ns : List LaneId) (h : s.Bounded t) : s.Bounded (sendLanes ns t).2 := by
  induction ns generalizing t with
  | nil => exact h
  | cons n ns ih => exact ih (h.sendLane n)

theorem State.Bounded.placeAt? (h : s.Bounded t) (p : Option PortId) (v : VoiceRecord) :
    s.Bounded (placeAt? p v t) := by
  cases p with
  | none => exact h
  | some p =>
    have hplaced : s.Bounded (t.modPort p fun q => { q with voice := (placeVoice v (t.port p).voice).1 }) :=
      h.setPort p _ ⟨id, fun hv => hv.placeVoice v⟩
    unfold Machine.placeAt? placeAt; dsimp only
    split
    exacts [hplaced.same rfl rfl rfl, hplaced]

theorem State.Bounded.distributeLane (h : s.Bounded t) (frame : List Byte) (n : LaneId) :
    s.Bounded (distributeLane frame t n) := by
  unfold Machine.distributeLane; split
  · exact h
  split
  · refine h.trans ⟨fun p => ?_, id, fun _ _ => id⟩
    have hport : (distributeAllCall (blockOf (frameBlock frame n)) t).port p =
        if (t.port p).state = .active then { t.port p with allCall := some (blockOf (frameBlock frame n)) } else t.port p :=
      vmap_get ..
    rw [hport]; split <;> exact ⟨id, id⟩
  split
  · exact h
  · rename_i r _
    unfold distributeBound; dsimp only
    have hserved : s.Bounded (if (t.record r).state = .active ∨ (t.record r).state = .bridging then
        Machine.placeAt? (t.record r).serving ⟨(t.record r).headset, n, blockOf (frameBlock frame n)⟩ t else t) := by
      split
      exacts [h.placeAt? .., h]
    split
    exacts [hserved.placeAt? .., hserved]

/-! ### Owners of packets -/

theorem State.Bounded.writeCells (bs : List Byte) (h : s.Bounded t) : s.Bounded (writeCells bs t).1 := by
  induction bs generalizing t with
  | nil => exact h
  | cons b bs ih =>
    refine ih (t := (writeCell t b).1) ?_
    unfold writeCell; dsimp only
    split <;> exact h.same rfl rfl rfl

theorem State.Bounded.readCells (n : Nat) (h : s.Bounded t) : s.Bounded (readCells n t).2 := by
  induction n generalizing t with
  | zero => exact h
  | succ n ih => exact ih (t := t.advance.1) (h.same rfl rfl rfl)

theorem State.Bounded.removeRegistrations (h : s.Bounded t) (leaves : Registration → Bool) :
    s.Bounded (t.removeRegistrations leaves) := by
  obtain ⟨full, e⟩ := t.removeRegistrations_frame leaves
  rw [e]; exact h.same rfl rfl rfl

/-- A record admitted takes a lane with a silent hold, and may attach at once (R83). -/
theorem State.Bounded.ownAdmit (h : s.Bounded t) (payload : List Byte) : s.Bounded (ownAdmit payload t).2 := by
  have hadmit : ∀ r x n cursor, s.Bounded (admitInto r x n cursor t) := fun r x n cursor => by
    have hbound : s.Bounded ({ t with cursor := cursor }.setBinding n (some r)) := h.same rfl rfl rfl
    have henrolled : s.Bounded (t.enrolled r x n cursor) := (hbound.silence n).same rfl rfl rfl
    have hseeded : s.Bounded (seedAttach r (t.enrolled r x n cursor)) := by
      unfold seedAttach; split
      · exact henrolled
      split
      exacts [s.bounded_tableLaw.beginAttach _ _ henrolled, henrolled]
    rw [admitInto_eq]
    exact (hseeded.removeRegistrations _).same rfl rfl rfl
  unfold Machine.ownAdmit; dsimp only
  repeat' split
  exacts [h, h, h, h, hadmit .., h]

theorem State.Bounded.ownDeny (h : s.Bounded t) (payload : List Byte) : s.Bounded (ownDeny payload t).2 := by
  have hdeny : ∀ x, s.Bounded (denyHeadset x t).2 := fun x => by
    unfold denyHeadset
    cases t.registrations.find? (·.id = x) with
    | none => exact h.same rfl rfl rfl
    | some e =>
      have hremoved := h.removeRegistrations (·.id = x)
      have hordered : s.Bounded (denyOrder x e (t.removeRegistrations (·.id = x))).2 := by
        unfold denyOrder; split
        exacts [hremoved.requestOrder .., hremoved]
      exact hordered.same rfl rfl rfl
  unfold Machine.ownDeny; dsimp only
  repeat' split
  exacts [h, h, hdeny _, h]

theorem State.Bounded.ownRelease (h : s.Bounded t) (payload : List Byte) : s.Bounded (ownRelease payload t).2 := by
  have hrelease : ∀ r, s.Bounded (releaseRecord r t).2 := fun r => by
    unfold releaseRecord; dsimp only
    split
    · exact h
    · have hT := s.bounded_tableLaw
      exact hT.freeRecord r (hT.dropAndLower _ _ (hT.dropAndLower _ _ h))
  unfold Machine.ownRelease
  repeat' split
  exacts [h, h, hrelease _, h]

theorem State.Bounded.ownForceHandoff (h : s.Bounded t) (payload : List Byte) :
    s.Bounded (ownForceHandoff payload t).2 := by
  have hforce : ∀ r antenna, s.Bounded (forceRecord r antenna t).2 := fun r antenna => by
    have hbegun := fun a => s.bounded_tableLaw.beginBridge r a .forced h
    unfold forceRecord; dsimp only
    repeat' split
    exacts [h, h, h, h, h, h, hbegun _, hbegun _]
  unfold Machine.ownForceHandoff
  repeat' split
  exacts [h, h, hforce .., h]

theorem State.Bounded.ownCounterExchangeAdd (h : s.Bounded t) (payload : List Byte) :
    s.Bounded (ownCounterExchangeAdd payload t).2 := by
  unfold Machine.ownCounterExchangeAdd
  split
  · split
    · exact h
    · rename_i k _
      cases k with
      | port p k => exact h.modPort p (fun q => { q with counters := vset q.counters k _ }) fun _ => ⟨id, id⟩
      | _ => exact h.same rfl rfl rfl
  · exact h

theorem State.Bounded.ownConfigure (h : s.Bounded t) (payload : List Byte) : s.Bounded (ownConfigure payload t).2 := by
  unfold Machine.ownConfigure
  split
  · exact h
  split
  · exact h
  · exact h.trans ⟨fun _ => .refl _, fun hp => hp.storePairs _, fun _ _ => id⟩

theorem State.Bounded.ownSetPartition (h : s.Bounded t) (payload : List Byte) :
    s.Bounded (ownSetPartition payload t).2 := by
  unfold Machine.ownSetPartition
  split
  · split
    · exact h
    split
    · exact h
    · exact h.trans ⟨fun _ => .refl _, fun hp => { hp with }, fun _ _ => id⟩
  · exact h

/-- Restart empties every queue and assembly and makes every hold silent (R155, Table 9-5). -/
theorem State.Bounded.ownRestart (h : s.Bounded t) (payload : List Byte) : s.Bounded (ownRestart payload t).2 := by
  have hcleared : s.Bounded (restartBlocks t) := h.trans
    ⟨fun p => by
      have hport : (restartBlocks t).port p = (t.port p).reset := vmap_get ..
      rw [hport]; exact Port.reset_bounded _, id,
      fun hp n _ => by
        have hhold : (restartBlocks t).holdOf n = Hold.silent t.params.concealLimit := replicate_get ..
        rw [hhold]; exact hp.concealLimit⟩
  unfold Machine.ownRestart; split
  · dsimp only; exact hcleared.post ..
  · exact h

end

/-! ### Every command -/

/-- The owner of a packet keeps the law. -/
theorem Served.bounded {o : Origin} {p : Permission} {own : State → Reply × State} (hown : Served o p own)
    {s t : State} (h : s.Bounded t) : s.Bounded (own t).2 := by
  cases hown with
  | refused why => exact h
  | echo b => rw [ownEcho_state]; exact h
  | identify b => rw [ownIdentify_state]; exact h
  | readStatus b => rw [ownReadStatus_state]; exact h
  | configure b => exact h.ownConfigure b
  | readParameters b => rw [ownReadParameters_state]; exact h
  | setPartition b => exact h.ownSetPartition b
  | restart b => exact h.ownRestart b
  | clearShed b =>
    unfold ownClearShed; split
    exacts [h.same (by simp) (by simp) (by simp), h]
  | counterExchangeAdd b => exact h.ownCounterExchangeAdd b
  | activate port => exact h.ownPort port h.activatePort
  | makeDormant port => exact h.ownPort port h.makePortDormant
  | turnOff port => exact h.ownPort port h.turnPortOff
  | portReset port => exact h.ownPort port fun p => h.modPort p Port.reset Port.reset_bounded
  | setClass port cls => exact h.ownSetClass port cls
  | loadTranslate b =>
    unfold ownLoadTranslate; repeat' split
    exacts [h, h, h.same rfl rfl rfl, h]
  | readTranslate b => rw [ownReadTranslate_state]; exact h
  | setWindow b =>
    unfold ownSetWindow; repeat' split
    exacts [h, h.same rfl rfl rfl, h, h, h]
  | writeWindow b =>
    unfold ownWriteWindow; split
    exacts [h, h.writeCells b]
  | readWindow b =>
    unfold ownReadWindow; split
    exacts [h.readCells _, h]
  | fetchRegistrations b => rw [ownFetchRegistrations_state]; exact h
  | admitHeadset b => exact h.ownAdmit b
  | deny b => exact h.ownDeny b
  | release b => exact h.ownRelease b
  | readRecord b => rw [ownReadRecord_state]; exact h
  | forceHandoff b => exact h.ownForceHandoff b
  | freezeOn d =>
    have hset : ∀ f, s.Bounded { t with freeze := f } := fun _ => h.same rfl rfl rfl
    unfold ownFreezeOn freezeReply; dsimp only
    split
    · dsimp only; exact (hset _).post ..
    · exact hset _
  | freezeOff =>
    unfold ownFreezeOff freezeReply; split <;> exact h.same rfl rfl rfl
  | fetchEvents b =>
    unfold ownFetchEvents; split
    exacts [h.same rfl rfl rfl, h]

/-- A row taken within one block keeps the law. -/
theorem State.Bounded.withinBlock {c : Instr} {s t u : State} (hc : c.withinBlock = true) (he : exec c t = .next u)
    (h : s.Bounded t) : s.Bounded u := by
  have hT := s.bounded_tableLaw
  have hnext : ∀ {v : State}, (.next v : Out) = .next u → s.Bounded v → s.Bounded u := fun e hv => by
    cases e; exact hv
  have hdue : ∀ {b : Bool} {v : State}, s.Bounded v → s.Bounded (if b then v else t) := fun hv => by
    split
    exacts [hv, h]
  cases c with
  | denyListingExpiry x => exact hnext he (h.same rfl rfl rfl)
  | downlinkSend p =>
    unfold exec execDownlinkSend at he; dsimp only at he
    split at he
    · split at he
      · exact hnext he ((h.modPort p Port.afterSend fun _ =>
          ⟨fun hq => hq.sublist (List.drop_sublist ..), fun _ => voiceOk_nil⟩).same rfl rfl rfl)
      · exact hnext he (h.same rfl rfl rfl)
    · exact hnext he h
  | linkLost r => exact hnext he (hdue (hT.missStage _ _ h))
  | bridgeTimeout r => exact hnext he (hdue (hT.bridgeTimerStage _ h))
  | attachTimeout r => exact hnext he (hdue (hT.attachTimerStage _ h))
  | headsetDropped r => exact hnext he (hdue (hT.orphanStage _ h))
  | barTimerExpiry r a => exact hnext he (hT.modRecord _ _ h)
  | portIsolated p =>
    have hmarked : s.Bounded { t with isolationDue := vset t.isolationDue p false } := h.same rfl rfl rfl
    unfold exec execPortIsolated at he; dsimp only at he
    split at he
    · split at he
      exacts [hnext he (hmarked.isolatePort ..), hnext he (hmarked.isolatePort ..), hnext he hmarked, hnext he hmarked]
    · exact hnext he h
  | registrationIntake =>
    have hreport : ∀ (g : CycleNo) (v : State) (x : Report), s.Bounded v → s.Bounded (takeReport g v x) :=
      fun g v x hv => by
        have hlisted : ∀ l, s.Bounded { v with registrations := l } := fun _ => hv.same rfl rfl rfl
        have hfull : s.Bounded { v with fullReported := true } := hv.same rfl rfl rfl
        unfold takeReport; repeat' split
        exacts [hv, hlisted _, (hlisted _).post .., hv, hfull.post ..]
    unfold exec execRegistrationIntake at he; dsimp only at he
    split at he
    · exact hnext he h
    · exact hnext he (foldl_keeps (hreport _) _ (h.same rfl rfl rfl))
  | uplinkFrame p bytes =>
    have hchecked : ∀ v, (match parseUplink bytes with
        | none => (.next (t.bumpPort p .frameErrors) : Out)
        | some f => .next (Machine.placeFrame p f t)) = .next v → s.Bounded v := fun v hv => by
      split at hv <;> cases hv
      exacts [h.bumpPort .., h.placeFrame ..]
    unfold exec execUplinkFrame at he; dsimp only at he
    split at he
    exacts [hnext he h, hnext he (h.examineRecovery ..), hchecked u he, hchecked u he]
  | _ => cases hc

/-- Every command keeps the law. -/
theorem State.bounded_lawKept (s : State) : LawKept s.Bounded where
  reset := by
    obtain ⟨-, -, -, -, -, -, horders, hvoice, -, -, -, hparams, -⟩ := resetMeetsEveryLaw
    exact ⟨fun p => ⟨fun _ => horders p, fun _ => ⟨hvoice.room p, hvoice.distinct p⟩⟩, fun _ => hparams,
      fun _ n _ => hvoice.conceal n⟩
  pending _ h := h.same rfl rfl rfl
  served {o p own} hown t h := by
    rcases serve_cases o p own t with ⟨-, e⟩ | ⟨-, -, e⟩ | ⟨-, -, e⟩ <;> rw [e]
    · exact h.same (by simp) (by simp) (by simp)
    · exact h.same (by simp [State.refused]) (by simp [State.refused]) (by simp [State.refused])
    · exact (hown.bounded h).same (by simp) (by simp) (by simp)
  bumpCtl _ h := h.same rfl rfl rfl
  report l x h := by
    unfold State.report; split <;> exact h.same (by simp) (by simp) (by simp)
  distributeLane frame n h := h.distributeLane frame n
  takeControlSize h := by
    unfold takeControlSize; dsimp only
    split <;> exact h.same rfl rfl rfl
  timer _ h := h.same rfl rfl rfl
  post c k p i n d h := h.post c k p i n d
  renumbered {t} n h := h.trans ⟨fun p => by
    have hport : State.port { t with ports := vmap (Port.renumber n) t.ports } p = (t.port p).renumber n := vmap_get ..
    rw [hport]; exact ⟨id, id⟩, id, fun _ _ => id⟩
  close h := h.makePendingClose
  freezeTick h := by rw [freezeTick_eq]; exact h.same rfl rfl rfl
  ageRegistrations h := h.removeRegistrations _
  countDenials h := h.same rfl rfl rfl
  scheduleEvents h := h.same rfl rfl rfl
  transmit {t} h := by
    have hsent := h.sendLanes (List.finRange 64)
    unfold transmit; dsimp only
    generalize (sendLanes (List.finRange 64) t).2 = u at hsent ⊢
    exact hsent.same rfl rfl rfl
  holdRequests _ h := h.same rfl rfl rfl
  takeHoldRequest q h := h.takeHoldRequest q
  withinBlock hc he h := h.withinBlock hc he

end Sys2Proof.Machine

section
open Sys2Proof Sys2Proof.Machine

/-- Settles O6: every command keeps each order queue, each assembly and each conceal count lawful. -/
theorem portQueuesAndHoldsStayBounded : Obligations.PortQueuesAndHoldsStayBounded := by
  intro s t h
  have hkept : s.Bounded t := s.bounded_lawKept.step h (.refl s)
  have hassembly : s.VoiceOk → ∀ p, voiceOk (t.port p).voice := fun hs p =>
    (hkept.ports p).voice ⟨hs.room p, hs.distinct p⟩
  exact ⟨fun hs p => (hkept.ports p).orders (hs p), fun hparams hs =>
    ⟨fun p => (hassembly hs p).1, fun p => (hassembly hs p).2, fun n => hkept.conceal hparams n (hs.conceal n)⟩⟩

end
end

section
/-! The upstream control block (O18). -/

namespace Sys2Proof.Machine

/-! ### Queuing and placing responses (R142, R144) -/

/-- A response queued stands at the tail, and Hold is set at the Hold Trigger (R140, R142). -/
theorem State.respond_eq (s : State) (l : CtlLane) (x : Response) : s.respond l x = s.setLane l { s.lane l with
    queue := (s.lane l).queue ++ [x]
    hold := if s.params.holdTrigger ≤ (s.lane l).queue.length + 1 then true else (s.lane l).hold } := by
  unfold State.respond ControlLane.enqueue
  split <;> rename_i htrigger <;> simp [htrigger]

theorem Response.bytes_length (x : Response) : x.bytes.length = x.size := by
  unfold Response.bytes Response.size Response.header halfBytes
  split <;> simp; omega

theorem Response.flatMap_bytes_length (placed : List Response) :
    (placed.flatMap Response.bytes).length = (placed.map Response.size).sum := by
  simp only [List.length_flatMap, Response.bytes_length]

/-- The first response left does not fit behind those placed (R144). -/
theorem takeResponses_next {room : Nat} {q rest : List Response} {x : Response}
    (h : (takeResponses room q).2 = x :: rest) :
    room < ((takeResponses room q).1.map Response.size).sum + x.size := by
  induction q generalizing room with
  | nil => cases h
  | cons y ys ih =>
    simp only [takeResponses] at h ⊢
    split at h
    · rename_i hfits
      have := ih h
      simp only [if_pos hfits, List.map_cons, List.sum_cons]; omega
    · rename_i hfull
      cases h
      simp only [if_neg hfull, List.map_nil, List.sum_nil]; omega

/-! ### The control block (R143, Table 12-6) -/

/-- A run of at most 64 bytes as a block: zeros follow it. -/
theorem blockOf_toList {l : List Byte} (h : l.length ≤ 64) :
    (blockOf l).toList = l ++ List.replicate (64 - l.length) 0 := by
  show (l ++ List.replicate 64 0).take 64 = _
  rw [List.take_append, List.take_of_length_le h, List.take_replicate]
  congr 2; omega

/-- The number of a clock state (Table 12-6). -/
def ClockState.number : ClockState → Fin 3
  | .follow => 0
  | .holdover => 1
  | .localClock => 2

theorem ClockState.code_eq (x : ClockState) : x.code = byteOf x.number.val := by cases x <;> rfl

theorem packed_controlFlags : ∀ (hold shed : Bool) (clock : Fin 3) (events frozen requested : Bool),
    bit hold ||| (bit shed <<< 1) ||| (byteOf clock.val <<< 5) ||| ((bit events <<< 2) ||| (bit frozen <<< 3) |||
      (bit requested <<< 4)) = byteOf ((if hold then 1 else 0) + (if shed then 2 else 0) + 32 * clock.val +
        (if events then 4 else 0) + (if frozen then 8 else 0) + (if requested then 16 else 0)) := by decide

/-- Byte 0 of the primary lane's header: Hold, Shed, Attention, the freeze and the clock state (Table 12-6). -/
theorem controlByte0_primary (s : State) : controlByte0 s .primary =
    byteOf ((if s.primary.hold then 1 else 0) + (if s.primary.shed then 2 else 0) + 32 * s.timer.clock.number.val +
      (if s.events = [] then 0 else 4) + (if s.freeze.active then 8 else 0) + (if s.freeze.requested then 16 else 0)) := by
  have hpacked := packed_controlFlags s.primary.hold s.primary.shed s.timer.clock.number (decide (s.events ≠ []))
    s.freeze.active s.freeze.requested
  have hevents : (if decide (s.events ≠ []) = true then 4 else 0) = if s.events = [] then 0 else 4 := by
    by_cases h : s.events = [] <;> simp [h]
  rw [hevents, ← s.timer.clock.code_eq] at hpacked
  rw [← hpacked]
  simp only [controlByte0, State.lane, BitVec.or_assoc]

/-- Byte 0 of the secondary lane's header: Hold, Shed and the clock state alone (Table 12-6). -/
theorem controlByte0_secondary (s : State) : controlByte0 s .secondary = byteOf ((if s.secondary.hold then 1 else 0) +
    (if s.secondary.shed then 2 else 0) + 32 * s.timer.clock.number.val) := by
  have hpacked := packed_controlFlags s.secondary.hold s.secondary.shed s.timer.clock.number false false false
  rw [← s.timer.clock.code_eq] at hpacked
  simp only [controlByte0, State.lane]
  exact (BitVec.or_zero).symm.trans hpacked

/-- A class in bits 0 and 1 with a count above it. -/
theorem byteOf_or_shift {m : Nat} (hm : m < 4) (k : Nat) : byteOf m ||| (byteOf k <<< 2) = byteOf (m + 4 * k) := by
  have hsum : m + 4 * k = k <<< 2 ||| m := by
    rw [← Nat.shiftLeft_add_eq_or_of_lt (i := 2) hm k, Nat.shiftLeft_eq]; omega
  have hshift : byteOf k <<< 2 = byteOf (k <<< 2) := BitVec.eq_of_toNat_eq (by simp [byteOf, Nat.shiftLeft_eq])
  rw [hsum, hshift, BitVec.or_comm]
  exact BitVec.ofNat_or.symm

theorem EventClass.rank_lt (c : EventClass) : c.rank < 4 := by cases c <;> decide

theorem highestClass_lt (events : List Event) : highestClass events < 4 := by
  have hfold : ∀ (l : List Event) (m : Nat), m < 4 → l.foldl (fun m e => max m e.cls.rank) m < 4 := fun l => by
    induction l with
    | nil => exact fun _ hm => hm
    | cons e l ih => exact fun m hm => ih _ (max_lt hm e.cls.rank_lt)
  exact hfold events 0 (by decide)

/-- Byte 1 of the primary lane's header: the highest pending class and the event count (Table 12-6). -/
theorem controlByte1_primary (s : State) : controlByte1 s .primary =
    byteOf ((s.events.map (·.cls.rank)).foldl max 0 + 4 * s.events.length) := by
  have hclass : (s.events.map (·.cls.rank)).foldl max 0 = highestClass s.events := List.foldl_map
  rw [hclass]; exact byteOf_or_shift (highestClass_lt s.events) _

/-- The bytes of a control block whose responses fit it: the header, the responses, then zeros (R143, R144). -/
theorem buildControl_block (l : CtlLane) (s : State) :
    let placed := (takeResponses 60 (s.lane l).queue).1
    let body := placed.flatMap Response.bytes
    (buildControl l s).1.toList = [controlByte0 s l, controlByte1 s l] ++ [(s.lane l).shedTag, byteOf body.length] ++ body ++
      List.replicate (60 - body.length) 0 := by
  intro placed body
  have hroom : body.length ≤ 60 := by
    rw [Response.flatMap_bytes_length]; exact takeResponses_room 60 (s.lane l).queue
  have hblock : (buildControl l s).1 = blockOf (controlBytes s l placed) := rfl
  have hbytes : controlBytes s l placed = [controlByte0 s l, controlByte1 s l, (s.lane l).shedTag, byteOf body.length] ++ body := rfl
  have hlength : (controlBytes s l placed).length = 4 + body.length := by rw [hbytes]; simp; omega
  rw [hblock, blockOf_toList (by omega), hlength, hbytes, show 64 - (4 + body.length) = 60 - body.length by omega]
  rfl

/-- A lane of the control region is sent Fresh with the control block of its control lane (R92). -/
theorem sendLane_control {n : LaneId} {l : CtlLane} {s : State} (h : l = .primary ∧ n = 63 ∧ 1 ≤ s.partition.control ∨
    l = .secondary ∧ n = 62 ∧ 2 ≤ s.partition.control) :
    sendLane n s = (⟨.fresh, (buildControl l s).1⟩, (buildControl l s).2) := by
  have hin : s.isControl n = true := by
    unfold State.isControl
    rcases h with ⟨-, rfl, h⟩ | ⟨-, rfl, h⟩ <;> simp <;> omega
  have hlane : ctlLaneOf n = l := by rcases h with ⟨rfl, rfl, -⟩ | ⟨rfl, rfl, -⟩ <;> rfl
  unfold sendLane
  rw [if_pos hin, hlane]

/-- Hold is cleared when no response is left (R142). -/
theorem buildControl_state (l : CtlLane) (s : State) :
    let left := (takeResponses 60 (s.lane l).queue).2
    (buildControl l s).2 = s.setLane l { s.lane l with
      queue := left, hold := if left = [] then false else (s.lane l).hold } := by
  intro left
  have hhold : ((s.lane l).hold && decide (left ≠ [])) = if left = [] then false else (s.lane l).hold := by
    by_cases h : left = [] <;> simp [h]
  rw [← hhold]; rfl

end Sys2Proof.Machine

section
open Sys2Proof Sys2Proof.Machine

/-- Settles O18: the queue is split where the next response would pass 60 bytes, and the block is the header, those
placed, and zeros. -/
theorem controlBlockCarriesTheResponses : Obligations.ControlBlockCarriesTheResponses := by
  intro l s c bytes body clock flags own
  have hbytes : bytes = Response.bytes := rfl
  have hbody : ∀ placed, (body placed).length = (placed.map Response.size).sum := Response.flatMap_bytes_length
  have hclock : clock = s.timer.clock.number.val := by dsimp only [clock]; cases s.timer.clock <;> rfl
  have hown : [controlByte0 s l, controlByte1 s l] = own := by
    dsimp only [own, flags]
    rw [hclock]
    cases l with
    | primary => rw [controlByte0_primary, controlByte1_primary]; rfl
    | secondary => rw [controlByte0_secondary]; rfl
  refine ⟨s.respond_eq l, (takeResponses 60 c.queue).1, (takeResponses 60 c.queue).2, (buildControl l s).1,
    takeResponses_append 60 c.queue, ?_, fun x rest hleft => ?_, ?_, fun n hn => ?_⟩
  · rw [hbody]; exact takeResponses_room 60 c.queue
  · rw [hbody, hbytes, Response.bytes_length]; exact takeResponses_next hleft
  · rw [← hown]; exact buildControl_block l s
  · rw [sendLane_control hn, buildControl_state]

end
end

section
/-! Voice selected, written to its hold and sent (O54). -/

namespace Sys2Proof.Machine

/-! ### Voice selection (R86, R87) -/

/-- The copy of a Voice burst. -/
def Evidence.copy (e : Evidence) (b : Block) : Copy := ⟨e.port, e.burst.level, b⟩

/-- A burst is a clean Voice burst with block b from an antenna that a record names (R86). -/
def Evidence.IsCopy (e : Evidence) (named : Record) (b : Block) : Prop :=
  e.burst.kind = .voice b ∧ e.burst.damaged = false ∧ (named.serving = some e.port ∨ named.target = some e.port)

theorem cleanCopies_cons {named : Record} {e : Evidence} {b : Block} (h : e.IsCopy named b) (ev : List Evidence) :
    cleanCopies named (e :: ev) = e.copy b :: cleanCopies named ev := by
  obtain ⟨hkind, hclean, hnamed⟩ := h
  unfold cleanCopies
  rw [List.filterMap_cons, hkind]
  simp [Record.pinned, hnamed, hclean, Evidence.copy]

theorem cleanCopies_append (named : Record) (ev ev' : List Evidence) :
    cleanCopies named (ev ++ ev') = cleanCopies named ev ++ cleanCopies named ev' := List.filterMap_append

/-- The copies are those of the clean Voice bursts from the antennas the record names. -/
theorem mem_cleanCopies {named : Record} {ev : List Evidence} {x : Copy} :
    x ∈ cleanCopies named ev ↔ ∃ e ∈ ev, ∃ b, e.IsCopy named b ∧ x = e.copy b := by
  unfold cleanCopies
  rw [List.mem_filterMap]
  refine exists_congr fun e => and_congr_right fun _ => ?_
  unfold Evidence.IsCopy Evidence.copy
  cases e.burst.kind with
  | voice b =>
    dsimp only
    rw [Option.ite_none_right_eq_some, Bool.and_eq_true, Record.pinned_iff, Bool.not_eq_true', Option.some_inj]
    constructor
    · rintro ⟨⟨hnamed, hclean⟩, rfl⟩
      exact ⟨b, ⟨rfl, hclean, hnamed⟩, rfl⟩
    · rintro ⟨c, ⟨hc, hclean, hnamed⟩, rfl⟩
      cases hc
      exact ⟨⟨hnamed, hclean⟩, rfl⟩
  | monitor => simp
  | register => simp

/-- Copy x, standing earlier, gives way to y (R87). -/
def Copy.yields (x y : Copy) (serving : Option PortId) : Prop :=
  x.level < y.level ∨ x.level = y.level ∧ x.port ≠ y.port ∧ serving = some y.port

/-- Copy x stands against y, standing later (R87). -/
def Copy.stands (x y : Copy) (serving : Option PortId) : Prop :=
  y.level < x.level ∨ y.level = x.level ∧ (y.port = x.port ∨ serving ≠ some y.port)

theorem betterCopy_of_yields {x y : Copy} {serving : Option PortId} (h : x.yields y serving) :
    betterCopy serving x y = y := by
  unfold betterCopy
  rcases h with h | ⟨hlevel, hport, hserving⟩
  · rw [if_pos h]
  · rw [if_neg hlevel.not_lt, if_pos ⟨hlevel, hport.symm, hserving⟩]

theorem betterCopy_of_stands {x y : Copy} {serving : Option PortId} (h : x.stands y serving) :
    betterCopy serving x y = x := by
  unfold betterCopy
  rcases h with h | ⟨hlevel, hport⟩
  · rw [if_neg h.not_gt, if_neg fun hw => h.ne hw.1.symm]
  · rw [if_neg hlevel.not_gt, if_neg]
    rintro ⟨-, hne, hserving⟩
    exact hport.elim hne fun h => h hserving

theorem foldl_betterCopy_mem (serving : Option PortId) (l : List Copy) (x : Copy) :
    l.foldl (betterCopy serving) x ∈ x :: l := by
  induction l generalizing x with
  | nil => simp
  | cons y l ih =>
    have hone : betterCopy serving x y = x ∨ betterCopy serving x y = y := by
      unfold betterCopy; repeat' split
      exacts [.inr rfl, .inr rfl, .inl rfl]
    rw [List.foldl_cons]
    rcases hone with e | e <;> rw [e]
    · exact (List.mem_cons.mp (ih x)).elim (fun h => by simp [h]) fun h => by simp [h]
    · exact List.mem_cons_of_mem _ (ih y)

/-- The copy to which those before it yield, and which stands against those behind it, is selected (R87). -/
theorem selectCopy_eq {named : Record} {ev : List Evidence} {xs ys : List Copy} {c : Copy}
    (h : cleanCopies named ev = xs ++ c :: ys) (hbefore : ∀ x ∈ xs, x.yields c named.serving)
    (hafter : ∀ y ∈ ys, c.stands y named.serving) : selectCopy named ev = some c := by
  have hrest : ys.foldl (betterCopy named.serving) c = c := by
    clear h
    induction ys with
    | nil => rfl
    | cons y ys ih =>
      rw [List.foldl_cons, betterCopy_of_stands (hafter y (by simp))]
      exact ih fun z hz => hafter z (by simp [hz])
  unfold selectCopy
  rw [h]
  cases xs with
  | nil => exact congrArg some hrest
  | cons x xs =>
    have hyields := hbefore _ (foldl_betterCopy_mem named.serving xs x)
    simp only [List.cons_append, List.foldl_append, List.foldl_cons, betterCopy_of_yields hyields, hrest]

theorem selectCopy_none {named : Record} {ev : List Evidence} (h : ∀ e ∈ ev, ∀ b, ¬e.IsCopy named b) :
    selectCopy named ev = none := by
  have hempty : cleanCopies named ev = [] := List.eq_nil_iff_forall_not_mem.mpr fun x hx => by
    obtain ⟨e, he, b, hb, -⟩ := mem_cleanCopies.mp hx
    exact h e he b hb
  unfold selectCopy; rw [hempty]

/-- Without a copy, and for a record that is not carried, stage 4 hands nothing over. -/
theorem voiceStage_idle {named : Record} {ev : List Evidence} {r : RecordIx} {s : State}
    (h : ¬((s.record r).state = .active ∨ (s.record r).state = .bridging) ∨ ∀ e ∈ ev, ∀ b, ¬e.IsCopy named b) :
    voiceStage named ev r s = s := by
  unfold voiceStage; dsimp only
  split
  · rename_i hcarried
    rw [selectCopy_none (h.resolve_left (not_not.mpr ((s.record r).carried_iff.mp hcarried)))]
  · rfl

theorem voiceStage_selected {named : Record} {ev : List Evidence} {r : RecordIx} {s : State} {c : Copy} {n : LaneId}
    (hcarried : (s.record r).state = .active ∨ (s.record r).state = .bridging) (hlane : (s.record r).lane = some n)
    (hc : selectCopy named ev = some c) : voiceStage named ev r s =
      { s with holdRequests := s.holdRequests ++ [⟨n, r, (s.record r).id.getD 0, c.block⟩] } := by
  unfold voiceStage; dsimp only
  rw [if_pos ((s.record r).carried_iff.mpr hcarried), hc, hlane]; rfl

/-! ### Hold writes (R88, R90) -/

theorem State.holdValid_iff (s : State) (q : HoldRequest) :
    s.holdValid q = true ↔ s.binding q.lane = some q.index ∧ (s.record q.index).id = some q.id := by
  simp [State.holdValid]

theorem execHoldWrite_cons {s : State} {q : HoldRequest} {rest : List HoldRequest} (h : s.holdRequests = q :: rest) :
    exec .holdWrite s = .next (takeHoldRequest { s with holdRequests := rest } q) := by
  show execHoldWrite s = _
  unfold execHoldWrite; rw [h]

/-- A request whose lane is still bound to its record, which still holds its headset, is carried out (R88, R90). -/
theorem takeHoldRequest_valid {s : State} {q : HoldRequest} (hbound : s.binding q.lane = some q.index)
    (hheld : (s.record q.index).id = some q.id) :
    let stored := s.setHold q.lane ⟨q.block, true, (s.holdOf q.lane).conceal⟩
    takeHoldRequest s q =
      if (s.holdOf q.lane).fresh then stored.bumpLane q.lane .uplinkOverwrites else stored :=
  if_pos ((s.holdValid_iff q).mpr ⟨hbound, hheld⟩)

theorem takeHoldRequest_invalid {s : State} {q : HoldRequest}
    (h : s.binding q.lane ≠ some q.index ∨ (s.record q.index).id ≠ some q.id) : takeHoldRequest s q = s :=
  if_neg fun hv => by
    obtain ⟨hbound, hheld⟩ := (s.holdValid_iff q).mp hv
    exact h.elim (· hbound) (· hheld)

/-! ### A voice lane at the transmit (R92, R93) -/

theorem State.isControl_of_lt {s : State} {n : LaneId} (h : n.val < 64 - s.partition.control) :
    s.isControl n = false := by
  simp only [State.isControl, decide_eq_false_iff_not]; omega

theorem sendLane_idle {s : State} {n : LaneId} (hn : n.val < 64 - s.partition.control)
    (h : s.params.allCall = some n ∨ s.binding n = none) : sendLane n s = (⟨.idle, zeroBlock⟩, s) := by
  unfold sendLane
  rw [if_neg (by simp [State.isControl_of_lt hn])]
  split
  · rfl
  · rename_i hall
    rw [h.resolve_left hall]

theorem sendLane_bound {s : State} {n : LaneId} (hn : n.val < 64 - s.partition.control)
    (hall : s.params.allCall ≠ some n) (hbound : s.binding n ≠ none) : sendLane n s = sendBound n s := by
  unfold sendLane
  rw [if_neg (by simp [State.isControl_of_lt hn]), if_neg hall]
  cases h : s.binding n with
  | none => exact absurd h hbound
  | some r => rfl

theorem sendBound_fresh {s : State} {n : LaneId} (h : (s.holdOf n).fresh = true) :
    sendBound n s = (⟨.fresh, (s.holdOf n).block⟩, s.setHold n ⟨(s.holdOf n).block, false, 0⟩) := if_pos h

theorem sendBound_concealed {s : State} {n : LaneId} (h : (s.holdOf n).fresh = false)
    (hbelow : (s.holdOf n).conceal < s.params.concealLimit) : sendBound n s = (⟨.concealed, (s.holdOf n).block⟩,
      (s.setHold n ⟨(s.holdOf n).block, false, (s.holdOf n).conceal + 1⟩).bumpLane n .concealedBlocks) := by
  unfold sendBound; dsimp only
  rw [if_neg (by simp [h]), if_pos hbelow, h]

theorem sendBound_silence {s : State} {n : LaneId} (h : (s.holdOf n).fresh = false)
    (hreached : s.params.concealLimit ≤ (s.holdOf n).conceal) :
    sendBound n s = (⟨.silence, zeroBlock⟩, s.bumpLane n .silenceBlocks) := by
  unfold sendBound; dsimp only
  rw [if_neg (by simp [h]), if_neg (by omega)]

end Sys2Proof.Machine

section
open Sys2Proof Sys2Proof.Machine

/-- Settles O54: the copies before the selected one yield to it and it stands against those behind it; a request is taken
by what its lane and record hold; a lane is sent by its hold. -/
theorem holdsAreWrittenAndSent : Obligations.HoldsAreWrittenAndSent := by
  refine ⟨fun r named ev s => ⟨voiceStage_idle, fun before after e b n hcarried hlane hev hcopy hbefore hafter => ?_⟩,
    fun s => ⟨fun hnone => ?_, fun q rest hs => ⟨fun hbound hheld => ?_, fun hstale => ?_⟩⟩,
    fun n s hn => ⟨sendLane_idle hn, fun hall hbound => ?_⟩⟩
  · refine voiceStage_selected (c := e.copy b) hcarried hlane (selectCopy_eq
      (by rw [hev, cleanCopies_append, cleanCopies_cons hcopy]) (fun x hx => ?_) fun y hy => ?_)
    · obtain ⟨f, hf, d, hd, rfl⟩ := mem_cleanCopies.mp hx
      exact hbefore f hf d hd
    · obtain ⟨f, hf, d, hd, rfl⟩ := mem_cleanCopies.mp hy
      exact hafter f hf d hd
  · show execHoldWrite s = _
    unfold execHoldWrite; rw [hnone]
  · rw [execHoldWrite_cons hs]; exact congrArg _ (takeHoldRequest_valid hbound hheld)
  · rw [execHoldWrite_cons hs]; exact congrArg _ (takeHoldRequest_invalid hstale)
  · rw [sendLane_bound hn hall hbound]
    exact ⟨sendBound_fresh, sendBound_concealed, sendBound_silence⟩

end
end

section
/-! The downlink send (O56). -/

namespace Sys2Proof.Machine

/-! ### Voice records in ascending order of lane (R98) -/

theorem insertVoice_perm (v : VoiceRecord) (l : List VoiceRecord) : (insertVoice v l).Perm (l ++ [v]) := by
  induction l with
  | nil => exact .refl _
  | cons x xs ih =>
    simp only [insertVoice]
    split
    · exact (List.perm_append_singleton v (x :: xs)).symm
    · exact ih.cons x

/-- Inserting keeps the ascending order of lanes. -/
theorem insertVoice_sorted (v : VoiceRecord) {l : List VoiceRecord} (h : l.Pairwise fun x y => x.lane ≤ y.lane) :
    (insertVoice v l).Pairwise fun x y => x.lane ≤ y.lane := by
  induction l with
  | nil => simp [insertVoice]
  | cons x xs ih =>
    obtain ⟨hx, hxs⟩ := List.pairwise_cons.mp h
    simp only [insertVoice]
    split
    · rename_i hlt
      refine List.pairwise_cons.mpr ⟨fun y hy => ?_, h⟩
      rcases List.mem_cons.mp hy with rfl | hy
      · exact hlt.le
      · exact hlt.le.trans (hx y hy)
    · rename_i hge
      refine List.pairwise_cons.mpr ⟨fun y hy => ?_, ih hxs⟩
      rcases List.mem_append.mp ((insertVoice_perm v xs).subset hy) with hy | hy
      · exact hx y hy
      · rw [List.mem_singleton.mp hy]; exact not_lt.mp hge

/-- In a list in order, a record inserted stands behind those of its own lane, and the other lanes are as they were. -/
theorem insertVoice_filter (v : VoiceRecord) (n : LaneId) {l : List VoiceRecord}
    (h : l.Pairwise fun x y => x.lane ≤ y.lane) :
    (insertVoice v l).filter (fun x => x.lane = n) = (l ++ [v]).filter fun x => x.lane = n := by
  induction l with
  | nil => rfl
  | cons x xs ih =>
    obtain ⟨hx, hxs⟩ := List.pairwise_cons.mp h
    simp only [insertVoice]
    split
    · rename_i hlt
      by_cases hn : v.lane = n
      · have hnone : (x :: xs).filter (fun y => y.lane = n) = [] :=
          List.filter_eq_nil_iff.mpr fun y hy => by
            have hy' : x.lane ≤ y.lane := (List.mem_cons.mp hy).elim (fun e => e ▸ le_refl _) (hx y)
            simpa [← hn] using (hlt.trans_le hy').ne'
        rw [List.filter_append, hnone, List.filter_cons, hnone]; simp [hn]
      · simp only [List.filter_append, List.filter_cons, List.filter_nil, hn, decide_false, Bool.false_eq_true, if_false,
          List.append_nil]
    · rw [List.filter_cons, ih hxs, List.cons_append, List.filter_cons]

/-- Sorting by lane keeps the records, puts the lanes in order, and keeps the order within a lane. -/
theorem sortVoice_spec (vs : List VoiceRecord) : (sortVoice vs).Perm vs ∧
    ((sortVoice vs).Pairwise fun x y => x.lane ≤ y.lane) ∧
    ∀ n, (sortVoice vs).filter (fun v => v.lane = n) = vs.filter fun v => v.lane = n := by
  induction vs using List.reverseRecOn with
  | nil => exact ⟨.refl _, .nil, fun _ => rfl⟩
  | append_singleton vs v ih =>
    obtain ⟨hperm, hsorted, hstable⟩ := ih
    have hlast : sortVoice (vs ++ [v]) = insertVoice v (sortVoice vs) := by simp [sortVoice]
    rw [hlast]
    exact ⟨(insertVoice_perm v _).trans (hperm.append_right [v]), insertVoice_sorted v hsorted, fun n => by
      rw [insertVoice_filter v n hsorted, List.filter_append, List.filter_append, hstable]⟩

/-! ### The send (R121, R125) -/

theorem execDownlinkSend_idle {p : PortId} {s : State} (h : s.sendDue.get p = false) :
    execDownlinkSend p s = .next s := by
  unfold execDownlinkSend
  rw [if_neg (by simp [h])]

/-- A port out of service only uses up its send (R125). -/
theorem execDownlinkSend_down {p : PortId} {s : State} (h : s.sendDue.get p = true)
    (hdown : (s.port p).state = .off ∨ (s.port p).state = .isolated) :
    execDownlinkSend p s = .next { s with sendDue := vset s.sendDue p false } := by
  unfold execDownlinkSend
  rw [if_pos h]
  rcases hdown with hstate | hstate <;> simp [hstate]

theorem execDownlinkSend_sent {p : PortId} {s : State} (h : s.sendDue.get p = true)
    (hup : (s.port p).state = .active ∨ (s.port p).state = .dormant) :
    execDownlinkSend p s = .next { s.setPort p (s.port p).afterSend with
      sendDue := vset s.sendDue p false
      downlinkOut := vset s.downlinkOut p (downlinkBytes s.timer.cycle (downlinkRecords (s.port p))) } := by
  unfold execDownlinkSend
  rw [if_pos h]; dsimp only
  rw [if_pos hup]; rfl

theorem Order.bytes_eq (x : Order) :
    x.bytes = (match x.kind with | .acquire => (0x13 : Byte) | .drop => 0x14 | .deny => 0x15) :: idBytes x.id := by
  unfold Order.bytes; cases x.kind <;> rfl

theorem allCall_toList (x : Option Block) : x.toList.map allCallBytes =
    match x with
    | none => []
    | some b => [[0x12, 0xFF, 0xFF, 0xFF] ++ b.toList] := by
  cases x <;> rfl

end Sys2Proof.Machine

section
open Sys2Proof Sys2Proof.Machine

/-- Settles O56: the records sent are the head of the queue, the All-Call record and the Voice records sorted by lane. -/
theorem downlinkSendEmptiesTheAssembly : Obligations.DownlinkSendEmptiesTheAssembly := by
  intro p s q sent
  refine ⟨execDownlinkSend_idle, execDownlinkSend_down, fun hdue hup => ?_⟩
  obtain ⟨hperm, hsorted, hstable⟩ := sortVoice_spec q.voice
  refine ⟨_, sortVoice q.voice, execDownlinkSend_sent hdue hup, hperm, hsorted, hstable, ?_, fun a => ?_⟩
  · intro order records body
    have hrecords : downlinkRecords (s.port p) = records := by
      have horders : Order.bytes = order := funext Order.bytes_eq
      dsimp only [records]
      rw [← horders]
      unfold downlinkRecords
      rw [allCall_toList]; rfl
    have hbytes : downlinkBytes s.timer.cycle (downlinkRecords (s.port p)) = body ++ halfBytes (crc16 body) := by
      rw [hrecords]; rfl
    rw [hbytes]; rfl
  · exact State.setPort_port s p a q.afterSend

end
end

section
/-! Downstream voice placed where its record is carried (O55). -/

namespace Sys2Proof.Machine

/-! ### A voice lane of a downstream frame (R96, Table 12-4) -/

/-- The status of a lane, two bits of its byte, is Voice (Table 12-4). -/
theorem frameIsVoice_iff (frame : List Byte) (n : LaneId) : frameIsVoice frame n = true ↔
    (frame.getD (3 + n.val / 4) 0).toNat / 4 ^ (n.val % 4) % 4 = 1 := by
  have hmask : ∀ k, k &&& 3 = k % 4 := fun k => Nat.and_two_pow_sub_one_eq_mod k 2
  have hpow : 4 ^ (n.val % 4) = 2 ^ (2 * (n.val % 4)) := (pow_mul 2 2 _).symm
  unfold frameIsVoice frameStatus byteAt
  rw [decide_eq_true_eq, ← BitVec.toNat_inj, BitVec.toNat_and, BitVec.toNat_ushiftRight, Nat.shiftRight_eq_div_pow, hpow]
  exact Eq.congr_left (hmask _)

/-- The block of a lane, read back. -/
theorem blockOf_eq {l : List Byte} {b : Block} (h : l = b.toList) : blockOf l = b := by
  have hlength : l.length = 64 := by rw [h]; simp
  refine Vector.toList_inj.mp ?_
  rw [blockOf_toList hlength.le, hlength, ← h]; simp

/-! ### Placing a Voice record (R98) -/

theorem placeVoice_held (v : VoiceRecord) (held : List VoiceRecord) : (placeVoice v held).1 =
    if held.any (fun w => decide (w.id = v.id)) = true then held.filter (fun w => w.id ≠ v.id) ++ [v]
      else if held.length < 12 then held ++ [v] else held := by
  unfold placeVoice
  simp only [apply_ite Prod.fst]
  rfl

theorem placeVoice_lost (v : VoiceRecord) (held : List VoiceRecord) : (placeVoice v held).2 =
    (held.any (fun w => decide (w.id = v.id)) || decide (12 ≤ held.length)) := by
  unfold placeVoice
  split
  · rename_i hknown; simp [hknown]
  · rename_i hnew
    split
    · rename_i hroom
      simp [hnew, show held.length < 12 from hroom]
    · rename_i hfull
      simp [hnew, show 12 ≤ held.length from Nat.not_lt.mp hfull]

/-- A block is lost when v is placed at port p (R98). -/
def State.losesBlock (s : State) (v : VoiceRecord) (p : PortId) : Bool := (placeVoice v (s.port p).voice).2

/-- Port q with a Voice record placed. -/
def Port.placed (q : Port) (v : VoiceRecord) : Port := { q with voice := (placeVoice v q.voice).1 }

theorem placeAt_port (p q : PortId) (v : VoiceRecord) (s : State) :
    (placeAt p v s).port q = if q = p then (s.port p).placed v else s.port q := by
  unfold placeAt; dsimp only
  split
  · rw [State.bumpLane_port]; exact s.modPort_port p q _
  · exact s.modPort_port p q _

theorem placeAt_frame (p : PortId) (v : VoiceRecord) (s : State) : placeAt p v s =
    { s with ports := (placeAt p v s).ports, laneCounters := (placeAt p v s).laneCounters } := by
  unfold placeAt; dsimp only
  split <;> rfl

theorem placeAt_laneCounters (p : PortId) (v : VoiceRecord) (s : State) (m : LaneId) (k : Fin 4) :
    ((placeAt p v s).laneCounters.get m).get k =
      if s.losesBlock v p = true ∧ m = v.lane ∧ k = LaneCounter.downlinkOverwrites.index then
        satInc ((s.laneCounters.get m).get k) else (s.laneCounters.get m).get k := by
  unfold placeAt State.losesBlock; dsimp only
  split
  · rename_i hlost
    simp only [State.bumpLane, State.modPort_laneCounters, vset_get, hlost, true_and]
    split
    · rename_i hm; subst hm
      simp only [vset_get, true_and]
      split
      · rename_i hk; rw [hk]
      · rfl
    · rename_i hm; simp [hm]
  · rename_i hkept; simp [hkept]

/-- A Voice record placed at each port of a list without repetition: each port takes it, and Downlink Overwrites counts
the blocks lost (R97, R98). -/
theorem foldl_placeAt {ps : List PortId} (hps : ps.Nodup) (v : VoiceRecord) (s : State) :
    let t := ps.foldl (fun u p => placeAt p v u) s
    t = { s with ports := t.ports, laneCounters := t.laneCounters } ∧
      (∀ q, t.port q = if q ∈ ps then (s.port q).placed v else s.port q) ∧
      ∀ m k, (t.laneCounters.get m).get k = if m = v.lane ∧ k = LaneCounter.downlinkOverwrites.index then
        satInc^[(ps.filter (s.losesBlock v)).length] ((s.laneCounters.get m).get k) else (s.laneCounters.get m).get k := by
  induction ps generalizing s with
  | nil => exact ⟨rfl, fun _ => rfl, fun m k => by simp⟩
  | cons p ps ih =>
    obtain ⟨hp, hps⟩ := List.nodup_cons.mp hps
    obtain ⟨hframe, hports, hcounters⟩ := ih hps (placeAt p v s)
    have hlost : ps.filter ((placeAt p v s).losesBlock v) = ps.filter (s.losesBlock v) :=
      List.filter_congr fun q hq => by
        have hne : q ≠ p := by rintro rfl; exact hp hq
        unfold State.losesBlock; rw [placeAt_port, if_neg hne]
    refine ⟨?_, fun q => ?_, fun m k => ?_⟩
    · have hfirst := placeAt_frame p v s
      rw [List.foldl_cons]
      generalize ps.foldl (fun u p => placeAt p v u) (placeAt p v s) = t at hframe ⊢
      rw [hfirst] at hframe
      exact hframe
    · rw [List.foldl_cons, hports, placeAt_port]
      by_cases hq : q = p
      · subst hq; simp [hp]
      · simp [hq]
    · rw [List.foldl_cons, hcounters, hlost, placeAt_laneCounters]
      by_cases hmk : m = v.lane ∧ k = LaneCounter.downlinkOverwrites.index
      · rw [if_pos hmk, if_pos hmk, List.filter_cons]
        by_cases hl : s.losesBlock v p = true
        · rw [if_pos ⟨hl, hmk⟩, if_pos hl, List.length_cons, Function.iterate_succ_apply]
        · rw [if_neg fun h => hl h.1, if_neg hl]
      · rw [if_neg hmk, if_neg hmk, if_neg fun h => hmk h.2]

/-! ### Where a record is carried (R97) -/

/-- The ports that carry a record's downlink voice: its serving antenna, and its target once accepted (R97). -/
def Record.carriers (rd : Record) : List PortId :=
  (if rd.state = .active ∨ rd.state = .bridging then rd.serving.toList else []) ++
    if (rd.state = .bridging ∨ rd.state = .attaching) ∧ rd.accepted then rd.target.toList else []

theorem distributeBound_eq (r : RecordIx) (n : LaneId) (b : Block) (s : State) : distributeBound r n b s =
    (s.record r).carriers.foldl (fun u p => placeAt p ⟨(s.record r).headset, n, b⟩ u) s := by
  have hplace : ∀ (p : Option PortId) v (u : State), placeAt? p v u = p.toList.foldl (fun u p => placeAt p v u) u :=
    fun p v u => by cases p <;> rfl
  unfold distributeBound Record.carriers; dsimp only
  rw [List.foldl_append]
  simp only [hplace]
  split <;> split <;> rfl

/-- In each state of a record its carriers are the antennas R97 names, each once. -/
theorem Record.shapeOk.carriers {rd : Record} (h : rd.shapeOk) : rd.carriers.Nodup ∧
    ∀ p, p ∈ rd.carriers ↔ rd.serving = some p ∨ rd.target = some p ∧ rd.accepted = true := by
  unfold Record.shapeOk at h
  unfold Record.carriers
  cases hstate : rd.state with
  | free => rw [hstate] at h; subst h; simp [Record.free]
  | searching =>
    rw [hstate] at h
    obtain ⟨-, -, hserving, htarget, -⟩ := h
    simp [hserving, htarget]
  | attaching =>
    rw [hstate] at h
    obtain ⟨-, -, hserving, -⟩ := h
    simp only [hserving]
    cases rd.accepted <;> cases rd.target <;> simp [eq_comm]
  | active =>
    rw [hstate] at h
    obtain ⟨-, -, -, htarget, -⟩ := h
    simp only [htarget]
    cases rd.serving with
    | none => simp
    | some a => simpa using fun p => eq_comm (a := p) (b := a)
  | bridging =>
    rw [hstate] at h
    obtain ⟨-, -, hserving, htarget, hne, -⟩ := h
    obtain ⟨a, ha⟩ := Option.isSome_iff_exists.mp hserving
    obtain ⟨t, ht⟩ := Option.isSome_iff_exists.mp htarget
    have hat : a ≠ t := fun e => hne (by rw [ha, ht, e])
    simp only [ha, ht]
    cases rd.accepted <;> exact ⟨by simp [hat], fun p => by simp [eq_comm]⟩

/-! ### Distribution of one lane (R96, R99) -/

theorem distributeLane_idle {frame : List Byte} {n : LaneId} {s : State} (h : frameIsVoice frame n = false) :
    distributeLane frame s n = s := by
  unfold distributeLane; rw [if_pos (by simp [h])]

/-- A voice lane in the voice regions whose status is Voice goes to every port, to its record or nowhere (R96). -/
theorem distributeLane_voice {frame : List Byte} {n : LaneId} {b : Block} {s : State}
    (hn : n.val < 64 - s.partition.control) (hv : frameIsVoice frame n = true) (hb : frameBlock frame n = b.toList) :
    distributeLane frame s n = if s.params.allCall = some n then distributeAllCall b s else
      match s.binding n with
      | none => s
      | some r => distributeBound r n b s := by
  unfold distributeLane
  rw [if_neg (by simp [State.isControl_of_lt hn, hv]), blockOf_eq hb] <;> rfl

theorem distributeAllCall_port (b : Block) (s : State) (p : PortId) : (distributeAllCall b s).port p =
    if (s.port p).state = .active then { s.port p with allCall := some b } else s.port p := vmap_get ..

end Sys2Proof.Machine

section
open Sys2Proof Sys2Proof.Machine

/-- Settles O55: a bound lane's block is placed at each carrier of its record, which are the antennas R97 names. -/
theorem voiceIsPlacedWhereTheRecordIsCarried : Obligations.VoiceIsPlacedWhereTheRecordIsCarried := by
  intro frame n b s hn hrecords hcounters hb voice
  have hvoice : frameIsVoice frame n = true ↔ voice := frameIsVoice_iff frame n
  refine ⟨fun h => distributeLane_idle (Bool.eq_false_iff.mpr fun hv => h (hvoice.mp hv)), fun h hall hbound => ?_,
    fun h hall => ⟨distributeAllCall b s, ?_, rfl, distributeAllCall_port b s⟩, fun r x h hall hbound hx => ?_⟩
  · rw [distributeLane_voice hn (hvoice.mpr h) hb, if_neg hall, hbound]
  · rw [distributeLane_voice hn (hvoice.mpr h) hb, if_pos hall]
  intro carried held known lost
  refine ⟨distributeBound r n b s, by rw [distributeLane_voice hn (hvoice.mpr h) hb, if_neg hall, hbound], ?_⟩
  obtain ⟨hnodup, hmem⟩ := (hrecords.shape r).carriers
  have hheadset : (s.record r).headset = x := by simp [Record.headset, hx]
  have hcarried : ∀ p, p ∈ (s.record r).carriers ↔ carried p = true := fun p => by
    rw [hmem]; exact (decide_eq_true_iff).symm
  have hloses : ∀ p, s.losesBlock ⟨x, n, b⟩ p = (known p || decide (12 ≤ (held p).length)) := fun p =>
    placeVoice_lost ⟨x, n, b⟩ (held p)
  have hcount : ((s.record r).carriers.filter (s.losesBlock ⟨x, n, b⟩)).length = lost.length := by
    refine List.Perm.length_eq ((List.perm_ext_iff_of_nodup (hnodup.filter _) ((List.nodup_finRange 24).filter _)).mpr
      fun p => ?_)
    simp only [List.mem_filter, List.mem_finRange, true_and, hcarried, hloses, Bool.and_eq_true]
  rw [distributeBound_eq, hheadset]
  obtain ⟨hframe, hports, hcounts⟩ := foldl_placeAt hnodup ⟨x, n, b⟩ s
  refine ⟨hframe, fun p => ?_, fun m k => ?_⟩
  · rw [hports]
    simp only [hcarried, Port.placed, placeVoice_held]
    rfl
  · rw [hcounts, hcount]
    split
    · exact satInc_iterate _ _ (hcounters (.lane m k))
    · rfl

end
end

section
/-! A downstream arrival taken whole (O44). -/

namespace Sys2Proof.Machine

/-! ### The distribution of an arrival (R96) -/

/-- From u to v the ports and the lanes' counters alone have changed. -/
def State.Distributed (u v : State) : Prop := v = { u with ports := v.ports, laneCounters := v.laneCounters }

theorem State.Distributed.refl (u : State) : u.Distributed u := rfl

theorem State.Distributed.trans {u v w : State} (h : u.Distributed v) (h' : v.Distributed w) : u.Distributed w := by
  unfold State.Distributed at h h' ⊢
  rw [h] at h'
  exact h'

theorem distributeLane_distributed (frame : List Byte) (s : State) (n : LaneId) :
    s.Distributed (distributeLane frame s n) := by
  unfold distributeLane
  repeat' split
  · exact .refl s
  · rfl
  · exact .refl s
  · rw [distributeBound_eq]
    exact foldl_keeps (P := s.Distributed) (fun u p hu => hu.trans (placeAt_frame p _ u)) _ (.refl s)

theorem distribute_distributed (frame : List Byte) (s : State) : s.Distributed (distribute frame s) :=
  foldl_keeps (P := s.Distributed) (fun u n hu => hu.trans (distributeLane_distributed frame u n)) _ (.refl s)

theorem distributeLane_control {frame : List Byte} {s : State} {n : LaneId} (h : ¬n.val < 64 - s.partition.control) :
    distributeLane frame s n = s := by
  have hin : s.isControl n = true := by simp only [State.isControl, decide_eq_true_eq]; omega
  unfold distributeLane; rw [if_pos (by simp [hin])]

/-- A pass over lanes is a pass over those outside the control region, whose size no lane changes. -/
theorem foldl_distributeLane (frame : List Byte) (control : Nat) (l : List LaneId) {s : State}
    (hs : s.partition.control = control) : l.foldl (distributeLane frame) s =
      (l.filter fun m => m.val < 64 - control).foldl (distributeLane frame) s := by
  induction l generalizing s with
  | nil => rfl
  | cons n l ih =>
    rw [List.foldl_cons, List.filter_cons]
    by_cases hn : n.val < 64 - control
    · have hsize : (distributeLane frame s n).partition.control = control := by
        rw [distributeLane_distributed frame s n]; exact hs
      rw [if_pos (by simpa using hn), List.foldl_cons, ih hsize]
    · rw [if_neg (by simpa using hn), distributeLane_control (by rwa [hs]), ih hs]

/-! ### The frame taken whole (R96, R132, R133) -/

theorem takeControlSize_eq (s : State) : takeControlSize s = { s with
    secondary := if s.partition.control = 1 ∧ s.parsedControl = 2 then ControlLane.empty else s.secondary
    parsedControl := s.partition.control } := by
  unfold takeControlSize retireSecondary; dsimp only
  split <;> rfl

/-- The state in which the control blocks of an arrival are parsed: its voice distributed, the control region size taken,
the secondary lane retired where it is gone (R96, R132). -/
def State.readyToParse (v : State) (frame : List Byte) : State :=
  { ((List.finRange 64).filter fun m => m.val < 64 - v.partition.control).foldl (distributeLane frame) v with
    secondary := if v.partition.control = 1 ∧ v.parsedControl = 2 then ControlLane.empty else v.secondary
    parsedControl := v.partition.control }

theorem takeFrame_eq (frame : List Byte) (v : State) : takeFrame frame v =
    parseControl v.partition.control (frameBlock frame 63) (frameBlock frame 62) (v.readyToParse frame) := by
  have hframe : v.Distributed (distribute frame v) := distribute_distributed frame v
  have hlanes : distribute frame v = _ := foldl_distributeLane frame v.partition.control (List.finRange 64) rfl
  have hready : takeControlSize (distribute frame v) = v.readyToParse frame := by
    unfold State.readyToParse
    rw [← hlanes, takeControlSize_eq]
    generalize distribute frame v = w at hframe
    rw [hframe]
  unfold takeFrame; dsimp only
  rw [hready]

/-! ### An arrival and its cycle start (R126 to R128) -/

theorem vmap_eq_vofFn {α β : Type} {n : Nat} (f : α → β) (v : Vector α n) : vmap f v = vofFn fun i => f (v.get i) :=
  Vector.ext fun i hi => (vmap_get f v ⟨i, hi⟩).trans (vofFn_get (fun i => f (v.get i)) ⟨i, hi⟩).symm

/-- A renumbering, port by port (R128). -/
theorem renumber_eq (n expected : CycleNo) (v : State) : renumber n expected v =
    State.post { v with ports := vofFn fun p =>
      { v.port p with gathering := n - 1, gatherSlot := none, earlySlot := none } }
        .warning .cycleRenumbered none none none (expected.setWidth 8) := by
  unfold renumber; rw [vmap_eq_vofFn]; rfl

/-- A start whose transmit is taken first, the operand's other choices kept. -/
theorem cycleStart_transmitFirst (order : StartOrder) (n : CycleNo) (time : Nat) (meanwhile : State → State)
    (s : State) : cycleStart { order with transmitFirst := true } n time meanwhile s =
      meanwhile (startTransmitted order n time s) := by
  have hsent : transmitAt { order with transmitFirst := true } = transmitAt order := rfl
  unfold cycleStart
  rw [if_pos rfl]
  unfold startTransmitted
  rw [hsent]

/-- A start whose transmit is taken last, the operand's other choices kept. -/
theorem cycleStart_transmitLast (order : StartOrder) (n : CycleNo) (time : Nat) (meanwhile : State → State)
    (s : State) : cycleStart { order with transmitFirst := false } n time meanwhile s =
      transmitAt order (meanwhile (startCycle n time s)) := by
  have hsent : transmitAt { order with transmitFirst := false } = transmitAt order := rfl
  unfold cycleStart
  rw [if_neg Bool.false_ne_true, hsent]

/-- An arrival in step whose transmit is taken first: the frame comes last. -/
theorem arriveStarting_transmitFirst {order : StartOrder} {time : Nat} {frame : List Byte} {s : State}
    (hfirst : order.transmitFirst = true) (hn : frameCycle frame = s.timer.cycle + 1) :
    arriveStarting order time frame s = takeFrame frame (startTransmitted order (frameCycle frame) time s) := by
  have htaken : (order.transmitFirst && decide (frameCycle frame = s.timer.cycle + 1)) = true := by
    rw [hfirst, decide_eq_true hn]; rfl
  unfold arriveStarting; dsimp only
  rw [htaken, if_neg (by simp), cycleStart_transmitFirst]
  exact congrArg (takeFrame frame) (if_pos hn)

/-- Any other arrival that is a cycle start: the renumbering it may be follows the start, and the frame is taken before or
after the transmit (R128, R144). -/
theorem arriveStarting_startFirst {order : StartOrder} {time : Nat} {frame : List Byte} {s : State}
    (h : ¬(order.transmitFirst = true ∧ frameCycle frame = s.timer.cycle + 1)) :
    let begun := startCycle (frameCycle frame) time s
    let renumbered := if frameCycle frame = s.timer.cycle + 1 then begun
      else renumber (frameCycle frame) (s.timer.cycle + 1) begun
    arriveStarting order time frame s = if order.commandsFirst then transmitAt order (takeFrame frame renumbered)
      else takeFrame frame (transmitAt order renumbered) := by
  intro begun renumbered
  have hlast : (order.transmitFirst && decide (frameCycle frame = s.timer.cycle + 1)) = false := by
    simpa using h
  unfold arriveStarting; dsimp only
  rw [hlast, cycleStart_transmitLast, cycleStart_transmitLast]
  cases order.commandsFirst <;> rfl

theorem exec_downstreamArrival {after : Nat} {order : StartOrder} {frame : List Byte} {s : State}
    (h : frame.length = 4115) : exec (.downstreamArrival after order frame) s = .next (arrive after order frame s) :=
  if_pos h

end Sys2Proof.Machine

section
open Sys2Proof Sys2Proof.Machine

/-- Settles O44: the frame is taken as the statement says in any state, and a start places it by the operand. -/
theorem arrivalDistributesThenParses : Obligations.ArrivalDistributesThenParses := by
  intro after order frame s hlength n next time run arrived restored taken renumbered starts
  have hrun : run = .next (arrive after order frame s) := exec_downstreamArrival hlength
  have htaken : takeFrame frame = taken := funext (takeFrame_eq frame)
  have hstarts : ∀ v : State, v.timer.cycle = s.timer.cycle → arriveStarting order time frame v = starts v := fun v hv => by
    have hnext : v.timer.cycle + 1 = next := by rw [hv]
    have hrenumbered : (fun u => if frameCycle frame = next then u else renumber (frameCycle frame) next u) = renumbered :=
      funext fun u => by rw [renumber_eq]; rfl
    dsimp only [starts]
    rw [← htaken, ← hrenumbered]
    split
    · rename_i h
      exact arriveStarting_transmitFirst h.1 (h.2.trans hnext.symm)
    · rename_i h
      rw [arriveStarting_startFirst (by rwa [hnext]), hnext]; rfl
  have hrestored : ∀ d, (restored d).timer.cycle = s.timer.cycle := fun d => by simp [restored]
  rw [hrun]
  unfold arrive
  refine ⟨fun hclock => ?_, fun hclock hlate => ?_, fun hclock hearly => ?_, fun hclock => ?_⟩
  · rw [hclock]; exact congrArg _ (hstarts arrived rfl)
  · rw [hclock]; dsimp only
    rw [if_pos hlate]; exact congrArg _ (hstarts (restored 1) (hrestored 1))
  · rw [hclock]; dsimp only
    rw [if_neg (by omega)]; exact congrArg _ (congrFun htaken (restored 0))
  · rw [hclock]; exact congrArg _ (congrFun htaken arrived)

end
end

section
/-! Order requests (O29). -/

namespace Sys2Proof.Machine

/-! ### The cases of R118, one by one -/

section
variable {q : List Order} {k : OrderKind} {x : HeadsetId}

/-- A Drop cancels a waiting Acquire. -/
theorem takeOrder_cancelled (h : (⟨.acquire, x⟩ : Order) ∈ q) :
    takeOrder q .drop x = (.cancelled, q.filter (· ≠ ⟨.acquire, x⟩)) := if_pos ⟨rfl, h⟩

/-- An Acquire takes a waiting Drop out and stands last. -/
theorem takeOrder_swapped (h : (⟨.drop, x⟩ : Order) ∈ q) :
    takeOrder q .acquire x = (.queued, q.filter (· ≠ ⟨.drop, x⟩) ++ [⟨.acquire, x⟩]) :=
  (if_neg (by simp)).trans (if_pos ⟨rfl, h⟩)

/-- An order that does not meet its opposite, and waits already, stays alone. -/
theorem takeOrder_already (hd : ¬(k = .drop ∧ (⟨.acquire, x⟩ : Order) ∈ q))
    (ha : ¬(k = .acquire ∧ (⟨.drop, x⟩ : Order) ∈ q)) (hk : (⟨k, x⟩ : Order) ∈ q) :
    takeOrder q k x = (.already, q) := by
  rw [takeOrder, if_neg hd, if_neg ha, if_pos hk]

/-- The order queue holds nothing that the request of an order meets: neither its opposite nor the order itself. -/
def MeetsNothing (q : List Order) (k : OrderKind) (x : HeadsetId) : Prop :=
  ¬(k = .drop ∧ (⟨.acquire, x⟩ : Order) ∈ q ∨ k = .acquire ∧ (⟨.drop, x⟩ : Order) ∈ q ∨ (⟨k, x⟩ : Order) ∈ q)

theorem meetsNothing_iff : MeetsNothing q k x ↔ ¬(k = .drop ∧ (⟨.acquire, x⟩ : Order) ∈ q) ∧
    ¬(k = .acquire ∧ (⟨.drop, x⟩ : Order) ∈ q) ∧ (⟨k, x⟩ : Order) ∉ q := by
  simp only [MeetsNothing, not_or]

theorem takeOrder_of_room (h : MeetsNothing q k x) (hroom : q.length < Config.maxOrders) :
    takeOrder q k x = (.queued, q ++ [⟨k, x⟩]) := by
  obtain ⟨hd, ha, hk⟩ := meetsNothing_iff.mp h
  rw [takeOrder, if_neg hd, if_neg ha, if_neg hk, if_pos hroom]

/-- At a full queue the oldest order for the headset decides (R119). -/
theorem takeOrder_of_full (h : MeetsNothing q k x) (hfull : Config.maxOrders ≤ q.length) : takeOrder q k x =
    (q.findIdx? (·.id = x)).elim (noPlace k, q) fun i => (.replaced, q.set i ⟨k, x⟩) := by
  obtain ⟨hd, ha, hk⟩ := meetsNothing_iff.mp h
  rw [takeOrder, if_neg hd, if_neg ha, if_neg hk, if_neg (Nat.not_lt.mpr hfull)]
  cases q.findIdx? (·.id = x) <;> rfl

/-- The oldest order for a headset is found where it stands. -/
theorem findIdx?_oldest {before after : List Order} {o : Order} (ho : o.id = x) (h : ∀ y ∈ before, y.id ≠ x) :
    (before ++ o :: after).findIdx? (·.id = x) = some before.length := by
  have hnone : before.findIdx? (·.id = x) = none := by simpa using h
  rw [List.findIdx?_append, hnone]
  simp [List.findIdx?_cons, ho]

theorem takeOrder_replaced {before after : List Order} {o : Order} (h : MeetsNothing (before ++ o :: after) k x)
    (hfull : Config.maxOrders ≤ (before ++ o :: after).length) (ho : o.id = x) (hbefore : ∀ y ∈ before, y.id ≠ x) :
    takeOrder (before ++ o :: after) k x = (.replaced, before ++ ⟨k, x⟩ :: after) := by
  rw [takeOrder_of_full h hfull, findIdx?_oldest ho hbefore]
  simp

theorem takeOrder_noPlace (h : MeetsNothing q k x) (hfull : Config.maxOrders ≤ q.length) (hx : ∀ y ∈ q, y.id ≠ x) :
    takeOrder q k x = (noPlace k, q) := by
  have hnone : q.findIdx? (·.id = x) = none := by simpa using hx
  rw [takeOrder_of_full h hfull, hnone]; rfl

end

theorem noPlace_eq (k : OrderKind) : noPlace k = if k = .acquire then .refused else .discarded := by
  cases k <;> rfl

/-! ### The port asked (R119, R120) -/

section
variable {s : State} {p : PortId} {k : OrderKind} {x : HeadsetId}

theorem State.requestOrder_outOfService (h : (s.port p).state = .off ∨ (s.port p).state = .isolated) :
    s.requestOrder p k x = (noPlace k, s) := if_pos h

theorem State.requestOrder_taken (h : ¬((s.port p).state = .off ∨ (s.port p).state = .isolated))
    (ht : (takeOrder (s.port p).orders k x).1 ≠ .discarded) : s.requestOrder p k x =
      ((takeOrder (s.port p).orders k x).1,
        s.setPort p { s.port p with orders := (takeOrder (s.port p).orders k x).2 }) :=
  (if_neg h).trans (if_neg ht)

theorem State.requestOrder_lost (h : ¬((s.port p).state = .off ∨ (s.port p).state = .isolated))
    (ht : (takeOrder (s.port p).orders k x).1 = .discarded) : s.requestOrder p k x =
      (.discarded, (s.bumpPort p .orderDrops).post .warning .orderLost (some p) (some x) none k.code) := by
  have hsame : (s.modPort p fun q => { q with orders := (takeOrder (s.port p).orders k x).2 }) = s := by
    rw [takeOrder_discarded ht]; exact State.setPort_self s p
  rw [State.requestOrder, if_neg h]
  dsimp only
  rw [if_pos ht, hsame, ht]

end

theorem not_outOfService {st : PortState} (h : st = .active ∨ st = .dormant) : ¬(st = .off ∨ st = .isolated) := by
  rcases h with rfl | rfl <;> decide

end Sys2Proof.Machine

section
open Sys2Proof Sys2Proof.Machine

/-- Settles O29: each case of R118 on the queue alone, then the port by its state. -/
theorem orderRequestsFindTheirPlace : Obligations.OrderRequestsFindTheirPlace := by
  refine ⟨fun q k x => ⟨takeOrder_cancelled, takeOrder_swapped, fun hk hd ha => takeOrder_already hd ha hk,
    takeOrder_of_room, ?_, fun h hfull hx => ?_⟩, fun s p k x => ⟨fun h => ?_, fun h ht => ?_, fun h ht => ?_⟩⟩
  · rintro h hfull before o after rfl ho hbefore
    exact takeOrder_replaced h hfull ho hbefore
  · rw [takeOrder_noPlace h hfull hx, noPlace_eq]
  · rw [State.requestOrder_outOfService h, noPlace_eq]
  · exact State.requestOrder_taken (not_outOfService h) ht
  · rw [State.requestOrder_lost (not_outOfService h) ht]
    cases k <;> rfl

end
end

section
/-! Port Control at one port (O30). -/

namespace Sys2Proof.Machine

/-! ### What an action makes of its port (R106, R107) -/

/-- A port that Activate has been asked of. -/
def Port.activated (q : Port) : Port :=
  match q.state with
  | .off => { q with state := .active, missing := 0, settling := true }
  | .dormant => { q with state := .active }
  | .active => q
  | .isolated => { q with returnState := .active }

/-- A port out of ACTIVE that Make Dormant has been asked of. -/
def Port.madeDormant (q : Port) : Port :=
  match q.state with
  | .off => { q with state := .dormant, missing := 0, settling := true }
  | .dormant => q
  | .active => q
  | .isolated => { q with returnState := .dormant }

theorem activatePort_eq (p : PortId) (s : State) : activatePort p s = s.modPort p Port.activated := by
  unfold activatePort State.modPort Port.activated
  cases h : (s.port p).state <;> simp [h]

theorem makePortDormant_eq {p : PortId} {s : State} (hne : (s.port p).state ≠ .active) :
    makePortDormant p s = s.modPort p Port.madeDormant := by
  unfold makePortDormant State.modPort Port.madeDormant
  cases h : (s.port p).state
  case active => exact absurd h hne
  all_goals simp [h]

/-! ### Bytes that name no port or class (R106) -/

theorem portOf_none {b : Byte} (h : 23 < b.toNat) : portOf b = none := dif_neg (by omega)

theorem classOf_none {b : Byte} (h : 3 < b.toNat) : classOf b = none := dif_neg (by omega)

theorem classOf_byteOf (k : ClassId) : classOf (byteOf k.val) = some k := by
  revert k; decide

/-- Set Class with a class named is an action at the port alone, whether its byte names one or not. -/
theorem ownSetClass_byteOf (port : Byte) (k : ClassId) :
    ownSetClass port (byteOf k.val) = ownPort port fun p s => s.modPort p fun q => { q with cls := k } := by
  funext s
  rw [ownSetClass, ownPort, classOf_byteOf]
  cases portOf port <;> rfl

/-! ### Port Control served (R105 to R107) -/

section
variable {s : State} {o : Origin} (ho : o.lane = .primary) (hq : (s.lane o.lane).queue.length < 16)
include ho hq

/-- An action that is one write at the port named is answered with what that port has become. -/
theorem serve_ownPort_modPort {p : PortId} {act : PortId → State → State} {f : Port → Port}
    (h : act p s = s.modPort p f) :
    serve o .primaryOnly (ownPort (byteOf p.val) act) s = (s.modPort p f).done o (portBytes p (f (s.port p))) := by
  rw [serve_ownPort ho hq p act, h, State.modPort_port, if_pos rfl]

theorem serve_ownPort_noPort {port : Byte} (h : 23 < port.toNat) (act : PortId → State → State) :
    serve o .primaryOnly (ownPort port act) s = s.refused o 7 :=
  serve_refused (why := .badArgument) (State.serves_primary _ ho hq) (by rw [ownPort, portOf_none h])

theorem serve_setClass_refused {port cls : Byte} (h : 23 < port.toNat ∨ 3 < cls.toNat) :
    serve o .primaryOnly (ownSetClass port cls) s = s.refused o 7 := by
  refine serve_refused (why := .badArgument) (State.serves_primary _ ho hq) ?_
  rcases h with h | h
  · rw [ownSetClass, portOf_none h]
  · rw [ownSetClass, classOf_none h]; cases portOf port <;> rfl

end

end Sys2Proof.Machine

section
open Sys2Proof Sys2Proof.Machine

/-- Settles O30: each action is one write at the port named, and the answer is read off what it leaves there. -/
theorem portControlChangesOnePort : Obligations.PortControlChangesOnePort := by
  intro o s ho hq
  refine ⟨?_, fun port cls h c hc => ?_, fun port cls h =>
    congrArg Host.Outcome.next (serve_setClass_refused ho hq (.inr h))⟩
  · intro p cls q reply gives
    have hgives : ∀ {c : Instr} {act : PortId → State → State} {f : Port → Port},
        exec c s = .next (serve o .primaryOnly (ownPort (byteOf p.val) act) s) → act p s = s.modPort p f →
        gives c (f q) := fun {c act f} hexec hact =>
      ⟨s.modPort p f, hexec.trans (congrArg _ (serve_ownPort_modPort ho hq hact)), rfl, fun r => s.modPort_port p r f⟩
    refine ⟨hgives rfl (activatePort_eq p s), fun h => hgives rfl (makePortDormant_eq h),
      hgives (f := Port.reset) rfl rfl, fun k => ?_⟩
    exact hgives (f := fun q => { q with cls := k }) (congrArg
      (fun own => Host.Outcome.next (serve o .primaryOnly own s)) (ownSetClass_byteOf (byteOf p.val) k)) rfl
  · rcases hc with rfl | rfl | rfl | rfl | rfl
    case inr.inr.inr.inr => exact congrArg Host.Outcome.next (serve_setClass_refused ho hq (.inl h))
    all_goals exact congrArg Host.Outcome.next (serve_ownPort_noPort ho hq h _)

end
end

section
/-! Uplink frames read as they are laid out (O57). -/

namespace Sys2Proof.Machine

/-! ### Fields read back (00_scope.md 4.4) -/

theorem halfBytes_half (hi lo : Byte) : halfBytes (half hi lo) = [hi, lo] := by
  unfold halfBytes half
  rw [BitVec.extractLsb'_append_eq_left, BitVec.extractLsb'_append_eq_right]

theorem half_halfBytes (n : Half) : half (n.extractLsb' 8 8) (n.extractLsb' 0 8) = n :=
  (BitVec.extractLsb'_append_extractLsb'_eq_extractLsb' rfl).trans BitVec.extractLsb'_eq_self

theorem idBytes_id24 (a b c : Byte) : idBytes (id24 a b c) = [a, b, c] := by
  have ha : (a ++ b ++ c).extractLsb' 16 8 = a :=
    (BitVec.extractLsb'_append_eq_of_le (by decide)).trans BitVec.extractLsb'_append_eq_left
  have hb : (a ++ b ++ c).extractLsb' 8 8 = b :=
    (BitVec.extractLsb'_append_eq_of_le (by decide)).trans BitVec.extractLsb'_append_eq_right
  have hc : (a ++ b ++ c).extractLsb' 0 8 = c := BitVec.extractLsb'_append_eq_right
  exact congr (congrArg List.cons ha) (congr (congrArg List.cons hb) (congrArg (List.cons · []) hc))

theorem ConditionFlags.ofByte_byte (f : ConditionFlags) : ConditionFlags.ofByte f.byte = f := by
  obtain ⟨rf, power, reference⟩ := f
  cases rf <;> cases power <;> cases reference <;> rfl

theorem getLsbD_bit (d : Bool) : (bit d).getLsbD 0 = d := by cases d <;> rfl

/-! ### One record (Table 12-2) -/

/-- A run of bytes is a record laid out by Table 12-2; bits 1 to 7 of its flags are free. -/
inductive UplinkRecord.LaidOut : UplinkRecord → List Byte → Prop
  | voice (id : HeadsetId) (raw flags : Byte) (b : Block) :
    LaidOut (.burst id raw (flags.getLsbD 0) (.voice b)) (0x01 :: (idBytes id ++ [raw, flags] ++ b.toList))
  | monitor (id : HeadsetId) (raw flags : Byte) :
    LaidOut (.burst id raw (flags.getLsbD 0) .monitor) (0x02 :: (idBytes id ++ [raw, flags]))
  | register (id : HeadsetId) (raw flags : Byte) :
    LaidOut (.burst id raw (flags.getLsbD 0) .register) (0x03 :: (idBytes id ++ [raw, flags]))
  | accepted (id : HeadsetId) : LaidOut (.result id .accepted) (0x04 :: (idBytes id ++ [0x01]))
  | noSlot (id : HeadsetId) : LaidOut (.result id .noSlot) (0x04 :: (idBytes id ++ [0x02]))

theorem UplinkRecord.laidOut_bytes (x : UplinkRecord) : x.LaidOut x.bytes := by
  rcases x with ⟨id, raw, d, b | _ | _⟩ | ⟨id, _ | _⟩
  · simpa only [getLsbD_bit, UplinkRecord.bytes] using LaidOut.voice id raw (bit d) b
  · simpa only [getLsbD_bit, UplinkRecord.bytes] using LaidOut.monitor id raw (bit d)
  · simpa only [getLsbD_bit, UplinkRecord.bytes] using LaidOut.register id raw (bit d)
  · exact .accepted id
  · exact .noSlot id

/-- The size of a record by its kind, the kind byte included (Table 12-2). -/
def recordSize (kind : Byte) : Nat := if kind = 0x01 then 70 else if kind = 0x04 then 5 else 6

/-- A record laid out begins with its kind, which gives its size. -/
theorem UplinkRecord.LaidOut.kind_size {x : UplinkRecord} {run : List Byte} (h : x.LaidOut run) :
    ∃ kind more, run = kind :: more ∧ kind ∈ [(0x01 : Byte), 0x02, 0x03, 0x04] ∧
      more.length + 1 = recordSize kind := by
  cases h <;> exact ⟨_, _, rfl, by simp, by simp [idBytes, recordSize]⟩

theorem parseRecord_of_laidOut {x : UplinkRecord} {run : List Byte} (h : x.LaidOut run) (rest : List Byte) :
    parseRecord (run ++ rest) = some (x, rest) := by
  cases h with
  | voice id raw flags b => simp [parseRecord, idBytes, id24_idBytes, blockOf_eq rfl]
  | _ => simp [parseRecord, idBytes, id24_idBytes]

theorem parseRecord_result (a b c o : Byte) (rest : List Byte) :
    parseRecord (0x04 :: a :: b :: c :: o :: rest) =
      if o = 0x01 then some (.result (id24 a b c) .accepted, rest)
      else if o = 0x02 then some (.result (id24 a b c) .noSlot, rest)
      else none := rfl

theorem parseRecord_burst {kind : Byte} (h : kind ≠ 0x04) (a b c raw flags : Byte) (rest : List Byte) :
    parseRecord (kind :: a :: b :: c :: raw :: flags :: rest) =
      if kind = 0x02 then some (.burst (id24 a b c) raw (flags.getLsbD 0) .monitor, rest)
      else if kind = 0x03 then some (.burst (id24 a b c) raw (flags.getLsbD 0) .register, rest)
      else if kind = 0x01 ∧ 64 ≤ rest.length then
        some (.burst (id24 a b c) raw (flags.getLsbD 0) (.voice (blockOf (rest.take 64))), rest.drop 64)
      else none := if_neg h

section
variable {x : UplinkRecord} {kind a b c : Byte} {more rest : List Byte}

theorem laidOut_of_parseRecord_result (h : parseRecord (0x04 :: a :: b :: c :: more) = some (x, rest)) :
    ∃ run, x.LaidOut run ∧ 0x04 :: a :: b :: c :: more = run ++ rest := by
  cases more with
  | nil => cases h
  | cons o behind =>
    rw [parseRecord_result] at h
    by_cases h1 : o = 0x01
    · rw [if_pos h1] at h; cases h
      exact ⟨_, .accepted (id24 a b c), by simp [idBytes_id24, h1]⟩
    · rw [if_neg h1] at h
      by_cases h2 : o = 0x02
      · rw [if_pos h2] at h; cases h
        exact ⟨_, .noSlot (id24 a b c), by simp [idBytes_id24, h2]⟩
      · rw [if_neg h2] at h; cases h

theorem laidOut_of_parseRecord_burst (hkind : kind ≠ 0x04)
    (h : parseRecord (kind :: a :: b :: c :: more) = some (x, rest)) :
    ∃ run, x.LaidOut run ∧ kind :: a :: b :: c :: more = run ++ rest := by
  rcases more with _ | ⟨raw, _ | ⟨flags, behind⟩⟩
  · rw [show parseRecord [kind, a, b, c] = none from if_neg hkind] at h; cases h
  · rw [show parseRecord [kind, a, b, c, raw] = none from if_neg hkind] at h; cases h
  rw [parseRecord_burst hkind] at h
  by_cases h2 : kind = 0x02
  · rw [if_pos h2] at h; cases h
    exact ⟨_, .monitor (id24 a b c) raw flags, by simp [idBytes_id24, h2]⟩
  rw [if_neg h2] at h
  by_cases h3 : kind = 0x03
  · rw [if_pos h3] at h; cases h
    exact ⟨_, .register (id24 a b c) raw flags, by simp [idBytes_id24, h3]⟩
  rw [if_neg h3] at h
  by_cases h1 : kind = 0x01 ∧ 64 ≤ behind.length
  · have hblock : (blockOf (behind.take 64)).toList = behind.take 64 := by
      rw [blockOf_toList (by simp)]; simp [h1.2]
    rw [if_pos h1] at h; cases h
    exact ⟨_, .voice (id24 a b c) raw flags _, by simp [idBytes_id24, hblock, h1.1]⟩
  · rw [if_neg h1] at h; cases h

end

/-- What a record is read from is that record laid out, and the bytes behind it are left. -/
theorem laidOut_of_parseRecord {x : UplinkRecord} {bytes rest : List Byte} (h : parseRecord bytes = some (x, rest)) :
    ∃ run, x.LaidOut run ∧ bytes = run ++ rest := by
  rcases bytes with _ | ⟨kind, _ | ⟨a, _ | ⟨b, _ | ⟨c, more⟩⟩⟩⟩
  case cons.cons.cons.cons =>
    by_cases hkind : kind = 0x04
    · subst hkind; exact laidOut_of_parseRecord_result h
    · exact laidOut_of_parseRecord_burst hkind h
  all_goals cases h

/-! ### The records of a frame (R109) -/

section
variable {xs : List UplinkRecord} {runs : List (List Byte)} (hlaid : List.Forall₂ UplinkRecord.LaidOut xs runs)
include hlaid

/-- Complete records are read, and the reading goes on behind them. -/
theorem parseRecords_append (m : Nat) (rest : List Byte) :
    parseRecords (xs.length + m) (runs.flatten ++ rest) = (parseRecords m rest).map (xs ++ ·) := by
  induction hlaid with
  | nil => simp
  | @cons x run xs runs hx _ ih =>
    rw [List.length_cons, Nat.add_right_comm, List.flatten_cons, List.append_assoc, parseRecords,
      parseRecord_of_laidOut hx]
    simp [ih, Function.comp_def]

theorem parseRecords_flatten : parseRecords xs.length runs.flatten = some xs := by
  simpa [parseRecords] using parseRecords_append hlaid 0 []

theorem parseRecords_append_none {n m : Nat} {rest : List Byte} (hn : n = xs.length + m)
    (hrest : parseRecords m rest = none) : parseRecords n (runs.flatten ++ rest) = none := by
  rw [hn, parseRecords_append hlaid, hrest]; rfl

end

theorem laidOut_of_parseRecords {n : Nat} {bytes : List Byte} {xs : List UplinkRecord}
    (h : parseRecords n bytes = some xs) :
    xs.length = n ∧ ∃ runs, List.Forall₂ UplinkRecord.LaidOut xs runs ∧ bytes = runs.flatten := by
  induction n generalizing bytes xs with
  | zero =>
    cases bytes with
    | nil =>
      obtain rfl : [] = xs := by simpa [parseRecords] using h
      exact ⟨rfl, [], .nil, rfl⟩
    | cons => cases h
  | succ n ih =>
    rw [parseRecords] at h
    split at h
    next => cases h
    next x rest hx =>
      obtain ⟨ys, hys, rfl⟩ := Option.map_eq_some_iff.mp h
      obtain ⟨hlength, runs, hlaid, rfl⟩ := ih hys
      obtain ⟨run, hrun, rfl⟩ := laidOut_of_parseRecord hx
      exact ⟨congrArg (· + 1) hlength, run :: runs, .cons hrun hlaid, rfl⟩

/-! ### What stops the reading of a record (R109, R172) -/

theorem parseRecords_behind {rest : List Byte} (h : rest ≠ []) : parseRecords 0 rest = none := by
  cases rest with
  | nil => exact absurd rfl h
  | cons => rfl

theorem parseRecords_of_record_none {m : Nat} {bytes : List Byte} (h : parseRecord bytes = none) :
    parseRecords (m + 1) bytes = none := by
  rw [parseRecords, h]

theorem parseRecord_none {kind : Byte} {more : List Byte}
    (h : kind ∉ [(0x01 : Byte), 0x02, 0x03, 0x04] ∨ more.length + 1 < recordSize kind) :
    parseRecord (kind :: more) = none := by
  refine Option.eq_none_iff_forall_ne_some.mpr fun ⟨x, rest⟩ hx => ?_
  obtain ⟨run, hlaid, hrun⟩ := laidOut_of_parseRecord hx
  obtain ⟨k, m, rfl, hk, hsize⟩ := hlaid.kind_size
  obtain ⟨rfl, hmore⟩ : kind = k ∧ more = m ++ rest := List.cons.inj hrun
  rcases h with h | h
  · exact h hk
  · rw [hmore, List.length_append] at h; omega

theorem parseRecord_noOutcome {o : Byte} (h1 : o ≠ 0x01) (h2 : o ≠ 0x02) (a b c : Byte) (behind : List Byte) :
    parseRecord (0x04 :: a :: b :: c :: o :: behind) = none := by
  rw [parseRecord_result, if_neg h1, if_neg h2]

/-! ### The frame (Table 12-1, R137) -/

/-- A run of bytes with its CRC behind it. -/
def framed (body : List Byte) : List Byte := body ++ halfBytes (crc16 body)

theorem take_append_two {body crc : List Byte} (h : crc.length = 2) :
    (body ++ crc).take ((body ++ crc).length - 2) = body := by
  simp [h]

theorem drop_append_two {body crc : List Byte} (h : crc.length = 2) :
    (body ++ crc).drop ((body ++ crc).length - 2) = crc := by
  simp [h]

theorem parseUplink_badCrc {body crc : List Byte} (h : crc.length = 2) (hne : crc ≠ halfBytes (crc16 body)) :
    parseUplink (body ++ crc) = none := by
  rw [parseUplink, uplinkHeader_none (.inl (by rwa [take_append_two h, drop_append_two h]))]

/-- A frame whose CRC matches is judged by its count and its records. -/
theorem parseUplink_framed (c1 c0 flags count : Byte) (recs : List Byte) :
    parseUplink (framed ([c1, c0, flags, count] ++ recs)) = if 16 < count.toNat then none
      else (parseRecords count.toNat recs).map fun xs => ⟨half c1 c0, ConditionFlags.ofByte flags, xs⟩ := by
  have hcrc : ∀ h : Half, (halfBytes h).length = 2 := fun _ => rfl
  have hheader := uplinkHeader_intact (bytes := framed ([c1, c0, flags, count] ++ recs))
    (by rw [framed, take_append_two (hcrc _), drop_append_two (hcrc _)]) (take_append_two (hcrc _))
  rw [parseUplink, hheader]; rfl

theorem parseUplink_framed_none {c1 c0 flags count : Byte} {recs : List Byte}
    (h : parseRecords count.toNat recs = none) : parseUplink (framed ([c1, c0, flags, count] ++ recs)) = none := by
  rw [parseUplink_framed, h, Option.map_none, ite_self]

/-- A run whose header is read is a header with its records, framed. -/
theorem framed_of_parseUplink {bytes : List Byte} {f : Uplink} (h : parseUplink bytes = some f) :
    ∃ c1 c0 flags count recs, bytes = framed ([c1, c0, flags, count] ++ recs) := by
  unfold parseUplink uplinkHeader at h
  dsimp only at h
  by_cases hcrc : bytes.drop (bytes.length - 2) = halfBytes (crc16 (bytes.take (bytes.length - 2)))
  · rw [if_pos hcrc] at h
    have hbytes : bytes = framed (bytes.take (bytes.length - 2)) := by
      rw [framed, ← hcrc, List.take_append_drop]
    generalize bytes.take (bytes.length - 2) = body at h hbytes
    split at h
    next => cases h
    next hhead =>
      split at hhead
      next c1 c0 flags count recs => exact ⟨c1, c0, flags, count, recs, hbytes⟩
      next => cases hhead
  · rw [if_neg hcrc] at h; cases h

/-- An uplink frame that is read is one laid out by Tables 12-1 and 12-2, with at most 16 records. -/
theorem parseUplink_eq_some_iff {bytes : List Byte} {f : Uplink} : parseUplink bytes = some f ↔
    ∃ (flags : Byte) (runs : List (List Byte)), f.records.length ≤ 16 ∧
      List.Forall₂ UplinkRecord.LaidOut f.records runs ∧ f.flags = ConditionFlags.ofByte flags ∧
      bytes = framed (halfBytes f.cycle ++ [flags, byteOf f.records.length] ++ runs.flatten) := by
  constructor
  · intro h
    obtain ⟨c1, c0, flags, count, recs, rfl⟩ := framed_of_parseUplink h
    rw [parseUplink_framed] at h
    split at h
    next => cases h
    next hcount =>
      obtain ⟨xs, hxs, rfl⟩ := Option.map_eq_some_iff.mp h
      obtain ⟨hlength, runs, hlaid, rfl⟩ := laidOut_of_parseRecords hxs
      refine ⟨flags, runs, by dsimp only; omega, hlaid, rfl, ?_⟩
      dsimp only
      rw [halfBytes_half, hlength, byteOf, BitVec.ofNat_toNat, BitVec.setWidth_eq]; rfl
  · rintro ⟨flags, runs, hlength, hlaid, hflags, rfl⟩
    have hcount : (byteOf f.records.length).toNat = f.records.length := Nat.mod_eq_of_lt (by omega)
    refine (parseUplink_framed ..).trans ?_
    rw [hcount, if_neg (by omega), parseRecords_flatten hlaid, half_halfBytes, ← hflags]
    rfl

theorem parseUplink_bytes {f : Uplink} (h : f.records.length ≤ 16) : parseUplink f.bytes = some f := by
  refine parseUplink_eq_some_iff.mpr ⟨f.flags.byte, f.records.map UplinkRecord.bytes, h, ?_,
    f.flags.ofByte_byte.symm, ?_⟩
  · exact List.forall₂_map_right_iff.mpr (List.forall₂_same.mpr fun x _ => x.laidOut_bytes)
  · rw [Uplink.bytes, List.flatMap_def]; rfl

end Sys2Proof.Machine

section
open Sys2Proof Sys2Proof.Machine

/-- Settles O57: a run is read only as records laid out by their tables, and each error stops the reading of one. -/
theorem uplinkFrameIsReadAsLaidOut : Obligations.UplinkFrameIsReadAsLaidOut := by
  refine ⟨fun f => parseUplink_bytes, ?_⟩
  intro laid size withCrc
  have hlaid : laid = UplinkRecord.LaidOut := by
    funext x run
    refine propext ⟨fun h => ?_, fun h => ?_⟩
    · rcases x with ⟨id, raw, d, b | _ | _⟩ | ⟨id, _ | _⟩
      · obtain ⟨flags, rfl, rfl⟩ := h; exact .voice id raw flags b
      · obtain ⟨flags, rfl, rfl⟩ := h; exact .monitor id raw flags
      · obtain ⟨flags, rfl, rfl⟩ := h; exact .register id raw flags
      · obtain rfl := h; exact .accepted id
      · obtain rfl := h; exact .noSlot id
    · cases h
      exacts [⟨_, rfl, rfl⟩, ⟨_, rfl, rfl⟩, ⟨_, rfl, rfl⟩, rfl, rfl]
  rw [hlaid]
  refine ⟨fun bytes f => parseUplink_eq_some_iff, fun body crc => parseUplink_badCrc,
    fun c1 c0 flags count xs runs rest hruns => ?_⟩
  rw [List.append_assoc]
  intro run
  have hrun : ∀ {m : Nat}, count.toNat = xs.length + m → parseRecords m rest = none → run = none :=
    fun hm hrest => parseUplink_framed_none (parseRecords_append_none hruns hm hrest)
  refine ⟨fun hcount => (parseUplink_framed ..).trans (if_pos hcount), ?_,
    fun hall hrest => hrun (m := 0) hall.symm (parseRecords_behind hrest), ?_⟩
  · rintro hmore rfl
    exact hrun (m := count.toNat - xs.length - 1 + 1) (by omega) (parseRecords_of_record_none rfl)
  · rintro kind more hmore rfl
    have hbad : parseRecord (kind :: more) = none → run = none := fun h =>
      hrun (m := count.toNat - xs.length - 1 + 1) (by omega) (parseRecords_of_record_none h)
    refine ⟨fun h => hbad (parseRecord_none (.inl h)), fun h => hbad (parseRecord_none (.inr h)), ?_⟩
    rintro a b c o behind rfl rfl h1 h2
    exact hbad (parseRecord_noOutcome h1 h2 a b c behind)

end
end

section
/-! The Event Queue: where an event is placed, what makes room at 32, and Fetch Events (O25). -/

namespace Sys2Proof.Machine

/-! ### Placing an event (R165, R166) -/

/-- From q to q' the event e has been put behind every event of its own or a higher class and before every event of a
lower one. -/
def Event.PlacedIn (e : Event) (q q' : List Event) : Prop :=
  ∃ before after, q = before ++ after ∧ q' = before ++ e :: after ∧
    (∀ x ∈ before, e.cls.rank ≤ x.cls.rank) ∧ ∀ x ∈ after, x.cls.rank < e.cls.rank

theorem placeEvent_placedIn {e : Event} {q : List Event} (hq : q.Pairwise fun x y => y.cls.rank ≤ x.cls.rank) :
    e.PlacedIn q (placeEvent e q) := by
  induction q with
  | nil => exact ⟨[], [], rfl, rfl, by simp, by simp⟩
  | cons x xs ih =>
    obtain ⟨hx, hxs⟩ := List.pairwise_cons.mp hq
    rw [placeEvent]
    split
    · rename_i hlower
      refine ⟨[], x :: xs, rfl, rfl, by simp, fun y hy => ?_⟩
      rcases List.mem_cons.mp hy with rfl | hy
      exacts [hlower, (hx y hy).trans_lt hlower]
    · rename_i hnot
      obtain ⟨before, after, hsplit, hplaced, hbefore, hafter⟩ := ih hxs
      refine ⟨x :: before, after, by rw [hsplit, List.cons_append], by rw [hplaced, List.cons_append], fun y hy => ?_,
        hafter⟩
      rcases List.mem_cons.mp hy with rfl | hy
      exacts [Nat.le_of_not_lt hnot, hbefore y hy]

theorem EventClass.rank_injective : Function.Injective EventClass.rank := by
  intro c d; cases c <;> cases d <;> decide

/-- The newest event of the lowest class queued stands last. -/
theorem eq_nil_of_newest_lowest {before after : List Event} {x : Event}
    (hq : (before ++ x :: after).Pairwise fun y z => z.cls.rank ≤ y.cls.rank)
    (hlowest : ∀ y ∈ before ++ x :: after, x.cls.rank ≤ y.cls.rank) (hnewest : ∀ y ∈ after, y.cls ≠ x.cls) :
    after = [] := by
  refine List.eq_nil_iff_forall_not_mem.mpr fun y hy => hnewest y hy (EventClass.rank_injective ?_)
  have hbehind : y.cls.rank ≤ x.cls.rank := (List.pairwise_cons.mp (List.pairwise_append.mp hq).2.1).1 y hy
  exact hbehind.antisymm (hlowest y (by simp [hy]))

/-! ### Queuing an event (R166, R167) -/

theorem queueEvent_of_room {q : List Event} (h : q.length < 32) (e : Event) :
    queueEvent q e = (placeEvent e q, false) := if_pos h

/-- At 32 the new event is discarded when none queued is of a lower class. -/
theorem queueEvent_of_none_lower {q : List Event} {e : Event} (h : q.length = 32)
    (hlow : ∀ x ∈ q, e.cls.rank ≤ x.cls.rank) : queueEvent q e = (q, true) := by
  unfold queueEvent
  rw [if_neg (by rw [h]; decide)]
  split
  · rfl
  · rename_i x hx
    exact if_neg (Nat.not_lt.mpr (hlow x (List.mem_of_getLast? hx)))

/-- At 32 the last event makes room for an event of a higher class. -/
theorem queueEvent_of_last_lower {q : List Event} {x e : Event} (h : (q ++ [x]).length = 32)
    (hx : x.cls.rank < e.cls.rank) : queueEvent (q ++ [x]) e = (placeEvent e q, true) := by
  unfold queueEvent
  rw [if_neg (by rw [h]; decide), List.getLast?_concat, List.dropLast_concat]
  exact if_pos hx

/-- At 32 an event is lost, whichever it is. -/
theorem queueEvent_of_full {q : List Event} (h : q.length = 32) (e : Event) : (queueEvent q e).2 = true := by
  unfold queueEvent
  rw [if_neg (by rw [h]; decide)]
  split
  · rfl
  · split <;> rfl

/-- A posting that is not dropped queues its event. -/
theorem State.post_of_kept {s : State} {c : EventClass} (h : ¬(c = .info ∧ s.params.infoEvents = false)) (k : EventKind)
    (p : Option PortId) (i : Option HeadsetId) (n : Option LaneId) (d : Byte) : s.post c k p i n d = { s with
      events := (queueEvent s.events ⟨c, k, s.timer.cycle, p, i, n, d⟩).1
      lostEvents := s.lostEvents || (queueEvent s.events ⟨c, k, s.timer.cycle, p, i, n, d⟩).2 } := if_neg h

/-! ### Fetch Events (R168) -/

theorem EventKind.code_eq (k : EventKind) : k.code = byteOf (1 + [EventKind.powerOn, .restartDone, .registrationPending,
    .registrationFull, .headsetAttached, .attachFailed, .rescueStarted, .handoffDone, .handoffFailed, .linkLost,
    .headsetDropped, .freezeExpired, .freezeRequested, .portCondition, .orderLost, .portIsolated, .portRecovered,
    .clockHoldover, .clockRestored, .cycleRenumbered].idxOf k) := by cases k <;> rfl

theorem portByte?_eq (p : Option PortId) : portByte? p = match p with | none => 0xFF | some p => byteOf p.val := by
  cases p <;> rfl

theorem laneByte?_eq (n : Option LaneId) : laneByte? n = match n with | none => 0xFF | some n => byteOf n.val := by
  cases n <;> rfl

theorem ownFetchEvents_refuses {p : List Byte} (hp : p.length ≠ 1) (s : State) :
    ownFetchEvents p s = refuse .badArgument s := by
  unfold ownFetchEvents
  split
  · exact absurd rfl hp
  · rfl

end Sys2Proof.Machine

section
open Sys2Proof Sys2Proof.Machine

/-- Settles O25: the queue is in order of class, so the event that makes room stands last. -/
theorem eventsAreQueuedByClassAndFetched : Obligations.EventsAreQueuedByClassAndFetched := by
  unfold Obligations.EventsAreQueuedByClassAndFetched
  intro rank
  have hrank : rank = EventClass.rank := funext fun c => by cases c <;> rfl
  clear_value rank
  subst hrank
  refine ⟨fun s cls kind port id lane detail hq => ?_, fun o s ho hroom => ⟨fun n => ?_, fun p hp => ?_⟩⟩
  · intro e dropped placed
    have hkept := fun h : ¬dropped => State.post_of_kept h kind port id lane detail
    refine ⟨_, rfl, s.post_frame .., fun hdropped => if_pos hdropped, fun hnot hfew => ?_, fun hnot hfull =>
      ⟨?_, fun hlow => ?_, fun before after x hsplit hx hlowest hnewest => ?_⟩⟩
    · rw [hkept hnot, queueEvent_of_room hfew]
      exact ⟨Bool.or_false _, placeEvent_placedIn hq.2⟩
    · rw [hkept hnot]; dsimp only
      rw [queueEvent_of_full hfull, Bool.or_true]
    · rw [hkept hnot]; dsimp only
      rw [queueEvent_of_none_lower hfull hlow]
    · rw [hkept hnot]; dsimp only
      rw [hsplit] at hfull hlowest ⊢
      have hsorted := hq.2
      rw [hsplit] at hsorted
      obtain rfl := eq_nil_of_newest_lowest hsorted hlowest hnewest
      rw [queueEvent_of_last_lower hfull hx, List.append_nil]
      exact placeEvent_placedIn (List.pairwise_append.mp hsorted).1
  · intro k code line
    have hline : Event.bytes = line := funext fun e => by
      unfold Event.bytes; rw [EventKind.code_eq, portByte?_eq, laneByte?_eq]; rfl
    refine ⟨s.events.take k, s.events.drop k, List.take_append_drop .., List.length_take, ?_⟩
    rw [← hline]
    exact congrArg Host.Outcome.next
      (serve_done (owner := ownFetchEvents [n]) (State.serves_primary .primaryOnly ho hroom) rfl)
  · exact congrArg Host.Outcome.next
      (serve_refused (why := .badArgument) (State.serves_primary .primaryOnly ho hroom) (ownFetchEvents_refuses hp s))

end
end

section
/-! A cycle start, whatever makes it and whatever is done meanwhile, and the holdover watch (O41). -/

namespace Sys2Proof.Machine

/-! ### What a cycle start places and what it leaves alone -/

/-- The Timer and what a cycle start places: the close that is scheduled and the downlink sends due. -/
structure Schedule where
  timer : Timer
  pendingClose : Option CloseDue
  sendDue : Vector Bool 24

def State.schedule (s : State) : Schedule := ⟨s.timer, s.pendingClose, s.sendDue⟩

/-- The Timer and what is placed after a start that begins cycle n at a time (R6, R124, R125). -/
def State.scheduleStarted (s : State) (n : CycleNo) (time : Nat) : Schedule where
  timer := s.timerStarted s.timer.clock n time
  pendingClose := some ⟨n - 1, time + s.params.gatherDelay⟩
  sendDue := Vector.replicate 24 true

/-- The fields that no cycle start changes. -/
structure StartFixed where
  pending : List Instr
  tables : Vector (Vector Level 256) 4
  matrix : Vector (Vector Neighbour 24) 24
  window : Window
  partition : Partition
  cursor : Nat
  parsedControl : Nat
  ctlCounters : Vector Nat 5
  params : Params
  downlinkOut : Vector (List Byte) 24

def State.startFixed (s : State) : StartFixed :=
  ⟨s.pending, s.tables, s.matrix, s.window, s.partition, s.cursor, s.parsedControl, s.ctlCounters, s.params,
    s.downlinkOut⟩

section
variable (order : StartOrder) (n : CycleNo) (time : Nat) (s : State)

theorem transmitAt_schedule : (transmitAt order s).schedule = s.schedule := by
  rw [transmitAt_frame]; dsimp only [State.schedule]

theorem transmitAt_startFixed : (transmitAt order s).startFixed = s.startFixed := by
  rw [transmitAt_frame]; dsimp only [State.startFixed]

theorem makePendingClose_startFixed : (makePendingClose s).startFixed = s.startFixed := by
  rw [makePendingClose_frame]; dsimp only [State.startFixed]

theorem beginCycle_startFixed : (beginCycle n time s).startFixed = s.startFixed := rfl

theorem scheduleEvents_countdowns_startFixed : (scheduleEvents (countdowns s)).startFixed = s.startFixed := by
  rw [scheduleEvents_countdowns]; rfl

/-- The countdowns place the close and the sends by the Timer and the Gather Delay they find. -/
theorem scheduleEvents_countdowns_schedule {s w : State} (htimer : w.timer = s.timerStarted s.timer.clock n time)
    (hparams : w.params = s.params) : (scheduleEvents (countdowns w)).schedule = s.scheduleStarted n time := by
  rw [scheduleEvents_countdowns]
  dsimp only [State.schedule, State.scheduleStarted]
  rw [htimer, hparams]; rfl

theorem startCycle_schedule : (startCycle n time s).schedule = s.scheduleStarted n time := by
  unfold startCycle
  rw [beginCycle_makePendingClose]
  exact scheduleEvents_countdowns_schedule n time rfl (congrArg StartFixed.params (makePendingClose_startFixed s))

theorem startCycle_startFixed : (startCycle n time s).startFixed = s.startFixed := by
  unfold startCycle
  rw [scheduleEvents_countdowns_startFixed, beginCycle_startFixed, makePendingClose_startFixed]

theorem startTransmitted_schedule : (startTransmitted order n time s).schedule = s.scheduleStarted n time := by
  unfold startTransmitted
  refine scheduleEvents_countdowns_schedule n time ?_ ?_
  · rw [makePendingClose_frame, transmitAt_frame, beginCycle_eq]
  · rw [makePendingClose_frame, transmitAt_frame, beginCycle_eq]

theorem startTransmitted_startFixed : (startTransmitted order n time s).startFixed = s.startFixed := by
  unfold startTransmitted
  rw [scheduleEvents_countdowns_startFixed, makePendingClose_startFixed, transmitAt_startFixed, beginCycle_startFixed]

end

theorem State.setTimer_startFixed (s : State) (x : Timer) : State.startFixed { s with timer := x } = s.startFixed := by
  dsimp only [State.startFixed]

/-! ### A start that posts nothing of its own -/

/-- No close is pending and no freeze is active, so a cycle start posts no event but its cause's. -/
structure State.Quiet (s : State) : Prop where
  noClose : s.pendingClose = none
  noFreeze : s.freeze.active = false

theorem makePendingClose_of_none {s : State} (h : s.pendingClose = none) : makePendingClose s = s := by
  unfold makePendingClose; rw [h]

theorem State.toldExpired_of_idle {s : State} (h : s.freeze.active = false) : s.toldExpired = s :=
  if_neg fun hends => by rw [h] at hends; exact absurd hends.1 Bool.false_ne_true

theorem startCycle_events_of_quiet {s : State} (h : s.Quiet) (n : CycleNo) (time : Nat) :
    (startCycle n time s).events = s.events := by
  unfold startCycle
  rw [makePendingClose_of_none h.noClose, scheduleEvents_countdowns]; dsimp only
  rw [State.toldExpired_of_idle (s := beginCycle n time s) h.noFreeze]; rfl

theorem startTransmitted_events_of_quiet {s : State} (h : s.Quiet) (order : StartOrder) (n : CycleNo) (time : Nat) :
    (startTransmitted order n time s).events = s.events := by
  have hclose : (transmitAt order (beginCycle n time s)).pendingClose = none := by
    rw [transmitAt_frame]; exact h.noClose
  have hfreeze : (transmitAt order (beginCycle n time s)).freeze.active = false := by
    rw [transmitAt_frame]; exact h.noFreeze
  unfold startTransmitted
  rw [makePendingClose_of_none hclose, scheduleEvents_countdowns]; dsimp only
  rw [State.toldExpired_of_idle hfreeze, transmitAt_frame]; rfl

/-! ### A start with what its cause does meanwhile -/

section
variable {order : StartOrder} {n : CycleNo} {time : Nat} {meanwhile : State → State} {s : State}

theorem cycleStart_schedule (h : ∀ u, (meanwhile u).schedule = u.schedule) :
    (cycleStart order n time meanwhile s).schedule = s.scheduleStarted n time := by
  unfold cycleStart; split
  · rw [h, startTransmitted_schedule]
  · rw [transmitAt_schedule, h, startCycle_schedule]

theorem cycleStart_startFixed (h : ∀ u, (meanwhile u).startFixed = u.startFixed) :
    (cycleStart order n time meanwhile s).startFixed = s.startFixed := by
  unfold cycleStart; split
  · rw [h, startTransmitted_startFixed]
  · rw [transmitAt_startFixed, h, startCycle_startFixed]

/-- The frame sent carries the new number when what is done meanwhile leaves frame and number alone (R92). -/
theorem cycleStart_number (hsent : ∀ u, (meanwhile u).upstreamOut = u.upstreamOut)
    (h : ∀ u, (meanwhile u).schedule = u.schedule) :
    (cycleStart order n time meanwhile s).upstreamOut.take 2 = halfBytes n := by
  unfold cycleStart; split
  · rw [hsent, startTransmitted_upstreamOut]
    exact (transmitAt_upstreamOut order _).2
  · rw [(transmitAt_upstreamOut order _).2, show (meanwhile (startCycle n time s)).timer = _ from
      congrArg Schedule.timer ((h _).trans (startCycle_schedule n time s))]; rfl

/-- A quiet start posts what is posted meanwhile, to a start that has posted nothing yet. -/
theorem cycleStart_events_of_quiet (hs : s.Quiet) : ∃ u, u.schedule = s.scheduleStarted n time ∧
    u.startFixed = s.startFixed ∧ u.events = s.events ∧
      (cycleStart order n time meanwhile s).events = (meanwhile u).events := by
  unfold cycleStart; split
  · exact ⟨_, startTransmitted_schedule order n time s, startTransmitted_startFixed order n time s,
      startTransmitted_events_of_quiet hs order n time, rfl⟩
  · exact ⟨_, startCycle_schedule n time s, startCycle_startFixed n time s, startCycle_events_of_quiet hs n time, by
      rw [transmitAt_frame]⟩

end

/-! ### Postings of a start -/

theorem State.post_schedule (s : State) (c : EventClass) (k : EventKind) (p : Option PortId) (i : Option HeadsetId)
    (n : Option LaneId) (d : Byte) : (s.post c k p i n d).schedule = s.schedule := by simp [State.schedule]

theorem State.post_startFixed (s : State) (c : EventClass) (k : EventKind) (p : Option PortId) (i : Option HeadsetId)
    (n : Option LaneId) (d : Byte) : (s.post c k p i n d).startFixed = s.startFixed := by simp [State.startFixed]

/-- While fewer than 32 events are queued, an event above Info is placed and none is lost (R166). -/
theorem State.post_of_room {s : State} (h : s.events.length < 32) {c : EventClass} (hc : c ≠ .info) (k : EventKind)
    (p : Option PortId) (i : Option HeadsetId) (n : Option LaneId) (d : Byte) : s.post c k p i n d =
      { s with events := placeEvent ⟨c, k, s.timer.cycle, p, i, n, d⟩ s.events } := by
  rw [State.post_of_kept fun hinfo => hc hinfo.1, queueEvent_of_room h, Bool.or_false]

theorem postHoldover_schedule (s : State) : (postHoldover s).schedule = s.schedule := by
  unfold postHoldover; split
  exacts [s.post_schedule .., rfl]

theorem postHoldover_startFixed (s : State) : (postHoldover s).startFixed = s.startFixed := by
  unfold postHoldover; split
  exacts [s.post_startFixed .., rfl]

theorem postHoldover_upstreamOut (s : State) : (postHoldover s).upstreamOut = s.upstreamOut := by
  unfold postHoldover; split
  exacts [s.post_upstreamOut .., rfl]

/-- Clock Holdover is placed with the number begun, unless the start has entered Local (R126, R130). -/
theorem postHoldover_events {s : State} (h : s.events.length < 32) : (postHoldover s).events =
    if s.timer.clock = .holdover then
      placeEvent ⟨.alarm, .clockHoldover, s.timer.cycle, none, none, none, 0⟩ s.events else s.events := by
  unfold postHoldover; split
  · rw [State.post_of_room h (by decide)]
  · rfl

/-! ### The holdover watch (R126) -/

/-- In Holdover and Local no watch runs. -/
theorem exec_holdoverWatchExpiry_idle {order : StartOrder} {s : State} (h : s.timer.clock ≠ .follow) :
    exec (.holdoverWatchExpiry order) s = .next s := by
  change execHoldoverWatchExpiry order s = _
  unfold execHoldoverWatchExpiry
  cases hclock : s.timer.clock with
  | follow => exact absurd hclock h
  | holdover => rfl
  | localClock => rfl

/-- The state in which an expired watch makes its start. -/
def State.heldOver (s : State) : State := { s with timer := { s.timer with clock := .holdover } }

theorem State.heldOver_scheduleStarted (s : State) (n : CycleNo) (time : Nat) : s.heldOver.scheduleStarted n time =
    ⟨s.timerStarted .holdover n time, some ⟨n - 1, time + s.params.gatherDelay⟩, Vector.replicate 24 true⟩ := rfl

/-- A quiet start of an expired watch posts Clock Holdover alone, and in Local nothing (R126, R130). -/
theorem cycleStart_heldOver_events {s : State} (hs : s.heldOver.Quiet) (hroom : s.events.length < 32)
    (order : StartOrder) (n : CycleNo) (time : Nat) : (cycleStart order n time postHoldover s.heldOver).events =
      if s.params.clockSource = .localSource then s.events
        else placeEvent ⟨.alarm, .clockHoldover, n, none, none, none, 0⟩ s.events := by
  obtain ⟨u, hschedule, -, hqueue, hposted⟩ := cycleStart_events_of_quiet (order := order) (n := n) (time := time)
    (meanwhile := postHoldover) hs
  replace hqueue : u.events = s.events := hqueue
  have htimer : u.timer = s.timerStarted .holdover n time := congrArg Schedule.timer hschedule
  rw [hposted, postHoldover_events (by rwa [hqueue]), htimer, hqueue]
  cases hsource : s.params.clockSource <;> simp [State.timerStarted, hsource]

end Sys2Proof.Machine

section
open Sys2Proof Sys2Proof.Machine

/-- Settles O41: the expiry is a cycle start made in Holdover, and posts nothing else that a quiet start would post. -/
theorem holdoverWatchEntersHoldover : Obligations.HoldoverWatchEntersHoldover := by
  refine fun order s => ⟨exec_holdoverWatchExpiry_idle, fun hclock =>
    ⟨cycleStart order _ _ postHoldover s.heldOver, exec_holdoverWatchExpiry hclock, ?_⟩⟩
  generalize hnext : s.timer.cycle + 1 = n
  generalize max s.timer.lastStart s.timer.lastArrival + 20 = time
  have hschedule := cycleStart_schedule (order := order) (n := n) (time := time) (s := s.heldOver) postHoldover_schedule
  have hfixed := (cycleStart_startFixed (order := order) (n := n) (time := time) (s := s.heldOver)
    postHoldover_startFixed).trans (s.setTimer_startFixed _)
  have hnumber := cycleStart_number (order := order) (n := n) (time := time) (s := s.heldOver) postHoldover_upstreamOut
    postHoldover_schedule
  have hevents := fun hs hroom => cycleStart_heldOver_events (s := s) hs hroom order n time
  generalize cycleStart order n time postHoldover s.heldOver = t at *
  rw [State.heldOver_scheduleStarted] at hschedule
  injection hschedule with htimer hclose hsends
  refine ⟨htimer, ?_, fun p => ?_, hnumber, fun hnone hidle => hevents ⟨hnone, hidle⟩, ?_⟩
  · rw [hclose, ← hnext, BitVec.add_sub_cancel]
  · rw [hsends]; exact replicate_get true p
  · injection hfixed with hpending htables hmatrix hwindow hpartition hcursor hparsed hctl hparams hdownlink
    rw [← hpending, ← htables, ← hmatrix, ← hwindow, ← hpartition, ← hcursor, ← hparsed, ← hctl, ← hparams, ← hdownlink]

end
end

section
/-! What no command of a frame changes: the Timer, what a cycle start has placed, the frame sent, and the cycle that a
port gathers for (R126 to R129). -/

namespace Sys2Proof.Machine

/-! ### The law, and what leaves it alone -/

/-- From one value of a port to the other the Gathering cycle is the same and an empty slot is still empty. -/
structure Port.Gathers (x y : Port) : Prop where
  gathering : y.gathering = x.gathering
  gatherSlot : x.gatherSlot = none → y.gatherSlot = none
  earlySlot : x.earlySlot = none → y.earlySlot = none

theorem Port.Gathers.refl (x : Port) : x.Gathers x := ⟨rfl, id, id⟩

theorem Port.Gathers.trans {x y z : Port} (h : x.Gathers y) (h' : y.Gathers z) : x.Gathers z :=
  ⟨h'.gathering.trans h.gathering, h'.gatherSlot ∘ h.gatherSlot, h'.earlySlot ∘ h.earlySlot⟩

/-- A port whose slots are kept gathers as before. -/
theorem Port.Gathers.of_eq {x y : Port} (hcycle : y.gathering = x.gathering) (hgather : y.gatherSlot = x.gatherSlot)
    (hearly : y.earlySlot = x.earlySlot) : x.Gathers y := ⟨hcycle, hgather.trans, hearly.trans⟩

/-- A port whose slots are emptied gathers as before. -/
theorem Port.Gathers.of_empty {x y : Port} (hcycle : y.gathering = x.gathering) (hgather : y.gatherSlot = none)
    (hearly : y.earlySlot = none) : x.Gathers y := ⟨hcycle, fun _ => hgather, fun _ => hearly⟩

theorem Port.SameButQueue.gathers {x y : Port} (h : x.SameButQueue y) : x.Gathers y := by
  have hsame : { y with orders := x.orders, counters := x.counters } = x := h
  rw [← hsame]; exact .of_eq rfl rfl rfl

/-- From s to t the Timer, what is placed and the frame sent are the same, and every port gathers as before. -/
structure State.Undisturbed (s t : State) : Prop where
  schedule : t.schedule = s.schedule
  upstreamOut : t.upstreamOut = s.upstreamOut
  ports : ∀ p, (s.port p).Gathers (t.port p)

theorem State.Undisturbed.refl (s : State) : s.Undisturbed s := ⟨rfl, rfl, fun _ => .refl _⟩

theorem State.Undisturbed.trans {s t u : State} (h : s.Undisturbed t) (h' : t.Undisturbed u) : s.Undisturbed u :=
  ⟨h'.schedule.trans h.schedule, h'.upstreamOut.trans h.upstreamOut, fun p => (h.ports p).trans (h'.ports p)⟩

/-- What the work on the roaming table may change disturbs nothing. -/
theorem State.Worked.undisturbed {s t : State} {l : List HoldRequest} (h : s.Worked t l) : s.Undisturbed t := by
  have hframe := h.frame
  exact ⟨by rw [hframe]; rfl, by rw [hframe], fun p => (h.queues p).gathers⟩

section
variable {s t u : State}

/-- What changes no port, nothing placed and no frame sent disturbs nothing. -/
theorem State.Undisturbed.same (h : s.Undisturbed t) (hschedule : u.schedule = t.schedule)
    (hsent : u.upstreamOut = t.upstreamOut) (hports : u.ports = t.ports) : s.Undisturbed u :=
  h.trans ⟨hschedule, hsent, fun p => by rw [State.port, State.port, hports]; exact .refl _⟩

theorem State.Undisturbed.modPort (h : s.Undisturbed t) (p : PortId) {f : Port → Port}
    (hf : ∀ q : Port, q.Gathers (f q)) : s.Undisturbed (t.modPort p f) :=
  h.trans ⟨rfl, rfl, fun q => by
    rw [State.modPort_port]; split
    · rename_i hq; rw [hq]; exact hf _
    · exact .refl _⟩

theorem State.Undisturbed.mapPorts (h : s.Undisturbed t) {f : Port → Port} (hf : ∀ q : Port, q.Gathers (f q)) :
    s.Undisturbed { t with ports := vmap f t.ports } :=
  h.trans ⟨rfl, rfl, fun p => by
    have hport : State.port { t with ports := vmap f t.ports } p = f (t.port p) := vmap_get ..
    rw [hport]; exact hf _⟩

theorem State.Undisturbed.post (h : s.Undisturbed t) (c : EventClass) (k : EventKind) (p : Option PortId)
    (i : Option HeadsetId) (n : Option LaneId) (d : Byte) : s.Undisturbed (t.post c k p i n d) :=
  h.same (t.post_schedule ..) (t.post_upstreamOut ..) (t.post_ports ..)

theorem State.Undisturbed.setLane (h : s.Undisturbed t) (l : CtlLane) (c : ControlLane) :
    s.Undisturbed (t.setLane l c) := by
  cases l <;> exact h.same rfl rfl rfl

theorem State.Undisturbed.bumpCtl (h : s.Undisturbed t) (k : CtlCounter) : s.Undisturbed (t.bumpCtl k) :=
  h.same rfl rfl rfl

theorem State.Undisturbed.shedOn (h : s.Undisturbed t) (l : CtlLane) (tag : Byte) : s.Undisturbed (t.shedOn l tag) :=
  (h.setLane ..).bumpCtl _

theorem State.Undisturbed.respond (h : s.Undisturbed t) (l : CtlLane) (x : Response) : s.Undisturbed (t.respond l x) :=
  h.setLane ..

theorem State.Undisturbed.report (h : s.Undisturbed t) (l : CtlLane) (x : Response) : s.Undisturbed (t.report l x) := by
  unfold State.report; split
  exacts [h.shedOn .., h.respond ..]

theorem State.Undisturbed.removeRegistrations (h : s.Undisturbed t) (leaves : Registration → Bool) :
    s.Undisturbed (t.removeRegistrations leaves) := by
  obtain ⟨full, e⟩ := t.removeRegistrations_frame leaves
  rw [e]; exact h.same rfl rfl rfl

/-! ### Port Control (R105 to R107) -/

theorem State.Undisturbed.departRecords (h : s.Undisturbed t) (p : PortId) (toDormant : Bool) :
    s.Undisturbed (departRecords p toDormant t) :=
  foldl_keeps (fun u r hu => hu.trans (treatDeparture_worked p toDormant u r).undisturbed) _ h

/-- A port that goes OFF empties its slots and keeps its Gathering cycle. -/
theorem State.Undisturbed.turnPortOff (h : s.Undisturbed t) (p : PortId) : s.Undisturbed (turnPortOff p t) := by
  have hnew : s.Undisturbed (t.modPort p fun q => { q with state := .off }) :=
    h.modPort p fun _ => .of_eq rfl rfl rfl
  have hleft : s.Undisturbed (if (t.port p).state = .active then
      Machine.departRecords p false (t.modPort p fun q => { q with state := .off })
        else t.modPort p fun q => { q with state := .off }) := by
    split
    exacts [hnew.departRecords p false, hnew]
  have hdown : s.Undisturbed (enterDown p .off t) := by
    unfold enterDown; dsimp only
    exact (hleft.modPort p (f := Port.goDown) fun _ => .of_empty rfl rfl rfl).same rfl rfl rfl
  unfold Machine.turnPortOff; split
  exacts [h, hdown.modPort p fun _ => .of_eq rfl rfl rfl]

theorem State.Undisturbed.activatePort (h : s.Undisturbed t) (p : PortId) : s.Undisturbed (activatePort p t) := by
  unfold Machine.activatePort; split
  exacts [h.modPort p fun _ => .of_eq rfl rfl rfl, h.modPort p fun _ => .of_eq rfl rfl rfl, h,
    h.modPort p fun _ => .of_eq rfl rfl rfl]

theorem State.Undisturbed.makePortDormant (h : s.Undisturbed t) (p : PortId) :
    s.Undisturbed (makePortDormant p t) := by
  unfold Machine.makePortDormant enterDormant; split
  · exact h.modPort p fun _ => .of_eq rfl rfl rfl
  · exact h
  · have hdormant : s.Undisturbed (t.modPort p fun q => { q with state := .dormant }) :=
      h.modPort p fun _ => .of_eq rfl rfl rfl
    exact (hdormant.departRecords p true).modPort p fun _ => .of_eq rfl rfl rfl
  · exact h.modPort p fun _ => .of_eq rfl rfl rfl

theorem Port.reset_gathers (x : Port) : x.Gathers x.reset := .of_empty rfl rfl rfl

theorem State.Undisturbed.ownPort (h : s.Undisturbed t) (port : Byte) {act : PortId → State → State}
    (hact : ∀ p, s.Undisturbed (act p t)) : s.Undisturbed (ownPort port act t).2 := by
  unfold Machine.ownPort; split
  exacts [h, hact _]

theorem State.Undisturbed.ownSetClass (h : s.Undisturbed t) (port cls : Byte) :
    s.Undisturbed (ownSetClass port cls t).2 := by
  unfold Machine.ownSetClass; split
  exacts [h.modPort _ (f := fun q => { q with cls := _ }) fun _ => .of_eq rfl rfl rfl, h]

/-! ### Commands on records and registrations -/

theorem State.Undisturbed.ownAdmit (h : s.Undisturbed t) (payload : List Byte) :
    s.Undisturbed (ownAdmit payload t).2 := by
  have hadmit : ∀ r x n cursor, s.Undisturbed (admitInto r x n cursor t) := fun r x n cursor => by
    have henrolled : s.Undisturbed (t.enrolled r x n cursor) := h.same rfl rfl rfl
    have hseeded : s.Undisturbed (seedAttach r (t.enrolled r x n cursor)) := by
      unfold seedAttach; split
      · exact henrolled
      split
      exacts [henrolled.trans (beginAttach_worked ..).undisturbed, henrolled]
    rw [admitInto_eq]
    exact (hseeded.removeRegistrations _).same rfl rfl rfl
  unfold Machine.ownAdmit; dsimp only
  repeat' split
  exacts [h, h, h, h, hadmit .., h]

theorem State.Undisturbed.ownDeny (h : s.Undisturbed t) (payload : List Byte) :
    s.Undisturbed (ownDeny payload t).2 := by
  have hdeny : ∀ x, s.Undisturbed (denyHeadset x t).2 := fun x => by
    unfold denyHeadset
    cases t.registrations.find? (·.id = x) with
    | none => exact h.same rfl rfl rfl
    | some e =>
      have hremoved := h.removeRegistrations (·.id = x)
      have hordered : s.Undisturbed (denyOrder x e (t.removeRegistrations (·.id = x))).2 := by
        unfold denyOrder; split
        exacts [hremoved.trans ((State.Worked.refl _).requestOrder ..).undisturbed, hremoved]
      exact hordered.same rfl rfl rfl
  unfold Machine.ownDeny; dsimp only
  repeat' split
  exacts [h, h, hdeny _, h]

theorem State.Undisturbed.ownRelease (h : s.Undisturbed t) (payload : List Byte) :
    s.Undisturbed (ownRelease payload t).2 := by
  have hrelease : ∀ r, s.Undisturbed (releaseRecord r t).2 := fun r => by
    unfold releaseRecord; dsimp only
    split
    · exact h
    · exact h.trans ((((State.Worked.refl t).dropAndLower ..).dropAndLower ..).freeRecord r).undisturbed
  unfold Machine.ownRelease
  repeat' split
  exacts [h, h, hrelease _, h]

theorem State.Undisturbed.ownForceHandoff (h : s.Undisturbed t) (payload : List Byte) :
    s.Undisturbed (ownForceHandoff payload t).2 := by
  have hforce : ∀ r antenna, s.Undisturbed (forceRecord r antenna t).2 := fun r antenna => by
    have hbegun := fun a => h.trans (beginBridge_worked r a .forced t).undisturbed
    unfold forceRecord; dsimp only
    repeat' split
    exacts [h, h, h, h, h, h, hbegun _, hbegun _]
  unfold Machine.ownForceHandoff
  repeat' split
  exacts [h, h, hforce .., h]

/-! ### Commands on counters, tables and the part as a whole -/

theorem State.Undisturbed.ownCounterExchangeAdd (h : s.Undisturbed t) (payload : List Byte) :
    s.Undisturbed (ownCounterExchangeAdd payload t).2 := by
  have hstored : ∀ k v, s.Undisturbed (t.setCounter k v) := fun k v => by
    cases k with
    | port p k =>
      exact h.modPort p (f := fun q => { q with counters := vset q.counters k v }) fun _ => .of_eq rfl rfl rfl
    | roam k => exact h.same rfl rfl rfl
    | ctl k => exact h.same rfl rfl rfl
    | lane n k => exact h.same rfl rfl rfl
  unfold Machine.ownCounterExchangeAdd
  split
  · split
    exacts [h, hstored ..]
  · exact h

theorem State.Undisturbed.writeCells (bs : List Byte) (h : s.Undisturbed t) : s.Undisturbed (writeCells bs t).1 := by
  induction bs generalizing t with
  | nil => exact h
  | cons b bs ih =>
    refine ih (t := (writeCell t b).1) ?_
    unfold writeCell; dsimp only
    split <;> exact h.same rfl rfl rfl

theorem State.Undisturbed.readCells (n : Nat) (h : s.Undisturbed t) : s.Undisturbed (readCells n t).2 := by
  induction n generalizing t with
  | zero => exact h
  | succ n ih => exact ih (t := t.advance.1) (h.same rfl rfl rfl)

/-- Restart empties every slot, and keeps the Timer, the pending close and the sends due (R155, log 19). -/
theorem State.Undisturbed.ownRestart (h : s.Undisturbed t) (payload : List Byte) :
    s.Undisturbed (ownRestart payload t).2 := by
  have hcleared : s.Undisturbed (restartBlocks t) := (h.mapPorts Port.reset_gathers).same rfl rfl rfl
  unfold Machine.ownRestart; split
  · dsimp only; exact hcleared.post ..
  · exact h

/-! ### A frame (R96, R132, R133) -/

/-- The owner of a packet disturbs nothing. -/
theorem Served.undisturbed {o : Origin} {p : Permission} {own : State → Reply × State} (hown : Served o p own)
    (h : s.Undisturbed t) : s.Undisturbed (own t).2 := by
  cases hown with
  | refused why => exact h
  | echo b => rw [ownEcho_state]; exact h
  | identify b => rw [ownIdentify_state]; exact h
  | readStatus b => rw [ownReadStatus_state]; exact h
  | configure b =>
    unfold ownConfigure; repeat' split
    exacts [h, h, h.same rfl rfl rfl]
  | readParameters b => rw [ownReadParameters_state]; exact h
  | setPartition b =>
    unfold ownSetPartition; repeat' split
    exacts [h, h, h.same rfl rfl rfl, h]
  | restart b => exact h.ownRestart b
  | clearShed b =>
    unfold ownClearShed; split
    exacts [h.setLane .., h]
  | counterExchangeAdd b => exact h.ownCounterExchangeAdd b
  | activate port => exact h.ownPort port h.activatePort
  | makeDormant port => exact h.ownPort port h.makePortDormant
  | turnOff port => exact h.ownPort port h.turnPortOff
  | portReset port => exact h.ownPort port fun p => h.modPort p Port.reset_gathers
  | setClass port cls => exact h.ownSetClass port cls
  | loadTranslate b =>
    unfold ownLoadTranslate; repeat' split
    exacts [h, h, h.same rfl rfl rfl, h]
  | readTranslate b => rw [ownReadTranslate_state]; exact h
  | setWindow b =>
    unfold ownSetWindow; repeat' split
    exacts [h, h.same rfl rfl rfl, h, h, h]
  | writeWindow b =>
    unfold ownWriteWindow; split
    exacts [h, h.writeCells b]
  | readWindow b =>
    unfold ownReadWindow; split
    exacts [h.readCells _, h]
  | fetchRegistrations b => rw [ownFetchRegistrations_state]; exact h
  | admitHeadset b => exact h.ownAdmit b
  | deny b => exact h.ownDeny b
  | release b => exact h.ownRelease b
  | readRecord b => rw [ownReadRecord_state]; exact h
  | forceHandoff b => exact h.ownForceHandoff b
  | freezeOn d =>
    have hset : ∀ f, s.Undisturbed { t with freeze := f } := fun _ => h.same rfl rfl rfl
    unfold ownFreezeOn freezeReply; dsimp only
    split
    · dsimp only; exact (hset _).post ..
    · exact hset _
  | freezeOff =>
    unfold ownFreezeOff freezeReply; split <;> exact h.same rfl rfl rfl
  | fetchEvents b =>
    unfold ownFetchEvents; split
    exacts [h.same rfl rfl rfl, h]

theorem State.Undisturbed.served (h : s.Undisturbed t) {o : Origin} {f : State → State} (hf : ServesPacket o f) :
    s.Undisturbed (f t) := by
  obtain ⟨p, own, hown, rfl⟩ := hf
  rcases serve_cases o p own t with ⟨-, e⟩ | ⟨-, -, e⟩ | ⟨-, -, e⟩ <;> rw [e]
  exacts [h.shedOn .., h.respond .., (hown.undisturbed h).respond ..]

theorem State.Undisturbed.parseBlock (h : s.Undisturbed t) (l : CtlLane) (fuel : Nat) (bytes : List Byte) :
    s.Undisturbed (parseBlock l fuel bytes t) := by
  induction fuel generalizing bytes t with
  | zero => exact h
  | succ fuel ih =>
    cases bytes with
    | nil => exact h
    | cons b0 rest =>
      unfold Machine.parseBlock
      split
      · exact ih h rest
      split
      · split
        · exact (h.bumpCtl _).report ..
        · rename_i code tag len corrected _
          have hcounted : s.Undisturbed (if corrected then t.bumpCtl .headerCorrections else t) := by
            split
            exacts [h.bumpCtl _, h]
          dsimp only
          generalize (if corrected = true then t.bumpCtl .headerCorrections else t) = u at hcounted ⊢
          split
          · exact ih (hcounted.served (dispatchPacket_serves ..)) _
          split
          · exact hcounted.report ..
          · refine ih ?_ _
            unfold takePayload; dsimp only
            split
            exacts [hcounted.served (dispatchPacket_serves ..), (hcounted.bumpCtl _).report ..]
      · exact h.report ..

theorem State.Undisturbed.distributeLane (h : s.Undisturbed t) (frame : List Byte) (n : LaneId) :
    s.Undisturbed (distributeLane frame t n) := by
  have hplaced : ∀ (p : PortId) (v : VoiceRecord) (u : State), s.Undisturbed u → s.Undisturbed (placeAt p v u) :=
    fun p v u hu => by
      have hvoice : s.Undisturbed (u.modPort p fun q => { q with voice := (placeVoice v (u.port p).voice).1 }) :=
        hu.modPort p fun _ => .of_eq rfl rfl rfl
      unfold placeAt; dsimp only
      split
      exacts [hvoice.same rfl rfl rfl, hvoice]
  unfold Machine.distributeLane; split
  · exact h
  split
  · exact h.mapPorts fun q => by split <;> exact .of_eq rfl rfl rfl
  split
  · exact h
  · rw [distributeBound_eq]
    exact foldl_keeps (fun u p hu => hplaced p _ u hu) _ h

/-- No voice and no command of a frame disturbs the Timer, what is placed, the frame sent or a Gathering cycle. -/
theorem takeFrame_undisturbed (frame : List Byte) (s : State) : s.Undisturbed (takeFrame frame s) := by
  have hdistributed : s.Undisturbed (distribute frame s) :=
    foldl_keeps (fun _ n hu => hu.distributeLane frame n) _ (.refl s)
  have hsized : ∀ u, s.Undisturbed u → s.Undisturbed (takeControlSize u) := fun u hu => by
    rw [takeControlSize_eq]; exact hu.same rfl rfl rfl
  have hready := hsized _ hdistributed
  unfold takeFrame parseControl; dsimp only
  split
  exacts [(hready.parseBlock ..).parseBlock .., hready.parseBlock ..]

end
end Sys2Proof.Machine
end

section
/-! A downstream arrival and the clock: when it is a cycle start, what it renumbers, and what a frame of filler does
(O42). -/

namespace Sys2Proof.Machine

/-! ### A frame of filler with every lane Idle (R96, R133) -/

section
variable {frame : List Byte} (hidle : ∀ b ∈ frame.drop 3, b = 0)
include hidle

theorem byteAt_of_idle {k : Nat} (hk : 3 ≤ k) : byteAt frame k = 0 := by
  unfold byteAt
  by_cases hlength : k < frame.length
  · have hmem : frame[k] ∈ frame.drop 3 := List.mem_drop_iff_getElem.mpr
      ⟨k - 3, by omega, by congr 1; omega⟩
    rw [List.getD_eq_getElem _ _ hlength]; exact hidle _ hmem
  · exact List.getD_eq_default _ _ (Nat.le_of_not_lt hlength)

theorem frameIsVoice_of_idle (n : LaneId) : frameIsVoice frame n = false := by
  unfold frameIsVoice frameStatus
  rw [byteAt_of_idle hidle (Nat.le_add_right 3 _)]
  simp

theorem frameBlock_of_idle (n : LaneId) : ∃ m, frameBlock frame n = List.replicate m 0 := by
  refine ⟨_, List.eq_replicate_of_mem fun b hb => hidle b ?_⟩
  have hdrop : frame.drop (19 + 64 * n.val) = (frame.drop 3).drop (16 + 64 * n.val) := by
    rw [List.drop_drop]; congr 1; omega
  unfold frameBlock at hb
  rw [hdrop] at hb
  exact List.mem_of_mem_drop (List.mem_of_mem_take hb)

theorem distribute_of_idle (s : State) : distribute frame s = s :=
  List.foldl_fixed' (fun n => by unfold distributeLane; simp [frameIsVoice_of_idle hidle n]) _

/-- Such a frame is taken without effect when the control region size is as at the arrival before. -/
theorem takeFrame_of_idle {s : State} (hsize : s.parsedControl = s.partition.control) : takeFrame frame s = s := by
  have hsized : takeControlSize s = s := by
    have hkept : ¬(s.partition.control = 1 ∧ s.parsedControl = 2) := by omega
    rw [takeControlSize_eq, if_neg hkept, ← hsize]
  have hskipped : ∀ l n, parseBlock l Config.controlBlockBytes (frameBlock frame n) s = s := fun l n => by
    obtain ⟨m, hm⟩ := frameBlock_of_idle hidle n
    rw [hm, parseBlock_filler]
  unfold takeFrame parseControl; dsimp only
  rw [distribute_of_idle hidle, hsized, hskipped, hskipped, ite_self]

end

/-! ### A renumbering (R128) -/

/-- The port gathers for the cycle before n and its slots are empty. -/
def Port.Renumbered (n : CycleNo) (x : Port) : Prop :=
  x.gathering = n - 1 ∧ x.gatherSlot = none ∧ x.earlySlot = none

theorem Port.Renumbered.gathers {n : CycleNo} {x y : Port} (hx : x.Renumbered n) (h : x.Gathers y) : y.Renumbered n :=
  ⟨h.gathering.trans hx.1, h.gatherSlot hx.2.1, h.earlySlot hx.2.2⟩

theorem renumber_renumbered (n expected : CycleNo) (s : State) (p : PortId) :
    ((renumber n expected s).port p).Renumbered n := by
  have hport : (renumber n expected s).port p = (s.port p).renumber n := by
    unfold renumber; rw [State.post_port]; exact vmap_get ..
  rw [hport]; exact ⟨rfl, rfl, rfl⟩

/-- A start stamped n renumbers the part when it expected another number. -/
def renumberUnless (n expected : CycleNo) (s : State) : State := if n = expected then s else renumber n expected s

section
variable (n expected : CycleNo) (s : State)

theorem renumberUnless_schedule : (renumberUnless n expected s).schedule = s.schedule := by
  unfold renumberUnless; split
  exacts [rfl, State.post_schedule ..]

theorem renumberUnless_startFixed : (renumberUnless n expected s).startFixed = s.startFixed := by
  unfold renumberUnless; split
  exacts [rfl, State.post_startFixed ..]

theorem renumberUnless_upstreamOut : (renumberUnless n expected s).upstreamOut = s.upstreamOut := by
  unfold renumberUnless; split
  exacts [rfl, State.post_upstreamOut ..]

variable {s}

theorem renumberUnless_events (h : s.events.length < 32) : (renumberUnless n expected s).events =
    if n = expected then s.events
      else placeEvent ⟨.warning, .cycleRenumbered, s.timer.cycle, none, none, none, expected.setWidth 8⟩ s.events := by
  unfold renumberUnless; split
  · rfl
  · exact congrArg State.events
      (State.post_of_room (s := { s with ports := vmap (Port.renumber n) s.ports }) h (by decide) ..)

end

/-! ### An arrival that is a cycle start (R126, R128) -/

/-- No cycle start changes the control region size or what an arrival has taken of it. -/
theorem State.parsedControl_of_startFixed {s t : State} (h : t.startFixed = s.startFixed)
    (hsize : s.parsedControl = s.partition.control) : t.parsedControl = t.partition.control := by
  have hparsed : t.parsedControl = s.parsedControl := congrArg StartFixed.parsedControl h
  have hpartition : t.partition = s.partition := congrArg StartFixed.partition h
  rw [hparsed, hpartition, hsize]

section
variable (order : StartOrder) (time : Nat) (frame : List Byte) (s : State)

/-- The start renumbers meanwhile where its stamp is not the next number, and then its transmit is not taken first; the
frame is taken meanwhile too, or after the start. -/
theorem arriveStarting_cases :
    let renumbered := renumberUnless (frameCycle frame) (s.timer.cycle + 1)
    ∃ o : StartOrder, (frameCycle frame ≠ s.timer.cycle + 1 → o.transmitFirst = false) ∧
      (arriveStarting order time frame s =
          cycleStart o (frameCycle frame) time (fun u => takeFrame frame (renumbered u)) s ∨
        arriveStarting order time frame s = takeFrame frame (cycleStart o (frameCycle frame) time renumbered s)) := by
  refine ⟨{ order with transmitFirst := order.transmitFirst && frameCycle frame = s.timer.cycle + 1 },
    fun h => by rw [decide_eq_false h, Bool.and_false], ?_⟩
  unfold arriveStarting; dsimp only
  split
  exacts [.inl rfl, .inr rfl]

theorem arriveStarting_schedule :
    (arriveStarting order time frame s).schedule = s.scheduleStarted (frameCycle frame) time := by
  obtain ⟨o, -, h | h⟩ := arriveStarting_cases order time frame s
  · rw [h]
    exact cycleStart_schedule fun u => (takeFrame_undisturbed frame _).schedule.trans (renumberUnless_schedule ..)
  · rw [h, (takeFrame_undisturbed frame _).schedule]
    exact cycleStart_schedule (renumberUnless_schedule _ _)

theorem arriveStarting_number :
    (arriveStarting order time frame s).upstreamOut.take 2 = halfBytes (frameCycle frame) := by
  obtain ⟨o, -, h | h⟩ := arriveStarting_cases order time frame s
  · rw [h]
    exact cycleStart_number
      (fun u => (takeFrame_undisturbed frame _).upstreamOut.trans (renumberUnless_upstreamOut ..))
      fun u => (takeFrame_undisturbed frame _).schedule.trans (renumberUnless_schedule ..)
  · rw [h, (takeFrame_undisturbed frame _).upstreamOut]
    exact cycleStart_number (renumberUnless_upstreamOut _ _) (renumberUnless_schedule _ _)

variable {order time frame s}

/-- After an arrival out of step every port is renumbered, whatever the commands of its frame do (R128). -/
theorem arriveStarting_renumbered (hstamp : frameCycle frame ≠ s.timer.cycle + 1) (p : PortId) :
    ((arriveStarting order time frame s).port p).Renumbered (frameCycle frame) := by
  have hmeanwhile : ∀ u, ((renumberUnless (frameCycle frame) (s.timer.cycle + 1) u).port p).Renumbered
      (frameCycle frame) := fun u => by
    rw [renumberUnless, if_neg hstamp]; exact renumber_renumbered ..
  have htransmit : ∀ o u, (transmitAt o u).port p = u.port p := fun o u => by
    rw [transmitAt_frame]; dsimp only [State.port]
  obtain ⟨o, hlast, h | h⟩ := arriveStarting_cases order time frame s
  · rw [h, cycleStart, if_neg (by simp [hlast hstamp]), htransmit]
    exact (hmeanwhile _).gathers ((takeFrame_undisturbed frame _).ports p)
  · refine Port.Renumbered.gathers ?_ (h ▸ (takeFrame_undisturbed frame _).ports p)
    rw [cycleStart, if_neg (by simp [hlast hstamp]), htransmit]
    exact hmeanwhile _

/-- A quiet start by a frame of filler posts Cycle Renumbered alone, and in step nothing. -/
theorem arriveStarting_events_of_idle (hidle : ∀ b ∈ frame.drop 3, b = 0)
    (hsize : s.parsedControl = s.partition.control) (hs : s.Quiet) (hroom : s.events.length < 32) :
    (arriveStarting order time frame s).events = if frameCycle frame = s.timer.cycle + 1 then s.events
      else placeEvent ⟨.warning, .cycleRenumbered, frameCycle frame, none, none, none,
        (s.timer.cycle + 1).setWidth 8⟩ s.events := by
  have htaken : ∀ u : State, u.startFixed = s.startFixed → takeFrame frame u = u := fun u hu =>
    takeFrame_of_idle hidle (State.parsedControl_of_startFixed hu hsize)
  have hposted : ∀ u : State, u.schedule = s.scheduleStarted (frameCycle frame) time → u.events = s.events →
      (renumberUnless (frameCycle frame) (s.timer.cycle + 1) u).events = _ := fun u hschedule hqueue => by
    rw [renumberUnless_events _ _ (by rwa [hqueue]), hqueue,
      show u.timer = s.timerStarted s.timer.clock (frameCycle frame) time from congrArg Schedule.timer hschedule]
  obtain ⟨o, -, h | h⟩ := arriveStarting_cases order time frame s <;> rw [h]
  · obtain ⟨u, hschedule, hfixed, hqueue, hevents⟩ := cycleStart_events_of_quiet (order := o)
      (n := frameCycle frame) (time := time) hs
    rw [hevents, htaken _ ((renumberUnless_startFixed ..).trans hfixed)]
    exact hposted u hschedule hqueue
  · obtain ⟨u, hschedule, hfixed, hqueue, hevents⟩ := cycleStart_events_of_quiet (order := o)
      (n := frameCycle frame) (time := time) hs
    rw [htaken _ (cycleStart_startFixed (renumberUnless_startFixed _ _)), hevents]
    exact hposted u hschedule hqueue

end

/-! ### The clock an arrival finds (R126, R127, R129) -/

/-- In v the arrival has been recorded and the timer is in Follow, as the arrival's start finds it: a return from
Holdover has posted Clock Restored, and nothing else has changed. -/
structure State.FoundFollowing (s : State) (time : Nat) (v : State) : Prop where
  timer : v.timer = { s.timer with clock := .follow, lastArrival := time }
  startFixed : v.startFixed = s.startFixed
  quiet : s.Quiet → v.Quiet
  events : s.events.length < 32 → v.events = if s.timer.clock = .holdover then
    placeEvent ⟨.notice, .clockRestored, s.timer.cycle, none, none, none, 1⟩ s.events else s.events

/-- The state with the time of the arrival recorded. -/
def State.arrivedAt (s : State) (time : Nat) : State := { s with timer := { s.timer with lastArrival := time } }

theorem State.arrivedAt_foundFollowing {s : State} (hclock : s.timer.clock = .follow) (time : Nat) :
    s.FoundFollowing time (s.arrivedAt time) where
  timer := by rw [← hclock]; rfl
  startFixed := s.setTimer_startFixed _
  quiet hs := ⟨hs.noClose, hs.noFreeze⟩
  events _ := by rw [hclock]; rfl

/-- A return from Holdover at a time, which posts Clock Restored (R127). -/
theorem restoreFollow_eq {s : State} (hroom : s.events.length < 32) (started : Bool) (time : Nat) :
    restoreFollow started (s.arrivedAt time) = { s with
      timer := { s.timer with clock := .follow, lastArrival := time }
      events := placeEvent ⟨.notice, .clockRestored, s.timer.cycle, none, none, none, bit started⟩ s.events } :=
  State.post_of_room (s := { s.arrivedAt time with timer := { (s.arrivedAt time).timer with clock := .follow } }) hroom
    (by decide) ..

theorem restoreFollow_startFixed (s : State) (started : Bool) (time : Nat) :
    (restoreFollow started (s.arrivedAt time)).startFixed = s.startFixed := by
  unfold restoreFollow; rw [State.post_startFixed, State.setTimer_startFixed]; exact s.setTimer_startFixed _

theorem restoreFollow_timer (s : State) (started : Bool) (time : Nat) :
    (restoreFollow started (s.arrivedAt time)).timer = { s.timer with clock := .follow, lastArrival := time } := by
  unfold restoreFollow; rw [State.post_timer]; rfl

theorem restoreFollow_foundFollowing {s : State} (hclock : s.timer.clock = .holdover) (time : Nat) :
    s.FoundFollowing time (restoreFollow true (s.arrivedAt time)) where
  timer := restoreFollow_timer ..
  startFixed := restoreFollow_startFixed ..
  quiet hs := by
    unfold restoreFollow
    exact ⟨(State.post_pendingClose ..).trans hs.noClose, by rw [State.post_freeze]; exact hs.noFreeze⟩
  events hroom := by rw [restoreFollow_eq hroom, if_pos hclock]; rfl

section
variable {s v : State} {time : Nat}

/-- The schedule of the start is that of an arrival in Follow, whatever the clock was (R126, R127). -/
theorem State.FoundFollowing.scheduleStarted (h : s.FoundFollowing time v) (n : CycleNo) :
    v.scheduleStarted n time = ⟨{ s.timerStarted .follow n time with lastArrival := time },
      some ⟨n - 1, time + s.params.gatherDelay⟩, Vector.replicate 24 true⟩ := by
  have hparams : v.params = s.params := congrArg StartFixed.params h.startFixed
  unfold State.scheduleStarted State.timerStarted
  rw [hparams, h.timer]

/-- Clock Restored leaves room for another event where two had room. -/
theorem State.FoundFollowing.room (h : s.FoundFollowing time v) (hroom : s.events.length < 31) :
    v.events.length < 32 := by
  rw [h.events (by omega)]
  split
  · rw [placeEvent_length]; omega
  · omega

end

/-- The arrival is a cycle start, in Follow and in the second half of a cycle in Holdover. -/
theorem arrive_starts {after : Nat} {order : StartOrder} {frame : List Byte} {s : State}
    (h : s.timer.clock = .follow ∨ s.timer.clock = .holdover ∧ 8 ≤ after) :
    ∃ v, s.FoundFollowing (s.timer.lastStart + after) v ∧
      arrive after order frame s = arriveStarting order (s.timer.lastStart + after) frame v := by
  unfold arrive
  rcases h with hclock | ⟨hclock, hlate⟩ <;> rw [hclock]
  · exact ⟨_, State.arrivedAt_foundFollowing hclock _, rfl⟩
  · exact ⟨_, restoreFollow_foundFollowing hclock _, if_pos hlate⟩

theorem arrive_early {after : Nat} {order : StartOrder} {frame : List Byte} {s : State}
    (hclock : s.timer.clock = .holdover) (hearly : after < 8) : arrive after order frame s =
      takeFrame frame (restoreFollow false (s.arrivedAt (s.timer.lastStart + after))) := by
  unfold arrive; rw [hclock]; exact if_neg (by omega)

theorem arrive_local {after : Nat} {order : StartOrder} {frame : List Byte} {s : State}
    (hclock : s.timer.clock = .localClock) : arrive after order frame s =
      takeFrame frame (s.arrivedAt (s.timer.lastStart + after)) := by
  unfold arrive; rw [hclock]; rfl

end Sys2Proof.Machine

section
open Sys2Proof Sys2Proof.Machine

/-- Settles O42: a start places all that the statement names before or without the frame, and the frame disturbs none of
it. -/
theorem arrivalIsACycleStartByTheClock : Obligations.ArrivalIsACycleStartByTheClock := by
  intro after order frame s hlength n next time filler restored
  have hrun := exec_downstreamArrival (after := after) (order := order) (s := s) hlength
  refine ⟨_, hrun, (exec_tableRun hrun).pending, fun hclock => ?_, fun hclock hearly => ?_, fun hclock => ?_⟩
  · obtain ⟨v, hv, hstart⟩ := arrive_starts (order := order) (frame := frame) hclock
    have hnext : v.timer.cycle + 1 = next := by rw [hv.timer]
    have hschedule := arriveStarting_schedule order time frame v
    rw [hv.scheduleStarted] at hschedule
    injection hschedule with htimer hclose hsends
    rw [hstart]
    refine ⟨htimer, hclose, fun p => hsends ▸ replicate_get true p, arriveStarting_number order time frame v,
      fun hstamp p => arriveStarting_renumbered (by rwa [hnext]) p, fun ⟨hidle, hsize⟩ hnone hunfrozen hroom => ?_⟩
    have hqueue := hv.events (by omega)
    have hcontrol := State.parsedControl_of_startFixed hv.startFixed hsize
    rw [arriveStarting_events_of_idle hidle hcontrol (hv.quiet ⟨hnone, hunfrozen⟩) (hv.room hroom), hnext, hqueue]; rfl
  · rw [arrive_early hclock hearly]
    obtain ⟨hschedule, hsent, -⟩ := takeFrame_undisturbed frame (restoreFollow false (s.arrivedAt time))
    injection hschedule with htimer hclose hsends
    refine ⟨htimer.trans (restoreFollow_timer ..), hclose.trans (State.post_pendingClose ..),
      hsends.trans (State.post_sendDue ..), hsent.trans (State.post_upstreamOut ..), fun ⟨hidle, hsize⟩ hroom => ?_⟩
    rw [takeFrame_of_idle hidle (State.parsedControl_of_startFixed (restoreFollow_startFixed ..) hsize),
      restoreFollow_eq hroom]; rfl
  · rw [arrive_local hclock]
    obtain ⟨hschedule, hsent, -⟩ := takeFrame_undisturbed frame (s.arrivedAt time)
    injection hschedule with htimer hclose hsends
    exact ⟨htimer, hclose, hsends, hsent, fun hfill => takeFrame_of_idle hfill.1 hfill.2⟩

end
end

section
/-! The Event Queue, the counters and the Response Queues: which commands change them, each within their bounds (O5). -/

namespace Sys2Proof.Machine

/-! ### The Event Queue (R165 to R167) -/

/-- An event placed leaves no event behind one of a lower class (R166). -/
theorem placeEvent_ordered {q : List Event} (h : q.Pairwise fun x y => y.cls.rank ≤ x.cls.rank) (e : Event) :
    (placeEvent e q).Pairwise fun x y => y.cls.rank ≤ x.cls.rank := by
  obtain ⟨before, after, rfl, hplaced, hbefore, hafter⟩ := placeEvent_placedIn (e := e) h
  obtain ⟨hfirst, hlast, hacross⟩ := List.pairwise_append.mp h
  rw [hplaced]
  refine List.pairwise_append.mpr ⟨hfirst, List.pairwise_cons.mpr ⟨fun x hx => (hafter x hx).le, hlast⟩, fun x hx y hy => ?_⟩
  rcases List.mem_cons.mp hy with rfl | hy
  exacts [hbefore x hx, hacross x hx y hy]

theorem eventsOk.sublist {q q' : List Event} (h : eventsOk q) (hs : q'.Sublist q) : eventsOk q' :=
  ⟨hs.length_le.trans h.1, h.2.sublist hs⟩

/-- An event queued, in place of the last one where the queue is full, leaves the queue lawful (R166, R167). -/
theorem eventsOk.queueEvent {q : List Event} (h : eventsOk q) (e : Event) : eventsOk (queueEvent q e).1 := by
  refine ⟨queueEvent_length q e h.1, ?_⟩
  unfold Machine.queueEvent
  split
  · exact placeEvent_ordered h.2 e
  split
  · exact h.2
  split
  exacts [placeEvent_ordered (h.2.sublist (List.dropLast_sublist q)) e, h.2]

/-! ### Control lanes (R140, R141, R146) -/

/-- From one value of a control lane to the other the queue has not grown, and Shed Tag stays 0 while Shed is clear. -/
structure ControlLane.Eased (c d : ControlLane) : Prop where
  queue : d.queue.length ≤ c.queue.length
  shedTag : (c.shed = false → c.shedTag = 0) → d.shed = false → d.shedTag = 0

theorem ControlLane.Eased.refl (c : ControlLane) : c.Eased c := ⟨le_rfl, id⟩

theorem ControlLane.Eased.trans {c d e : ControlLane} (h : c.Eased d) (h' : d.Eased e) : c.Eased e :=
  ⟨h'.queue.trans h.queue, h'.shedTag ∘ h.shedTag⟩

theorem ControlLane.Eased.ok {c d : ControlLane} (h : c.Eased d) (hc : c.ok) : d.ok :=
  ⟨h.queue.trans hc.1, h.shedTag hc.2⟩

theorem ControlLane.eased_empty (c : ControlLane) : c.Eased .empty := ⟨Nat.zero_le _, fun _ _ => rfl⟩

theorem State.controlOk_iff (s : State) : s.ControlOk ↔ ∀ l, (s.lane l).ok :=
  ⟨fun h l => by cases l; exacts [h.1, h.2], fun h => ⟨h .primary, h .secondary⟩⟩

/-- A lane with room takes one response more (R140, R141). -/
theorem State.ControlOk.respond {s : State} (h : s.ControlOk) {l : CtlLane} (hroom : (s.lane l).full = false)
    (x : Response) : (s.respond l x).ControlOk := by
  rw [State.controlOk_iff] at h ⊢
  intro m
  unfold State.respond
  rw [State.setLane_lane]
  split
  · have hlength : ¬Config.maxResponses ≤ (s.lane l).queue.length := of_decide_eq_false hroom
    refine ⟨?_, (h l).2⟩
    simp only [ControlLane.enqueue, List.length_append, List.length_singleton]; omega
  · exact h m

/-! ### Counters (R169, R170) -/

/-- A counter set holds its value, and every other counter is as it was (R170). -/
theorem State.setCounter_counter (s : State) (c d : CounterName) (v : Nat) :
    (s.setCounter c v).counter d = if d = c then v else s.counter d := by
  cases c with
  | roam k =>
    cases d with
    | roam j => simp [State.setCounter, State.counter, vset_get]
    | _ => exact (if_neg nofun).symm
  | ctl k =>
    cases d with
    | ctl j => simp [State.setCounter, State.counter, vset_get]
    | _ => exact (if_neg nofun).symm
  | port p k =>
    cases d with
    | port q j =>
      by_cases hq : q = p
      · subst hq; simp [State.setCounter, State.counter, State.modPort_port, vset_get]
      · simp [State.setCounter, State.counter, State.modPort_port, hq]
    | _ => exact (if_neg nofun).symm
  | lane n k =>
    cases d with
    | lane m j =>
      by_cases hm : m = n
      · subst hm; simp [State.setCounter, State.counter, vset_get]
      · simp [State.setCounter, State.counter, vset_get, hm]
    | _ => exact (if_neg nofun).symm

/-! ### The law, and what leaves it alone -/

/-- What the law speaks of: the Event Queue, the counters and the control lanes. -/
def State.tally (s : State) : List Event × (CounterName → Nat) × (CtlLane → ControlLane) :=
  (s.events, s.counter, s.lane)

/-- From s to t the Event Queue stays lawful, every counter stays within 65535, and no control lane gains a response. -/
structure State.Tallied (s t : State) : Prop where
  events : eventsOk s.events → eventsOk t.events
  counters : ∀ c, s.counter c ≤ Config.counterMax → t.counter c ≤ Config.counterMax
  lanes : ∀ l, (s.lane l).Eased (t.lane l)

theorem State.Tallied.refl (s : State) : s.Tallied s := ⟨id, fun _ => id, fun _ => .refl _⟩

theorem State.Tallied.trans {s t u : State} (h : s.Tallied t) (h' : t.Tallied u) : s.Tallied u :=
  ⟨h'.events ∘ h.events, fun c => h'.counters c ∘ h.counters c, fun l => (h.lanes l).trans (h'.lanes l)⟩

section
variable {s t u : State}

/-- What changes neither events nor counters nor control lanes keeps the law. -/
theorem State.Tallied.same (h : s.Tallied t) (htally : u.tally = t.tally) : s.Tallied u := by
  simp only [State.tally, Prod.mk.injEq] at htally
  obtain ⟨hevents, hcounters, hlanes⟩ := htally
  exact h.trans ⟨by rw [hevents]; exact id, fun c => by rw [hcounters]; exact id, fun l => by rw [hlanes]; exact .refl _⟩

theorem State.Tallied.setCounter (h : s.Tallied t) (c : CounterName) {v : Nat}
    (hv : t.counter c ≤ Config.counterMax → v ≤ Config.counterMax) : s.Tallied (t.setCounter c v) := by
  have hevents : (t.setCounter c v).events = t.events := by cases c <;> rfl
  have hlanes : (t.setCounter c v).lane = t.lane := by cases c <;> rfl
  refine h.trans ⟨by rw [hevents]; exact id, fun d hd => ?_, fun l => by rw [hlanes]; exact .refl _⟩
  rw [State.setCounter_counter]; split
  · rename_i hdc; exact hv (hdc ▸ hd)
  · exact hd

/-- A counter incremented saturates at 65535 (R169). -/
theorem State.Tallied.raiseCounter (h : s.Tallied t) (c : CounterName) :
    s.Tallied (t.setCounter c (satInc (t.counter c))) := h.setCounter c (satInc_le _)

theorem State.Tallied.bumpRoam (h : s.Tallied t) (k : RoamCounter) : s.Tallied (t.bumpRoam k) :=
  h.raiseCounter (.roam k.index)

theorem State.Tallied.bumpCtl (h : s.Tallied t) (k : CtlCounter) : s.Tallied (t.bumpCtl k) :=
  h.raiseCounter (.ctl k.index)

theorem State.Tallied.bumpPort (h : s.Tallied t) (p : PortId) (k : PortCounter) : s.Tallied (t.bumpPort p k) :=
  h.raiseCounter (.port p k.index)

theorem State.Tallied.bumpLane (h : s.Tallied t) (n : LaneId) (k : LaneCounter) : s.Tallied (t.bumpLane n k) :=
  h.raiseCounter (.lane n k.index)

theorem State.Tallied.bumpTimes (p : PortId) (k : PortCounter) (m : Nat) (h : s.Tallied t) :
    s.Tallied (bumpTimes p k m t) := by
  induction m generalizing t with
  | zero => exact h
  | succ m ih => exact ih (h.bumpPort p k)

/-- Ports that count as before, or from 0 again, keep the law. -/
theorem State.Tallied.ports (h : s.Tallied t) (ports : Vector Port 24)
    (hports : ∀ p, (ports.get p).counters = (t.port p).counters ∨ (ports.get p).counters = Vector.replicate 7 0) :
    s.Tallied { t with ports := ports } := by
  refine h.trans ⟨id, fun c hc => ?_, fun _ => .refl _⟩
  cases c with
  | port p k =>
    show (ports.get p).counters.get k ≤ _
    rcases hports p with e | e <;> rw [e]
    · exact hc
    · rw [replicate_get]; exact Nat.zero_le _
  | _ => exact hc

theorem State.Tallied.mapPorts (h : s.Tallied t) (f : Port → Port)
    (hf : ∀ q : Port, (f q).counters = q.counters ∨ (f q).counters = Vector.replicate 7 0) :
    s.Tallied { t with ports := vmap f t.ports } :=
  h.ports _ fun p => by rw [vmap_get]; exact hf _

theorem State.Tallied.modPort (h : s.Tallied t) (p : PortId) (f : Port → Port)
    (hf : ∀ q : Port, (f q).counters = q.counters) : s.Tallied (t.modPort p f) :=
  h.ports _ fun q => by
    rw [vset_get]; split
    · rename_i hq; rw [hq]; exact .inl (hf _)
    · exact .inl rfl

theorem State.Tallied.setLane (h : s.Tallied t) (l : CtlLane) {c : ControlLane} (hc : (t.lane l).Eased c) :
    s.Tallied (t.setLane l c) := by
  have hcounter : (t.setLane l c).counter = t.counter := by cases l <;> rfl
  refine h.trans ⟨by rw [State.setLane_events]; exact id, fun d => by rw [hcounter]; exact id, fun m => ?_⟩
  rw [State.setLane_lane]; split
  · rename_i hm; rw [hm]; exact hc
  · exact .refl _

/-- Shed is set, so its tag may be any (R141). -/
theorem State.Tallied.shedOn (h : s.Tallied t) (l : CtlLane) (tag : Byte) : s.Tallied (t.shedOn l tag) := by
  unfold State.shedOn; dsimp only
  refine State.Tallied.bumpCtl (h.setLane l ?_) _
  split
  exacts [.refl _, ⟨le_rfl, nofun⟩]

theorem State.Tallied.post (h : s.Tallied t) (c : EventClass) (k : EventKind) (p : Option PortId)
    (i : Option HeadsetId) (n : Option LaneId) (d : Byte) : s.Tallied (t.post c k p i n d) := by
  rcases t.post_cases c k p i n d with ⟨-, -, e⟩ | e <;> rw [e]
  · exact h
  · exact h.trans ⟨fun hq => hq.queueEvent _, fun _ => id, fun _ => .refl _⟩

theorem State.Tallied.requestOrder (h : s.Tallied t) (p : PortId) (k : OrderKind) (x : HeadsetId) :
    s.Tallied (t.requestOrder p k x).2 := by
  have hasked : ∀ q, s.Tallied (t.modPort p fun y => { y with orders := q }) := fun q => h.modPort p _ fun _ => rfl
  rcases t.requestOrder_cases p k x with ⟨-, e⟩ | ⟨o, q, -, -, e⟩ | ⟨q, -, e⟩ <;> simp only [e]
  exacts [h, hasked q, ((hasked q).bumpPort p _).post ..]

end

/-- The work on the roaming table keeps the law. -/
theorem State.tallied_tableLaw (s : State) : TableLaw s.Tallied where
  setRecord _ _ h := h.same rfl
  setLoad _ _ h := h.same rfl
  bumpRoam k h := h.bumpRoam k
  post c k p i n d h := h.post c k p i n d
  requestOrder p k x h := h.requestOrder p k x
  returnLane _ h := h.same rfl
  holdRequests _ h := h.same rfl

section
variable {s t : State}

/-! ### Ports -/

theorem State.Tallied.departRecords (h : s.Tallied t) (p : PortId) (toDormant : Bool) :
    s.Tallied (departRecords p toDormant t) :=
  foldl_keeps (fun _ r hu => s.tallied_tableLaw.treatDeparture p toDormant r hu) _ h

theorem State.Tallied.enterDown (h : s.Tallied t) (p : PortId) (new : PortState) : s.Tallied (enterDown p new t) := by
  have hnew : s.Tallied (t.modPort p fun q => { q with state := new }) := h.modPort p _ fun _ => rfl
  have hleft : s.Tallied (if (t.port p).state = .active then
      Machine.departRecords p false (t.modPort p fun q => { q with state := new })
        else t.modPort p fun q => { q with state := new }) := by
    split
    exacts [hnew.departRecords p false, hnew]
  unfold Machine.enterDown; dsimp only
  exact (hleft.modPort p Port.goDown fun _ => rfl).same rfl

theorem State.Tallied.activatePort (h : s.Tallied t) (p : PortId) : s.Tallied (activatePort p t) := by
  unfold Machine.activatePort; split
  exacts [h.modPort p _ fun _ => rfl, h.modPort p _ fun _ => rfl, h, h.modPort p _ fun _ => rfl]

theorem State.Tallied.makePortDormant (h : s.Tallied t) (p : PortId) : s.Tallied (makePortDormant p t) := by
  have hdormant : s.Tallied (t.modPort p fun q => { q with state := .dormant }) := h.modPort p _ fun _ => rfl
  unfold Machine.makePortDormant enterDormant; split
  exacts [h.modPort p _ fun _ => rfl, h, (hdormant.departRecords p true).modPort p _ fun _ => rfl,
    h.modPort p _ fun _ => rfl]

theorem State.Tallied.turnPortOff (h : s.Tallied t) (p : PortId) : s.Tallied (turnPortOff p t) := by
  unfold Machine.turnPortOff; split
  exacts [h, (h.enterDown p .off).modPort p _ fun _ => rfl]

/-- A port that is reset counts from 0 again (R107). -/
theorem State.Tallied.resetPort (h : s.Tallied t) (p : PortId) : s.Tallied (resetPort p t) :=
  h.ports _ fun q => by
    rw [vset_get]; split
    exacts [.inr rfl, .inl rfl]

theorem State.Tallied.ownPort (h : s.Tallied t) (port : Byte) {act : PortId → State → State}
    (hact : ∀ p, s.Tallied (act p t)) : s.Tallied (ownPort port act t).2 := by
  unfold Machine.ownPort; split
  exacts [h, hact _]

theorem State.Tallied.isolatePort (h : s.Tallied t) (p : PortId) (ret : ReturnState) :
    s.Tallied (isolatePort p ret t) :=
  ((h.modPort p (fun q => { q with returnState := ret }) fun _ => rfl).post ..).enterDown p .isolated

/-- An accepted frame counts its records with bad IDs and its damaged bursts, and delivers its Acquire Results
(R112 to R114). -/
theorem State.Tallied.acceptFrame (h : s.Tallied t) (p : PortId) (w : Placement) (f : Uplink) :
    s.Tallied (acceptFrame p w f t) := by
  have hlatched : s.Tallied (latchFlags p f.flags t) := by
    unfold latchFlags; split
    exacts [h, (h.modPort p (fun q => { q with flags := f.flags }) fun _ => rfl).post ..]
  have hheld : ∀ (g : HeldFrame) (u : State), s.Tallied u → s.Tallied (holdFrame p w g u) := fun g u hu => by
    rw [holdFrame_eq]; exact hu.modPort p _ fun q => q.holding_counters w g
  have hdelivered : ∀ (xs : List (HeadsetId × AcquireOutcome)) (u : State), s.Tallied u →
      s.Tallied (deliverResults p xs u) := fun xs u hu => by
    unfold deliverResults; split
    · exact foldl_keeps (fun _ (x : HeadsetId × AcquireOutcome) hv =>
        s.tallied_tableLaw.takeAcquireResult p x.1 x.2 hv) _ hu
    · exact hu
  exact hdelivered _ _ (hheld _ _ ((hlatched.bumpTimes ..).bumpTimes ..))

theorem State.Tallied.placeFrame (h : s.Tallied t) (p : PortId) (f : Uplink) : s.Tallied (placeFrame p f t) := by
  have hplaced : ∀ w, s.Tallied (if (t.port p).occupied w then t.bumpPort p .overruns
      else if (t.port p).settling then t.modPort p fun q => { q with settling := false } else Machine.acceptFrame p w f t) :=
    fun w => by
      repeat' split
      exacts [h.bumpPort .., h.modPort p _ fun _ => rfl, h.acceptFrame p w f]
  unfold Machine.placeFrame; dsimp only
  split
  exacts [h.bumpPort .., h.bumpPort .., hplaced _, hplaced _]

theorem State.Tallied.examineRecovery (h : s.Tallied t) (p : PortId) (bytes : List Byte) :
    s.Tallied (examineRecovery p bytes t) := by
  have hrecovered : ∀ st, s.Tallied (t.modPort p fun q => { q with state := st, settling := false }) :=
    fun _ => h.modPort p _ fun _ => rfl
  unfold Machine.examineRecovery; dsimp only
  repeat' split
  exacts [h, (hrecovered _).post .., h]

/-! ### The close and the voice path -/

/-- A close works on the table and moves the frames of the ports (R8, R115). -/
theorem State.Tallied.makePendingClose (h : s.Tallied t) : s.Tallied (makePendingClose t) := by
  cases hc : t.pendingClose with
  | none => unfold Machine.makePendingClose; rwa [hc]
  | some c =>
    have htreated : s.Tallied t.treated :=
      foldl_keeps (fun _ r hu => s.tallied_tableLaw.closeRecord _ r hu) _ (h.same rfl)
    rw [makePendingClose_eq hc, handIntake_eq]
    generalize t.treated = done at htreated ⊢
    exact (htreated.mapPorts (Port.consume c.cycle) fun q => .inl (q.consume_orders c.cycle).2).same rfl

theorem State.Tallied.takeHoldRequest (h : s.Tallied t) (q : HoldRequest) : s.Tallied (takeHoldRequest t q) := by
  have hstored : ∀ x, s.Tallied (t.setHold q.lane x) := fun _ => h.same rfl
  unfold Machine.takeHoldRequest writeHold; dsimp only
  repeat' split
  exacts [(hstored _).bumpLane .., hstored _, h]

/-- A control block placed takes its responses out of the queue (R144). -/
theorem State.Tallied.buildControl (h : s.Tallied t) (l : CtlLane) : s.Tallied (buildControl l t).2 :=
  h.setLane l ⟨by
    have hsplit := congrArg List.length (takeResponses_append Config.responseBytes (t.lane l).queue)
    rw [List.length_append] at hsplit
    exact hsplit ▸ Nat.le_add_left .., id⟩

theorem State.Tallied.sendLane (h : s.Tallied t) (n : LaneId) : s.Tallied (sendLane n t).2 := by
  have hheld : ∀ x, s.Tallied (t.setHold n x) := fun _ => h.same rfl
  unfold Machine.sendLane sendBound; dsimp only
  repeat' split
  exacts [h.buildControl _, h, h, hheld _, (hheld _).bumpLane .., h.bumpLane ..]

theorem State.Tallied.sendLanes (ns : List LaneId) (h : s.Tallied t) : s.Tallied (sendLanes ns t).2 := by
  induction ns generalizing t with
  | nil => exact h
  | cons n ns ih => exact ih (h.sendLane n)

theorem State.Tallied.placeAt (h : s.Tallied t) (p : PortId) (v : VoiceRecord) : s.Tallied (placeAt p v t) := by
  have hplaced : s.Tallied (t.modPort p fun q => { q with voice := (placeVoice v (t.port p).voice).1 }) :=
    h.modPort p _ fun _ => rfl
  unfold Machine.placeAt; dsimp only
  split
  exacts [hplaced.bumpLane .., hplaced]

theorem State.Tallied.distributeLane (h : s.Tallied t) (frame : List Byte) (n : LaneId) :
    s.Tallied (distributeLane frame t n) := by
  unfold Machine.distributeLane distributeAllCall
  repeat' split
  · exact h
  · exact h.mapPorts _ fun q => by split <;> exact .inl rfl
  · exact h
  · rw [distributeBound_eq]
    exact foldl_keeps (fun _ p hu => hu.placeAt p _) _ h

/-! ### Owners of packets -/

theorem State.Tallied.writeCells (bs : List Byte) (h : s.Tallied t) : s.Tallied (writeCells bs t).1 := by
  induction bs generalizing t with
  | nil => exact h
  | cons b bs ih =>
    refine ih (t := (writeCell t b).1) ?_
    unfold writeCell; dsimp only
    split <;> exact h.same rfl

theorem State.Tallied.readCells (n : Nat) (h : s.Tallied t) : s.Tallied (readCells n t).2 := by
  induction n generalizing t with
  | zero => exact h
  | succ n ih => exact ih (t := t.advance.1) (h.same rfl)

theorem State.Tallied.removeRegistrations (h : s.Tallied t) (leaves : Registration → Bool) :
    s.Tallied (t.removeRegistrations leaves) := by
  obtain ⟨full, e⟩ := t.removeRegistrations_frame leaves
  rw [e]; exact h.same rfl

theorem State.Tallied.ownAdmit (h : s.Tallied t) (payload : List Byte) : s.Tallied (ownAdmit payload t).2 := by
  have hadmit : ∀ r x n cursor, s.Tallied (admitInto r x n cursor t) := fun r x n cursor => by
    have henrolled : s.Tallied (t.enrolled r x n cursor) := h.same rfl
    rw [admitInto_eq]
    refine State.Tallied.same (State.Tallied.removeRegistrations ?_ (·.id = x)) rfl
    unfold seedAttach; repeat' split
    exacts [henrolled, s.tallied_tableLaw.beginAttach _ _ henrolled, henrolled]
  unfold Machine.ownAdmit; dsimp only
  repeat' split
  exacts [h, h, h, h, hadmit .., h]

theorem State.Tallied.ownDeny (h : s.Tallied t) (payload : List Byte) : s.Tallied (ownDeny payload t).2 := by
  have hdeny : ∀ x, s.Tallied (denyHeadset x t).2 := fun x => by
    unfold denyHeadset denyOrder
    cases t.registrations.find? (·.id = x) with
    | none => exact h.same rfl
    | some e =>
      refine State.Tallied.same (t := Prod.snd (ite _ _ _)) ?_ rfl
      split
      exacts [(h.removeRegistrations _).requestOrder .., h.removeRegistrations _]
  unfold Machine.ownDeny; dsimp only
  repeat' split
  exacts [h, h, hdeny _, h]

theorem State.Tallied.ownRelease (h : s.Tallied t) (payload : List Byte) : s.Tallied (ownRelease payload t).2 := by
  have hT := s.tallied_tableLaw
  unfold Machine.ownRelease releaseRecord; dsimp only
  repeat' split
  exacts [h, h, h, hT.freeRecord _ (hT.dropAndLower _ _ (hT.dropAndLower _ _ h)), h]

theorem State.Tallied.ownForceHandoff (h : s.Tallied t) (payload : List Byte) :
    s.Tallied (ownForceHandoff payload t).2 := by
  have hforce : ∀ r antenna, s.Tallied (forceRecord r antenna t).2 := fun r antenna => by
    have hbegun := fun a => s.tallied_tableLaw.beginBridge r a .forced h
    unfold forceRecord; dsimp only
    repeat' split
    exacts [h, h, h, h, h, h, hbegun _, hbegun _]
  unfold Machine.ownForceHandoff
  repeat' split
  exacts [h, h, hforce .., h]

/-- The value stored is brought into 0 to 65535 (R170). -/
theorem State.Tallied.ownCounterExchangeAdd (h : s.Tallied t) (payload : List Byte) :
    s.Tallied (ownCounterExchangeAdd payload t).2 := by
  unfold Machine.ownCounterExchangeAdd
  repeat' split
  exacts [h, h.setCounter _ fun _ => Nat.min_le_right .., h]

/-- Restart empties the Event Queue and both control lanes, and every counter is 0 after it (R155, Table 9-5). -/
theorem State.Tallied.ownRestart (h : s.Tallied t) (payload : List Byte) : s.Tallied (ownRestart payload t).2 := by
  have hcleared : s.Tallied (restartBlocks t) := by
    refine h.trans ⟨fun _ => ⟨Nat.zero_le _, .nil⟩, fun c _ => ?_, fun l => by cases l <;> exact ControlLane.eased_empty _⟩
    have hzero : (restartBlocks t).counter c = 0 := by
      cases c <;> simp [State.counter, State.port, restartBlocks, Port.reset]
    rw [hzero]; exact Nat.zero_le _
  unfold Machine.ownRestart; split
  exacts [hcleared.post .notice .restartDone none none none 0, h]

end

/-! ### Every command -/

/-- The owner of a packet keeps the law, and queues no response itself. -/
theorem Served.tallied {o : Origin} {p : Permission} {own : State → Reply × State} (hown : Served o p own)
    {s t : State} (h : s.Tallied t) : s.Tallied (own t).2 := by
  cases hown with
  | refused why => exact h
  | echo b => rw [ownEcho_state]; exact h
  | identify b => rw [ownIdentify_state]; exact h
  | readStatus b => rw [ownReadStatus_state]; exact h
  | configure b =>
    unfold ownConfigure; repeat' split
    exacts [h, h, h.same rfl]
  | readParameters b => rw [ownReadParameters_state]; exact h
  | setPartition b =>
    unfold ownSetPartition; repeat' split
    exacts [h, h, h.same rfl, h]
  | restart b => exact h.ownRestart b
  | clearShed b =>
    unfold ownClearShed; split
    exacts [h.setLane _ ⟨le_rfl, fun _ _ => rfl⟩, h]
  | counterExchangeAdd b => exact h.ownCounterExchangeAdd b
  | activate port => exact h.ownPort port h.activatePort
  | makeDormant port => exact h.ownPort port h.makePortDormant
  | turnOff port => exact h.ownPort port h.turnPortOff
  | portReset port => exact h.ownPort port h.resetPort
  | setClass port cls =>
    unfold ownSetClass; split
    exacts [h.modPort _ (fun q => { q with cls := _ }) fun _ => rfl, h]
  | loadTranslate b =>
    unfold ownLoadTranslate; repeat' split
    exacts [h, h, h.same rfl, h]
  | readTranslate b => rw [ownReadTranslate_state]; exact h
  | setWindow b =>
    unfold ownSetWindow; repeat' split
    exacts [h, h.same rfl, h, h, h]
  | writeWindow b =>
    unfold ownWriteWindow; split
    exacts [h, h.writeCells b]
  | readWindow b =>
    unfold ownReadWindow; split
    exacts [h.readCells _, h]
  | fetchRegistrations b => rw [ownFetchRegistrations_state]; exact h
  | admitHeadset b => exact h.ownAdmit b
  | deny b => exact h.ownDeny b
  | release b => exact h.ownRelease b
  | readRecord b => rw [ownReadRecord_state]; exact h
  | forceHandoff b => exact h.ownForceHandoff b
  | freezeOn d =>
    have hset : ∀ f, s.Tallied { t with freeze := f } := fun _ => h.same rfl
    unfold ownFreezeOn freezeReply; dsimp only
    split
    · dsimp only; exact (hset _).post ..
    · exact hset _
  | freezeOff => unfold ownFreezeOff freezeReply; split <;> exact h.same rfl
  | fetchEvents b =>
    unfold ownFetchEvents; split
    · exact h.trans ⟨fun hq => hq.sublist (List.drop_sublist ..), fun _ => id, fun _ => .refl _⟩
    · exact h

/-- A row taken within one block keeps the law. -/
theorem State.Tallied.withinBlock {c : Instr} {s t u : State} (hc : c.withinBlock = true) (he : exec c t = .next u)
    (h : s.Tallied t) : s.Tallied u := by
  have hT := s.tallied_tableLaw
  have hnext : ∀ {v : State}, (.next v : Out) = .next u → s.Tallied v → s.Tallied u := fun e hv => by
    cases e; exact hv
  have hdue : ∀ {b : Bool} {v : State}, s.Tallied v → s.Tallied (if b then v else t) := fun hv => by
    split
    exacts [hv, h]
  cases c with
  | denyListingExpiry x => exact hnext he (h.same rfl)
  | downlinkSend p =>
    unfold exec execDownlinkSend at he; dsimp only at he
    split at he
    · split at he
      exacts [hnext he ((h.modPort p Port.afterSend fun _ => rfl).same rfl), hnext he (h.same rfl)]
    · exact hnext he h
  | linkLost r => exact hnext he (hdue (hT.missStage _ _ h))
  | bridgeTimeout r => exact hnext he (hdue (hT.bridgeTimerStage _ h))
  | attachTimeout r => exact hnext he (hdue (hT.attachTimerStage _ h))
  | headsetDropped r => exact hnext he (hdue (hT.orphanStage _ h))
  | barTimerExpiry r a => exact hnext he (hT.modRecord _ _ h)
  | portIsolated p =>
    have hmarked : s.Tallied { t with isolationDue := vset t.isolationDue p false } := h.same rfl
    unfold exec execPortIsolated at he; dsimp only at he
    split at he
    · split at he
      exacts [hnext he (hmarked.isolatePort ..), hnext he (hmarked.isolatePort ..), hnext he hmarked, hnext he hmarked]
    · exact hnext he h
  | registrationIntake =>
    have hreport : ∀ (g : CycleNo) (v : State) (x : Report), s.Tallied v → s.Tallied (takeReport g v x) :=
      fun g v x hv => by
        have hlisted : ∀ l, s.Tallied { v with registrations := l } := fun _ => hv.same rfl
        have hfull : s.Tallied { v with fullReported := true } := hv.same rfl
        unfold takeReport; repeat' split
        exacts [hv, hlisted _, (hlisted _).post .., hv, hfull.post ..]
    unfold exec execRegistrationIntake at he; dsimp only at he
    split at he
    exacts [hnext he h, hnext he (foldl_keeps (hreport _) _ (h.same rfl))]
  | uplinkFrame p bytes =>
    have hchecked : ∀ v, (match parseUplink bytes with
        | none => (.next (t.bumpPort p .frameErrors) : Out)
        | some f => .next (Machine.placeFrame p f t)) = .next v → s.Tallied v := fun v hv => by
      split at hv <;> cases hv
      exacts [h.bumpPort .., h.placeFrame ..]
    unfold exec execUplinkFrame at he; dsimp only at he
    split at he
    exacts [hnext he h, hnext he (h.examineRecovery ..), hchecked u he, hchecked u he]
  | _ => cases hc

/-- From s to t the Event Queue, every counter and the control lanes stay lawful. -/
structure State.Ranged (s t : State) : Prop where
  events : eventsOk s.events → eventsOk t.events
  counters : ∀ c, s.counter c ≤ Config.counterMax → t.counter c ≤ Config.counterMax
  control : s.ControlOk → t.ControlOk

theorem State.Ranged.tallied {s t u : State} (h : s.Ranged t) (h' : t.Tallied u) : s.Ranged u where
  events := h'.events ∘ h.events
  counters c := h'.counters c ∘ h.counters c
  control hs := u.controlOk_iff.mpr fun l => (h'.lanes l).ok (t.controlOk_iff.mp (h.control hs) l)

/-- A response queued where there is room keeps the law (R141). -/
theorem State.Ranged.respond {s t : State} (h : s.Ranged t) {l : CtlLane} (hroom : (t.lane l).full = false)
    (x : Response) : s.Ranged (t.respond l x) where
  events := by rw [State.respond_events]; exact h.events
  counters := by
    have hcounter : (t.respond l x).counter = t.counter := by cases l <;> rfl
    rw [hcounter]; exact h.counters
  control hs := (h.control hs).respond hroom x

/-- Every command keeps the law. -/
theorem State.ranged_lawKept (s : State) : LawKept s.Ranged where
  reset := by
    obtain ⟨-, -, -, -, -, -, -, -, hcontrol, hevents, hcounters, -, -⟩ := resetMeetsEveryLaw
    exact ⟨fun _ => hevents, fun c _ => hcounters c, fun _ => hcontrol⟩
  pending _ h := h.tallied ((State.Tallied.refl _).same rfl)
  served {o p own} hown t h := by
    rcases serve_cases o p own t with ⟨-, e⟩ | ⟨hroom, -, e⟩ | ⟨hroom, -, e⟩ <;> rw [e]
    · exact h.tallied ((State.Tallied.refl t).shedOn ..)
    · exact h.respond hroom _
    · have hkept : t.Tallied (own t).2 := hown.tallied (.refl t)
      refine (h.tallied hkept).respond (decide_eq_false fun hfull => ?_) _
      exact of_decide_eq_false hroom (hfull.trans (hkept.lanes o.lane).queue)
  bumpCtl k h := h.tallied ((State.Tallied.refl _).bumpCtl k)
  report {t} l x h := by
    unfold State.report; split
    · exact h.tallied ((State.Tallied.refl t).shedOn ..)
    · rename_i hroom; exact h.respond (Bool.eq_false_iff.mpr hroom) x
  distributeLane frame n h := h.tallied ((State.Tallied.refl _).distributeLane frame n)
  takeControlSize {t} h := by
    unfold takeControlSize retireSecondary; dsimp only
    have hretired : t.Tallied (t.setLane .secondary .empty) :=
      (State.Tallied.refl t).setLane .secondary (ControlLane.eased_empty _)
    split
    exacts [h.tallied (hretired.same rfl), h.tallied ((State.Tallied.refl t).same rfl)]
  timer _ h := h.tallied ((State.Tallied.refl _).same rfl)
  post c k p i n d h := h.tallied ((State.Tallied.refl _).post c k p i n d)
  renumbered n h := h.tallied ((State.Tallied.refl _).mapPorts (Port.renumber n) fun _ => .inl rfl)
  close h := h.tallied (State.Tallied.refl _).makePendingClose
  freezeTick {t} h := by
    have hset : ∀ f, t.Tallied { t with freeze := f } := fun _ => (State.Tallied.refl t).same rfl
    unfold freezeTick; repeat' split
    exacts [h.tallied ((hset _).post ..), h.tallied (hset _), h]
  ageRegistrations h := h.tallied ((State.Tallied.refl _).removeRegistrations _)
  countDenials h := h.tallied ((State.Tallied.refl _).same rfl)
  scheduleEvents h := h.tallied ((State.Tallied.refl _).same rfl)
  transmit {t} h := by
    have hsent := (State.Tallied.refl t).sendLanes (List.finRange 64)
    unfold transmit; dsimp only
    generalize (sendLanes (List.finRange 64) t).2 = u at hsent ⊢
    exact h.tallied (hsent.same rfl)
  holdRequests _ h := h.tallied ((State.Tallied.refl _).same rfl)
  takeHoldRequest q h := h.tallied ((State.Tallied.refl _).takeHoldRequest q)
  withinBlock hc he h := h.tallied ((State.Tallied.refl _).withinBlock hc he)

end Sys2Proof.Machine

section
open Sys2Proof Sys2Proof.Machine

/-- Settles O5: every command keeps the Event Queue, each counter and both control lanes lawful. -/
theorem queuesAndCountersStayInRange : Obligations.QueuesAndCountersStayInRange := by
  intro s t h
  obtain ⟨hevents, hcounters, hcontrol⟩ : s.Ranged t := s.ranged_lawKept.step h ⟨id, fun _ => id, id⟩
  exact ⟨hevents, fun hs c => hcounters c (hs c), hcontrol⟩

end
end

section
/-! Packets by what becomes of them: shed at a full queue, refused without authority, answered; Clear Shed, Echo and Identify
(O13, O14, O19). -/

namespace Sys2Proof.Machine

/-! ### Shedding (R141) -/

/-- A packet shed sets Shed, and gives Shed Tag its tag where Shed was clear (R141). -/
theorem State.shedOn_eq (s : State) (l : CtlLane) (tag : Byte) : s.shedOn l tag = (s.setLane l { s.lane l with
    shed := true
    shedTag := if (s.lane l).shed then (s.lane l).shedTag else tag }).bumpCtl (shedCounter l) := by
  unfold State.shedOn; dsimp only
  obtain ⟨queue, hold, shed, shedTag⟩ := s.lane l
  cases shed <;> rfl

/-- A packet that meets a full queue is shed, whatever its owner (R141). -/
theorem serve_full {o : Origin} {s : State} (h : 16 ≤ (s.lane o.lane).queue.length) (p : Permission)
    (own : State → Reply × State) : serve o p own s = s.shedOn o.lane o.tag := if_pos (decide_eq_true h)

/-! ### Authority (R138, Table 8-3) -/

/-- A packet that its lane may not send is refused with Not Permitted (R138). -/
theorem serve_denied {o : Origin} {p : Permission} {s : State} (hroom : (s.lane o.lane).queue.length < 16)
    (h : p.allows o.lane s.params.authority = false) (own : State → Reply × State) :
    serve o p own s = s.refused o 6 := by
  rcases serve_cases o p own s with ⟨hfull, -⟩ | ⟨-, -, e⟩ | ⟨-, hallowed, -⟩
  · exact absurd (of_decide_eq_true hfull) (Nat.not_le.mpr hroom)
  · exact e
  · rw [h] at hallowed; cases hallowed

/-- A delta of 0 is four bytes of 0 (R170). -/
theorem signed32_eq_zero {a b c d : Byte} (h : signed32 a b c d = 0) : [a, b, c, d] = [0, 0, 0, 0] := by
  have hsum := congrArg BitVec.toNat (BitVec.toInt_inj.mp h : (a ++ b ++ c ++ d : BitVec 32) = 0)
  rw [BitVec.toNat_append, BitVec.toNat_append, BitVec.toNat_append] at hsum
  obtain ⟨⟨⟨ha, hb⟩, hc⟩, hd⟩ : ((a.toNat = 0 ∧ b.toNat = 0) ∧ c.toNat = 0) ∧ d.toNat = 0 := by simpa using hsum
  have hbyte : ∀ x : Byte, x.toNat = 0 → x = 0 := fun _ hx => BitVec.eq_of_toNat_eq hx
  rw [hbyte a ha, hbyte b hb, hbyte c hc, hbyte d hd]

/-- A delta other than four bytes of 0 may come from the primary lane alone (R138, Table 8-3). -/
theorem exchangePermission_of_delta {p : List Byte} (h : (p.drop 2).take 4 ≠ [0, 0, 0, 0]) :
    exchangePermission p = .primaryOnly := by
  unfold exchangePermission
  split
  · exact if_neg fun hzero => h (signed32_eq_zero hzero)
  · rfl

/-- A row that Table 8-3 denies the secondary lane is served with a permission that does not allow it. -/
theorem exec_serves_denied {c : Instr} {o : Origin} {a : Authority} (ho : c.origin = some o)
    (hdenied : c.deniedSecondary a = true) :
    ∃ p own, p.allows .secondary a = false ∧ ∀ s, exec c s = .next (serve o p own s) := by
  cases c with
  | configure _ _ | setPartition _ _ | restart _ _ | activate _ _ _ | makeDormant _ _ _ | turnOff _ _ _ | portReset _ _ _
  | setClass _ _ _ | loadTranslate _ _ | readTranslate _ _ | setWindow _ _ | writeWindow _ _ | readWindow _ _
  | fetchRegistrations _ _ | admitHeadset _ _ | deny _ _ | fetchEvents _ _ =>
    cases ho; exact ⟨.primaryOnly, _, rfl, fun _ => rfl⟩
  | release _ _ | forceHandoff _ _ =>
    cases ho; exact ⟨.fullOnly, _, decide_eq_false (of_decide_eq_true hdenied), fun _ => rfl⟩
  | counterExchangeAdd _ b =>
    cases ho
    have hdelta : exchangePermission b = .primaryOnly := exchangePermission_of_delta (of_decide_eq_true hdenied)
    exact ⟨exchangePermission b, _, by rw [hdelta]; rfl, fun _ => rfl⟩
  | _ => cases hdenied

end Sys2Proof.Machine

section
open Sys2Proof Sys2Proof.Machine

/-- Settles O13: a full queue sheds whatever the packet's owner; Clear Shed is an owner that clears and answers. -/
theorem fullQueueShedsUntilCleared : Obligations.FullQueueShedsUntilCleared := by
  refine ⟨fun c o s ho hfull => ?_, fun o p s hroom => ⟨?_, fun hp => ?_⟩⟩
  · obtain ⟨f, ⟨p, own, -, rfl⟩, hrun⟩ := exec_serves ho
    rw [hrun, serve_full hfull, State.shedOn_eq]
  · rintro rfl
    exact congrArg Host.Outcome.next (serve_done (owner := ownClearShed o []) (State.serves_anyLane hroom) (if_pos rfl))
  · exact congrArg Host.Outcome.next
      (serve_refused (owner := ownClearShed o p) (why := .badArgument) (State.serves_anyLane hroom) (if_neg hp))

/-- Settles O14: a denied command's permission does not allow the secondary lane. -/
theorem secondaryLaneIsRefused : Obligations.SecondaryLaneIsRefused := by
  intro c o s ho hlane hroom hdenied
  obtain ⟨p, own, hforbids, hrun⟩ := exec_serves_denied ho hdenied
  rw [hrun, serve_denied hroom (by rw [hlane]; exact hforbids)]

/-- Settles O19: both commands are served from either lane, and their owners only read. -/
theorem echoAndIdentifyAnswer : Obligations.EchoAndIdentifyAnswer := by
  intro o p s hroom
  have hserves : s.Serves o .anyLane := State.serves_anyLane hroom
  refine ⟨fun hp => ?_, fun hp => ?_, ?_, fun hp => ?_⟩
  · exact congrArg Host.Outcome.next (serve_done (owner := ownEcho p) hserves (if_pos hp))
  · exact congrArg Host.Outcome.next
      (serve_refused (owner := ownEcho p) (why := .badArgument) hserves (if_neg (Nat.not_le.mpr hp)))
  · rintro rfl
    exact congrArg Host.Outcome.next (serve_done (owner := ownIdentify []) hserves (if_pos rfl))
  · exact congrArg Host.Outcome.next
      (serve_refused (owner := ownIdentify p) (why := .badArgument) hserves (if_neg hp))

end
end

section
/-! The header check: each wrong bit changes the header's check sum by a weight of its own, and its parity; so the sum names one
wrong bit, and two are found (O17). -/

namespace Sys2Proof.Machine

/-! ### Headers as received (R134, R135) -/

/-- The four bytes of a header. -/
structure Header where
  b0 : Byte
  b1 : Byte
  b2 : Byte
  chk : Byte

/-- A header as its sender makes it (R134). -/
def Header.made (b0 b1 b2 : Byte) : Header := ⟨b0, b1, b2, checkByte b0 b1 b2⟩

/-- A header with bit k inverted, of the bits numbered as `checkFlipped` numbers them. -/
def Header.flip (h : Header) (k : Nat) : Header :=
  ⟨flipIn 0 k h.b0, flipIn 8 k h.b1, flipIn 16 k h.b2, flipIn 24 k h.chk⟩

/-- The sum that names the wrong bit: the check bits received against those of the data received (R135). -/
def Header.sum (h : Header) : Nat := checkLow h.b0 h.b1 h.b2 ^^^ (h.chk &&& 0x1F).toNat

/-- The parity of the thirty bits (R135). -/
def Header.parity (h : Header) : Nat := (ones 8 h.b0 + ones 8 h.b1 + ones 8 h.b2 + ones 6 h.chk) % 2

/-- One of the two check bits that are always sent as 0 is set (R135). -/
def Header.spare (h : Header) : Bool := h.chk.getLsbD 6 || h.chk.getLsbD 7

/-- The header check of a header. -/
def Header.check (h : Header) : HeaderCheck := checkHeader h.b0 h.b1 h.b2 h.chk

theorem checkFlipped_eq (b0 b1 b2 : Byte) (ks : List Nat) :
    checkFlipped b0 b1 b2 ks = (ks.foldl Header.flip (Header.made b0 b1 b2)).check := by
  have hbytes : ∀ (ks : List Nat) (h : Header), ks.foldl Header.flip h =
      ⟨ks.foldl (fun b k => flipIn 0 k b) h.b0, ks.foldl (fun b k => flipIn 8 k b) h.b1,
        ks.foldl (fun b k => flipIn 16 k b) h.b2, ks.foldl (fun b k => flipIn 24 k b) h.chk⟩ := fun ks => by
    induction ks with
    | nil => exact fun _ => rfl
    | cons k ks ih => exact fun h => ih (h.flip k)
  rw [hbytes]; rfl

/-! ### Bits of a byte -/

theorem flipBit_getLsbD (b : Byte) {i : Nat} (hi : i < 8) (j : Nat) :
    (flipBit b i).getLsbD j = (b.getLsbD j ^^ decide (j = i)) := by
  have hflip : flipBit b i = b ^^^ BitVec.twoPow 8 i := rfl
  rw [hflip, BitVec.getLsbD_xor, BitVec.getLsbD_twoPow, decide_eq_true hi, Bool.true_and, decide_eq_decide.mpr eq_comm]

theorem flipIn_of_lt {start k : Nat} (h : k < start) (b : Byte) : flipIn start k b = b := if_neg (by omega)

theorem flipIn_of_ge {start k : Nat} (h : start + 8 ≤ k) (b : Byte) : flipIn start k b = b := if_neg (by omega)

theorem flipIn_of_mem {start k : Nat} (h : start ≤ k) (h' : k < start + 8) (b : Byte) :
    flipIn start k b = flipBit b (k - start) := if_pos ⟨h, h'⟩

/-- A byte of the header has one bit inverted where the header's bit k lies in it. -/
theorem flipIn_getLsbD (start k : Nat) (b : Byte) {j : Nat} (hj : j < 8) :
    (flipIn start k b).getLsbD j = (b.getLsbD j ^^ decide (start + j = k)) := by
  unfold flipIn
  split
  · rw [flipBit_getLsbD b (by omega), decide_eq_decide.mpr (show j = k - start ↔ start + j = k by omega)]
  · rw [decide_eq_false (by omega), Bool.xor_false]

@[simp] theorem flipIn_flipIn (start k : Nat) (b : Byte) : flipIn start k (flipIn start k b) = b := by
  unfold flipIn flipBit
  split
  · rw [BitVec.xor_assoc, BitVec.xor_self, BitVec.xor_zero]
  · rfl

theorem ones_succ (n : Nat) (b : Byte) : ones (n + 1) b = ones n b + (b.getLsbD n).toNat := by
  unfold ones
  rw [List.range_succ, List.filter_append, List.length_append]
  cases h : b.getLsbD n <;> simp [h]

/-- The ones of a byte, counted by twos, with one bit of the header inverted. -/
theorem ones_flipIn (start k : Nat) (b : Byte) {n : Nat} (hn : n ≤ 8) :
    ones n (flipIn start k b) % 2 = (ones n b + (decide (start ≤ k ∧ k < start + n)).toNat) % 2 := by
  induction n with
  | zero => rw [decide_eq_false (by omega)]; rfl
  | succ n ih =>
    have hbelow := ih (by omega)
    rw [ones_succ, ones_succ, flipIn_getLsbD start k b (by omega)]
    by_cases hk : start + n = k
    · rw [decide_eq_false (by omega)] at hbelow
      rw [decide_eq_true hk, decide_eq_true (by omega), Bool.xor_true]
      cases b.getLsbD n <;> simp at hbelow ⊢ <;> omega
    · rw [decide_eq_false hk, Bool.xor_false,
        decide_eq_decide.mpr (show start ≤ k ∧ k < start + (n + 1) ↔ start ≤ k ∧ k < start + n by omega)]
      omega

/-! ### Sums of the bits set -/

/-- The exclusive-OR of the weights of the bits set among the first n. -/
def weighBits (f : Nat → Bool) (w : Nat → Nat) (n : Nat) : Nat :=
  (List.range n).foldl (fun acc i => if f i then acc ^^^ w i else acc) 0

theorem weighBits_succ (f : Nat → Bool) (w : Nat → Nat) (n : Nat) :
    weighBits f w (n + 1) = weighBits f w n ^^^ (if f n then w n else 0) := by
  unfold weighBits
  rw [List.range_succ, List.foldl_append]
  cases h : f n <;> simp [h]

/-- A bit inverted changes the sum by its weight. -/
theorem weighBits_flip {f g : Nat → Bool} (w : Nat → Nat) {n k : Nat}
    (h : ∀ i, i < n → g i = (f i ^^ decide (i = k))) :
    weighBits g w n = weighBits f w n ^^^ (if k < n then w k else 0) := by
  induction n with
  | zero => simp [weighBits]
  | succ n ih =>
    rw [weighBits_succ, weighBits_succ, ih fun i hi => h i (by omega), h n (by omega)]
    rcases Nat.lt_trichotomy k n with hk | rfl | hk
    · rw [if_pos hk, if_pos (show k < n + 1 by omega), decide_eq_false (show ¬n = k by omega),
        Bool.xor_false, Nat.xor_right_comm]
    · rw [if_neg (lt_irrefl k), if_pos (show k < k + 1 by omega), decide_eq_true rfl, Bool.xor_true]
      cases f k <;> simp
    · rw [if_neg (show ¬k < n by omega), if_neg (show ¬k < n + 1 by omega), decide_eq_false (show ¬n = k by omega),
        Bool.xor_false, Nat.xor_zero, Nat.xor_zero]

theorem checkLow_eq (b0 b1 b2 : Byte) : checkLow b0 b1 b2 = weighBits (dataBit b0 b1 b2) (positions.getD · 0) 24 := rfl

theorem dataBit_flip (b0 b1 b2 : Byte) (k : Nat) {i : Nat} (hi : i < 24) :
    dataBit (flipIn 0 k b0) (flipIn 8 k b1) (flipIn 16 k b2) i = (dataBit b0 b1 b2 i ^^ decide (i = k)) := by
  unfold dataBit
  split
  · rw [flipIn_getLsbD 0 k b0 (by omega), Nat.zero_add]
  split
  · rw [flipIn_getLsbD 8 k b1 (by omega), Nat.add_sub_cancel' (by omega)]
  · rw [flipIn_getLsbD 16 k b2 (by omega), Nat.add_sub_cancel' (by omega)]

/-! ### The weight of each bit (Table 8-2) -/

/-- By how much each of the thirty bits changes the sum: a data bit by its position, check bits 0 to 4 by their place, and
check bit 5 not at all. -/
def headerWeights : List Nat := positions ++ [1, 2, 4, 8, 16, 0]

/-- The weight of bit k. -/
def headerWeight (k : Nat) : Nat := headerWeights.getD k 0

theorem headerWeight_data : ∀ k, k < 24 → headerWeight k = positions.getD k 0 := by decide

theorem headerWeight_inj : ∀ i, i < 30 → ∀ j, j < 30 → headerWeight i = headerWeight j → i = j := by decide

/-- A data bit's weight is the place of that bit alone among the positions, and no check bit's. -/
theorem headerWeight_names_data : ∀ k, k < 24 → positions.findIdx? (· = headerWeight k) = some k ∧
    ¬(headerWeight k = 0 ∨ headerWeight k = 1 ∨ headerWeight k = 2 ∨ headerWeight k = 4 ∨ headerWeight k = 8 ∨
      headerWeight k = 16) := by decide

theorem headerWeight_check : ∀ k, k < 30 → 24 ≤ k → headerWeight k = 0 ∨ headerWeight k = 1 ∨ headerWeight k = 2 ∨
    headerWeight k = 4 ∨ headerWeight k = 8 ∨ headerWeight k = 16 := by decide

/-- A check bit inverted changes the five low check bits by its weight. -/
theorem lowBits_flipIn (chk : Byte) {k : Nat} (hk : k < 30) : (flipIn 24 k chk &&& 0x1F).toNat =
    (chk &&& 0x1F).toNat ^^^ (if k < 24 then 0 else headerWeight k) := by
  have hweight : ∀ j, j < 6 → (((1 : Byte) <<< j) &&& 0x1F).toNat = headerWeight (24 + j) := by decide
  rcases Nat.lt_or_ge k 24 with h | h
  · rw [flipIn_of_lt h, if_pos h, Nat.xor_zero]
  · have hplace := hweight (k - 24) (by omega)
    rw [Nat.add_sub_cancel' h] at hplace
    rw [flipIn_of_mem h (by omega), if_neg (by omega), ← hplace, ← BitVec.toNat_xor, flipBit]
    exact congrArg BitVec.toNat (by ext; simp [Bool.and_xor_distrib_right])

/-! ### One bit inverted -/

theorem Header.flip_sum (h : Header) {k : Nat} (hk : k < 30) : (h.flip k).sum = h.sum ^^^ headerWeight k := by
  have hdata := weighBits_flip (positions.getD · 0) fun i (hi : i < 24) => dataBit_flip h.b0 h.b1 h.b2 k hi
  unfold Header.sum Header.flip; dsimp only
  rw [lowBits_flipIn h.chk hk, checkLow_eq, checkLow_eq, hdata]
  rcases Nat.lt_or_ge k 24 with h24 | h24
  · rw [if_pos h24, if_pos h24, Nat.xor_zero, headerWeight_data k h24, Nat.xor_right_comm]
  · rw [if_neg (by omega), if_neg (by omega), Nat.xor_zero, Nat.xor_assoc]

/-- Each of the thirty bits lies in one byte. -/
theorem headerBit_in_one_byte : ∀ k, k < 30 →
    (decide (0 ≤ k ∧ k < 0 + 8)).toNat + (decide (8 ≤ k ∧ k < 8 + 8)).toNat +
      (decide (16 ≤ k ∧ k < 16 + 8)).toNat + (decide (24 ≤ k ∧ k < 24 + 6)).toNat = 1 := by decide

theorem Header.flip_parity (h : Header) {k : Nat} (hk : k < 30) : (h.flip k).parity = (h.parity + 1) % 2 := by
  have h0 := ones_flipIn 0 k h.b0 (n := 8) le_rfl
  have h1 := ones_flipIn 8 k h.b1 (n := 8) le_rfl
  have h2 := ones_flipIn 16 k h.b2 (n := 8) le_rfl
  have h3 := ones_flipIn 24 k h.chk (n := 6) (by decide)
  have hone := headerBit_in_one_byte k hk
  unfold Header.parity Header.flip; dsimp only
  omega

theorem Header.flip_spare (h : Header) {k : Nat} (hk : k < 30) : (h.flip k).spare = h.spare := by
  unfold Header.spare Header.flip; dsimp only
  rw [flipIn_getLsbD 24 k h.chk (by omega), flipIn_getLsbD 24 k h.chk (by omega), decide_eq_false (by omega),
    decide_eq_false (by omega), Bool.xor_false, Bool.xor_false]

/-! ### The header as sent -/

theorem checkLow_lt (b0 b1 b2 : Byte) : checkLow b0 b1 b2 < 32 := by
  have hpositions : ∀ i, i < 24 → positions.getD i 0 < 2 ^ 5 := by decide
  have hbits : ∀ n, n ≤ 24 → weighBits (dataBit b0 b1 b2) (positions.getD · 0) n < 2 ^ 5 := fun n => by
    induction n with
    | zero => exact fun _ => by simp [weighBits]
    | succ n ih =>
      intro hn
      rw [weighBits_succ]
      refine Nat.xor_lt_two_pow (ih (by omega)) ?_
      split
      exacts [hpositions n (by omega), by decide]
  exact hbits 24 le_rfl

/-- The check byte put together from its low bits and its parity bit. -/
theorem checkByte_parts : ∀ low : Fin 32, ∀ odd : Bool,
    let chk := byteOf low.val ||| (bit odd <<< 5)
    (chk &&& 0x1F).toNat = low.val ∧ ones 6 chk = ones 5 (byteOf low.val) + odd.toNat ∧
      (chk.getLsbD 6 || chk.getLsbD 7) = false := by decide

/-- A header as sent has sum 0, even parity and no spare bit set (R134). -/
theorem Header.made_clean (b0 b1 b2 : Byte) :
    (made b0 b1 b2).sum = 0 ∧ (made b0 b1 b2).parity = 0 ∧ (made b0 b1 b2).spare = false := by
  obtain ⟨hlow, hones, hspare⟩ := checkByte_parts ⟨checkLow b0 b1 b2, checkLow_lt b0 b1 b2⟩
    (decide ((ones 8 b0 + ones 8 b1 + ones 8 b2 + ones 5 (byteOf (checkLow b0 b1 b2))) % 2 = 1))
  refine ⟨?_, ?_, hspare⟩
  · unfold sum made checkByte; dsimp only at hlow ⊢
    rw [hlow, Nat.xor_self]
  · unfold parity made checkByte; dsimp only at hones ⊢
    rw [hones]
    rcases Nat.mod_two_eq_zero_or_one (ones 8 b0 + ones 8 b1 + ones 8 b2 + ones 5 (byteOf (checkLow b0 b1 b2))) with h | h <;>
      simp only [h, decide_true, Nat.zero_ne_one, decide_false, Bool.toNat_true, Bool.toNat_false] <;> omega

/-! ### What the check says (R135) -/

theorem Header.check_eq (h : Header) : h.check =
    if h.spare then .broken
    else if h.parity = 0 then (if h.sum = 0 then .use h.b0 h.b1 h.b2 false else .broken)
    else if h.sum = 0 ∨ h.sum = 1 ∨ h.sum = 2 ∨ h.sum = 4 ∨ h.sum = 8 ∨ h.sum = 16 then .use h.b0 h.b1 h.b2 true
    else match positions.findIdx? (· = h.sum) with
      | none => .broken
      | some i =>
        if i < 8 then .use (flipBit h.b0 i) h.b1 h.b2 true
        else if i < 16 then .use h.b0 (flipBit h.b1 (i - 8)) h.b2 true
        else .use h.b0 h.b1 (flipBit h.b2 (i - 16)) true := rfl

theorem Header.check_clean {h : Header} (hspare : h.spare = false) (heven : h.parity = 0) (hsum : h.sum = 0) :
    h.check = .use h.b0 h.b1 h.b2 false := by
  rw [check_eq, if_neg (by simp [hspare]), if_pos heven, if_pos hsum]

theorem Header.check_broken {h : Header} (hspare : h.spare = false) (heven : h.parity = 0) (hsum : h.sum ≠ 0) :
    h.check = .broken := by
  rw [check_eq, if_neg (by simp [hspare]), if_pos heven, if_neg hsum]

/-- An odd header is mended at the bit that its sum names (R135). -/
theorem Header.check_mended {h : Header} (hspare : h.spare = false) (hodd : h.parity = 1) {k : Nat} (hk : k < 30)
    (hsum : h.sum = headerWeight k) :
    h.check = .use (flipIn 0 k h.b0) (flipIn 8 k h.b1) (flipIn 16 k h.b2) true := by
  rw [check_eq, if_neg (by simp [hspare]), if_neg (by omega), hsum]
  rcases Nat.lt_or_ge k 24 with hdata | hcheck
  · obtain ⟨hindex, hother⟩ := headerWeight_names_data k hdata
    rw [if_neg hother, hindex]
    dsimp only
    rcases Nat.lt_or_ge k 8 with h0 | h0
    · rw [if_pos h0, flipIn_of_mem (Nat.zero_le k) (by omega), flipIn_of_lt h0, flipIn_of_lt (by omega), Nat.sub_zero]
    rcases Nat.lt_or_ge k 16 with h1 | h1
    · rw [if_neg (by omega), if_pos h1, flipIn_of_ge (by omega), flipIn_of_mem h0 (by omega), flipIn_of_lt h1]
    · rw [if_neg (by omega), if_neg (by omega), flipIn_of_ge (by omega), flipIn_of_ge (by omega), flipIn_of_mem h1 (by omega)]
  · rw [if_pos (headerWeight_check k hk hcheck), flipIn_of_ge (by omega), flipIn_of_ge (by omega), flipIn_of_ge (by omega)]

/-- A header as its sender makes it is used as it is (R134, R135). -/
theorem checkHeader_checkByte (b0 b1 b2 : Byte) : checkHeader b0 b1 b2 (checkByte b0 b1 b2) = .use b0 b1 b2 false := by
  obtain ⟨hsum, heven, hspare⟩ := Header.made_clean b0 b1 b2
  exact Header.check_clean (h := .made b0 b1 b2) hspare heven hsum

end Sys2Proof.Machine

section
open Sys2Proof Sys2Proof.Machine

/-- Settles O17: one wrong bit leaves its weight as the sum of an odd header, two leave a sum other than 0 of an even one. -/
theorem headerCheckMendsOneBitAndFindsTwo : Obligations.HeaderCheckMendsOneBitAndFindsTwo := by
  intro b0 b1 b2
  obtain ⟨hsum, heven, hspare⟩ := Header.made_clean b0 b1 b2
  refine ⟨?_, fun i hi => ?_, fun i j hij hj => ?_⟩
  · exact checkHeader_checkByte b0 b1 b2
  · rw [checkFlipped_eq]
    have hmended := Header.check_mended (h := (Header.made b0 b1 b2).flip i) ((Header.flip_spare _ hi).trans hspare)
      (by rw [Header.flip_parity _ hi, heven]) hi (by rw [Header.flip_sum _ hi, hsum, Nat.zero_xor])
    exact hmended.trans (by simp [Header.flip, Header.made])
  · have hi : i < 30 := hij.trans hj
    rw [checkFlipped_eq]
    refine Header.check_broken (h := ((Header.made b0 b1 b2).flip i).flip j) ?_ ?_ ?_
    · rw [Header.flip_spare _ hj, Header.flip_spare _ hi, hspare]
    · rw [Header.flip_parity _ hj, Header.flip_parity _ hi, heven]
    · rw [Header.flip_sum _ hj, Header.flip_sum _ hi, hsum, Nat.zero_xor]
      exact fun hzero => hij.ne (headerWeight_inj i hi j hj (Nat.xor_eq_zero_iff.mp hzero))

end
end

section
/-! Packets in a control block: the parser hands a packet that passes its checks to its command and goes on behind it (O15). -/

namespace Sys2Proof.Machine

/-! ### The parser behind a usable header (R136) -/

section
variable {b0 b1 b2 chk code tag len : Byte} {corrected : Bool} {rest : List Byte} {s : State}

/-- A packet that passes its checks is dispatched, and the parser goes on behind it (R136). -/
theorem parseBlock_passes (l : CtlLane) (fuel : Nat) (hb : b0 ≠ 0)
    (hcheck : checkHeader b0 b1 b2 chk = .use code tag len corrected)
    (hpasses : len.toNat = 0 ∨ len.toNat + 2 ≤ rest.length ∧
      (rest.drop len.toNat).take 2 = halfBytes (crc16 ([b0, b1, b2, chk] ++ rest.take len.toNat))) :
    parseBlock l (fuel + 1) (b0 :: b1 :: b2 :: chk :: rest) s =
      parseBlock l fuel (rest.drop (if len.toNat = 0 then 0 else len.toNat + 2))
        (dispatchPacket ⟨l, tag, corrected⟩ code (rest.take len.toNat)
          (if corrected then s.bumpCtl .headerCorrections else s)) := by
  rw [parseBlock, if_neg hb]
  simp only [hcheck]
  by_cases hn : len.toNat = 0
  · rw [if_pos hn, if_pos hn, hn]; rfl
  · obtain ⟨hlength, hcrc⟩ := hpasses.resolve_left hn
    rw [if_neg hn, if_neg (Nat.not_lt.mpr hlength), if_neg hn]
    exact congrArg _ (if_pos hcrc)

/-- A packet that would end beyond the block is reported Bad Length, and ends the block (R136). -/
theorem parseBlock_badLength (l : CtlLane) (fuel : Nat) (hb : b0 ≠ 0)
    (hcheck : checkHeader b0 b1 b2 chk = .use code tag len corrected)
    (hn : len.toNat ≠ 0) (hlength : rest.length < len.toNat + 2) :
    parseBlock l (fuel + 1) (b0 :: b1 :: b2 :: chk :: rest) s =
      (if corrected then s.bumpCtl .headerCorrections else s).report l ⟨0x44, tag, []⟩ := by
  rw [parseBlock, if_neg hb]
  simp only [hcheck]
  rw [if_neg hn, if_pos hlength]
  rfl

/-- A packet of a wrong CRC is counted and reported Checksum, and the parser goes on behind it (R136). -/
theorem parseBlock_badCrc (l : CtlLane) (fuel : Nat) (hb : b0 ≠ 0)
    (hcheck : checkHeader b0 b1 b2 chk = .use code tag len corrected)
    (hn : len.toNat ≠ 0) (hlength : len.toNat + 2 ≤ rest.length)
    (hcrc : (rest.drop len.toNat).take 2 ≠ halfBytes (crc16 ([b0, b1, b2, chk] ++ rest.take len.toNat))) :
    parseBlock l (fuel + 1) (b0 :: b1 :: b2 :: chk :: rest) s =
      parseBlock l fuel (rest.drop (len.toNat + 2))
        (((if corrected then s.bumpCtl .headerCorrections else s).bumpCtl .checksumFailures).report l ⟨0x45, tag, []⟩) := by
  rw [parseBlock, if_neg hb]
  simp only [hcheck]
  rw [if_neg hn, if_neg (Nat.not_lt.mpr hlength)]
  exact congrArg _ (if_neg hcrc)

end

/-! ### A packet's code and payload name its command (Tables 9-1 and 12-7) -/

/-- Freeze's duration as `Instr.packetPayload` splits it. -/
theorem half_split (d : Half) : half ((d >>> 8).setWidth 8) (d.setWidth 8) = d := by
  refine Eq.trans ?_ (half_halfBytes d)
  congr 1

/-- A packet with a command's code and payload is dispatched to that command. -/
theorem exec_eq_dispatchPacket {c : Instr} {o : Origin} {code : Byte} {p : List Byte} (ho : c.origin = some o)
    (hcode : c.code = some code) (hp : c.packetPayload = some p) (s : State) : exec c s = .next (dispatchPacket o code p s) := by
  cases c with
  | echo _ _ | identify _ _ | readStatus _ _ | configure _ _ | readParameters _ _ | setPartition _ _ | restart _ _
  | clearShed _ _ | counterExchangeAdd _ _ | activate _ _ _ | makeDormant _ _ _ | turnOff _ _ _ | portReset _ _ _
  | setClass _ _ _ | loadTranslate _ _ | readTranslate _ _ | setWindow _ _ | writeWindow _ _ | readWindow _ _
  | fetchRegistrations _ _ | admitHeadset _ _ | deny _ _ | release _ _ | readRecord _ _ | forceHandoff _ _
  | freezeOff _ _ | fetchEvents _ _ => cases ho; cases hcode; cases hp; rfl
  | freezeOn _ d =>
    cases ho; cases hcode; cases hp
    exact congrArg (fun d => Host.Outcome.next (serveFreezeOn o d s)) (half_split d).symm
  | _ => cases ho

/-- A command packet whose CRC is right is dispatched wherever it stands in a block (R136). -/
theorem parseBlock_packet {b0 b1 b2 chk code tag : Byte} {corrected : Bool} {p crc : List Byte} (l : CtlLane) (fuel : Nat)
    (rest : List Byte) (s : State) (hb : b0 ≠ 0) (hp : p.length ≤ 255)
    (hcheck : checkHeader b0 b1 b2 chk = .use code tag (byteOf p.length) corrected)
    (hcrc : p = [] ∧ crc = [] ∨ p ≠ [] ∧ crc = halfBytes (crc16 ([b0, b1, b2, chk] ++ p))) :
    parseBlock l (fuel + 1) ([b0, b1, b2, chk] ++ p ++ crc ++ rest) s = parseBlock l fuel rest
      (dispatchPacket ⟨l, tag, corrected⟩ code p (if corrected then s.bumpCtl .headerCorrections else s)) := by
  have hlen : (byteOf p.length).toNat = p.length := Nat.mod_eq_of_lt (Nat.lt_succ_of_le hp)
  obtain ⟨rfl, rfl⟩ | ⟨hne, rfl⟩ := hcrc
  · exact parseBlock_passes l fuel hb hcheck (.inl hlen)
  · have hpos : ¬p.length = 0 := fun h => hne (List.eq_nil_of_length_eq_zero h)
    have hbehind : (p ++ (halfBytes (crc16 ([b0, b1, b2, chk] ++ p)) ++ rest)).drop (p.length + 2) = rest := by
      rw [← List.append_assoc]
      exact List.drop_left' (by simp [halfBytes])
    have hparsed := parseBlock_passes (s := s) l fuel hb hcheck
      (rest := p ++ (halfBytes (crc16 ([b0, b1, b2, chk] ++ p)) ++ rest))
    rw [hlen, List.take_left, List.drop_left, if_neg hpos, hbehind] at hparsed
    rw [List.append_assoc, List.append_assoc]
    exact hparsed (.inr ⟨by simp [halfBytes], rfl⟩)

/-! ### A packet alone in its block (R133) -/

/-- A packet alone in its block is laid out as the parser takes it, filler behind it (R133, R136). -/
theorem blockWith_packetBytes (code tag : Byte) (p : List Byte) : ∃ (crc : List Byte) (n : Nat),
    (p = [] ∧ crc = [] ∨ p ≠ [] ∧ crc = halfBytes (crc16
      ([code, tag, byteOf p.length, checkByte code tag (byteOf p.length)] ++ p))) ∧
    blockWith (packetBytes code tag p) =
      [code, tag, byteOf p.length, checkByte code tag (byteOf p.length)] ++ p ++ crc ++ List.replicate n 0 := by
  unfold blockWith packetBytes; dsimp only
  split
  · next hempty => subst hempty; exact ⟨[], _, .inl ⟨rfl, rfl⟩, rfl⟩
  · next hfilled => exact ⟨_, _, .inr ⟨hfilled, rfl⟩, rfl⟩

/-- No command's code is filler (R133). -/
theorem Instr.code_ne_zero {c : Instr} {code : Byte} (h : c.code = some code) : code ≠ 0 := by
  cases c <;> cases h <;> decide

end Sys2Proof.Machine

section
open Sys2Proof Sys2Proof.Machine

/-- Settles O15: the parser dispatches the packet, and its code and payload name its command. -/
theorem packetReachesItsCommand : Obligations.PacketReachesItsCommand := by
  intro c o code p s ho hcode hp
  refine ⟨fun b0 b1 b2 chk crc rest fuel hb hlength hcheck hcrc => ?_, fun hclean hlength => ?_⟩
  · exact ⟨_, exec_eq_dispatchPacket ho hcode hp _, parseBlock_packet o.lane fuel rest s hb hlength hcheck hcrc⟩
  · obtain ⟨crc, n, hcrc, hblock⟩ := blockWith_packetBytes code o.tag p
    have hparsed := parseBlock_packet o.lane 63 (List.replicate n 0) s (Instr.code_ne_zero hcode) (by omega)
      (checkHeader_checkByte code o.tag (byteOf p.length)) hcrc
    rw [hblock, hparsed, parseBlock_filler, if_neg Bool.false_ne_true, exec_eq_dispatchPacket ho hcode hp, ← hclean]

end
end

section
/-! What else a control block can hold: filler, parse errors, and packets that are refused whatever the state (O16). -/

namespace Sys2Proof.Machine

/-! ### Reports and refusals (R139, R141) -/

/-- A report is queued where there is room, and shed with its tag at a full queue (R141). -/
theorem State.report_eq (s : State) (l : CtlLane) (code tag : Byte) : s.report l ⟨code, tag, []⟩ =
    if (s.lane l).queue.length < 16 then s.respond l ⟨code, tag, []⟩
    else (s.setLane l { s.lane l with
      shed := true
      shedTag := if (s.lane l).shed then (s.lane l).shedTag else tag }).bumpCtl (shedCounter l) := by
  rcases Nat.lt_or_ge (s.lane l).queue.length 16 with hroom | hfull
  · rw [if_pos hroom]
    exact if_neg fun h => absurd (of_decide_eq_true h) (Nat.not_le.mpr hroom)
  · rw [if_neg (Nat.not_lt.mpr hfull), ← State.shedOn_eq]
    exact if_pos (decide_eq_true hfull)

/-- An owner that refuses every packet is reported with its reason, or Not Permitted where the lane may not send it (R138). -/
theorem serve_refuse (o : Origin) (p : Permission) (why : Reason) (s : State) : serve o p (refuse why) s =
    s.report o.lane ⟨resultError (if p.allows o.lane s.params.authority then why else .notPermitted), o.tag, []⟩ := by
  unfold serve State.report
  split
  · rfl
  split <;> rfl

/-! ### The parser at filler and at errors (R133, R135) -/

theorem parseBlock_nil (l : CtlLane) (fuel : Nat) (s : State) : parseBlock l fuel [] s = s := by cases fuel <;> rfl

theorem parseBlock_skip (l : CtlLane) (fuel : Nat) (rest : List Byte) (s : State) :
    parseBlock l (fuel + 1) (0 :: rest) s = parseBlock l fuel rest s := if_pos rfl

theorem parseBlock_truncated (l : CtlLane) (fuel : Nat) {b0 : Byte} {rest : List Byte} (s : State) (hb : b0 ≠ 0)
    (h : rest.length < 3) : parseBlock l (fuel + 1) (b0 :: rest) s = s.report l ⟨0x82, 0, []⟩ := by
  match rest, h with
  | [], _ | [_], _ | [_, _], _ => exact if_neg hb

theorem parseBlock_broken (l : CtlLane) (fuel : Nat) {b0 b1 b2 chk : Byte} (rest : List Byte) (s : State) (hb : b0 ≠ 0)
    (h : checkHeader b0 b1 b2 chk = .broken) :
    parseBlock l (fuel + 1) (b0 :: b1 :: b2 :: chk :: rest) s = (s.bumpCtl .headerFailures).report l ⟨0x83, 0, []⟩ := by
  rw [parseBlock, if_neg hb]
  simp only [h]
  rfl

/-- Fuel beyond the length of a block is not used: each turn takes at least one byte. -/
theorem parseBlock_succ_fuel (l : CtlLane) {fuel : Nat} {bytes : List Byte} (h : bytes.length ≤ fuel) (s : State) :
    parseBlock l (fuel + 1) bytes s = parseBlock l fuel bytes s := by
  induction fuel generalizing bytes s with
  | zero => rw [List.eq_nil_of_length_eq_zero (Nat.le_zero.mp h), parseBlock_nil, parseBlock_nil]
  | succ fuel ih =>
    match bytes, h with
    | [], _ => rw [parseBlock_nil, parseBlock_nil]
    | b0 :: rest, h =>
      have hrest : rest.length ≤ fuel := Nat.le_of_succ_le_succ h
      by_cases hb : b0 = 0
      · rw [hb, parseBlock_skip, parseBlock_skip, ih hrest]
      rcases Nat.lt_or_ge rest.length 3 with hshort | hheader
      · rw [parseBlock_truncated l _ s hb hshort, parseBlock_truncated l _ s hb hshort]
      obtain ⟨b1, b2, chk, rest, rfl⟩ : ∃ b1 b2 chk rest', rest = b1 :: b2 :: chk :: rest' := by
        match rest, hheader with
        | b1 :: b2 :: chk :: rest', _ => exact ⟨b1, b2, chk, rest', rfl⟩
      have hbehind : ∀ n, (rest.drop n).length ≤ fuel := fun n => by simp at hrest ⊢; omega
      cases hcheck : checkHeader b0 b1 b2 chk with
      | broken => rw [parseBlock_broken l _ rest s hb hcheck, parseBlock_broken l _ rest s hb hcheck]
      | use code tag len corrected =>
        by_cases hpasses : len.toNat = 0 ∨ len.toNat + 2 ≤ rest.length ∧
            (rest.drop len.toNat).take 2 = halfBytes (crc16 ([b0, b1, b2, chk] ++ rest.take len.toNat))
        · rw [parseBlock_passes l _ hb hcheck hpasses, parseBlock_passes l _ hb hcheck hpasses, ih (hbehind _)]
        obtain ⟨hn, hfails⟩ := not_or.mp hpasses
        rcases Nat.lt_or_ge rest.length (len.toNat + 2) with hlength | hlength
        · rw [parseBlock_badLength l _ hb hcheck hn hlength, parseBlock_badLength l _ hb hcheck hn hlength]
        · have hcrc := fun hright => hfails ⟨hlength, hright⟩
          rw [parseBlock_badCrc l _ hb hcheck hn hlength hcrc, parseBlock_badCrc l _ hb hcheck hn hlength hcrc, ih (hbehind _)]

theorem parseBlock_length_fuel (l : CtlLane) {fuel : Nat} {bytes : List Byte} (h : bytes.length ≤ fuel) (s : State) :
    parseBlock l fuel bytes s = parseBlock l bytes.length bytes s := by
  induction fuel, h using Nat.le_induction with
  | base => rfl
  | succ fuel h ih => rw [parseBlock_succ_fuel l h, ih]

/-! ### Packets that no command takes (R138, R172) -/

/-- The codes that Table 9-1 lists. -/
def listedCodes : List Byte := [0x01, 0x02, 0x03, 0x04, 0x05, 0x06, 0x07, 0x08, 0x09, 0x10, 0x20, 0x21, 0x22, 0x23, 0x24,
  0x30, 0x31, 0x32, 0x33, 0x34, 0x40, 0x41, 0x50]

theorem dispatchPacket_unlisted {code : Byte} (h : code ∉ listedCodes) (o : Origin) (p : List Byte) :
    dispatchPacket o code p = serve o .anyLane (refuse .unknownCommand) := by
  have hother : ∀ k ∈ listedCodes.map BitVec.toNat, code.toNat ≠ k := fun k hk e => by
    obtain ⟨listed, hlisted, rfl⟩ := List.mem_map.mp hk
    exact h (BitVec.eq_of_toNat_eq e ▸ hlisted)
  unfold dispatchPacket
  split
  iterate 23 next hcode => exact absurd hcode (hother _ (by decide))
  rfl

theorem servePortControl_malformed {p : List Byte} (h : ∀ port action cls, p = [port, action, cls] → 4 < action.toNat)
    (o : Origin) : servePortControl o p = serve o .primaryOnly (refuse .badArgument) := by
  unfold servePortControl
  split
  · next port action cls =>
    have hbeyond : ∀ k : Byte, k.toNat ≤ 4 → action ≠ k := fun k hk e =>
      absurd (h port action cls rfl) (Nat.not_lt.mpr (e ▸ hk))
    rw [if_neg (hbeyond 0 (by decide)), if_neg (hbeyond 1 (by decide)), if_neg (hbeyond 2 (by decide)),
      if_neg (hbeyond 3 (by decide)), if_neg (hbeyond 4 (by decide))]
  · rfl

theorem serveFreeze_malformed {p : List Byte} (h : ∀ action hi lo, p = [action, hi, lo] → 1 < action.toNat) (o : Origin) :
    serveFreeze o p = serve o .anyLane (refuse .badArgument) := by
  unfold serveFreeze
  split
  · next action hi lo =>
    have hbeyond : ∀ k : Byte, k.toNat ≤ 1 → action ≠ k := fun k hk e =>
      absurd (h action hi lo rfl) (Nat.not_lt.mpr (e ▸ hk))
    rw [if_neg (hbeyond 0 (by decide)), if_neg (hbeyond 1 (by decide))]
  · rfl

/-- Every lane may send a packet of this permission; the primary lane may send all (R138). -/
theorem serve_anyLane_refuse (o : Origin) (why : Reason) (s : State) :
    serve o .anyLane (refuse why) s = s.report o.lane ⟨resultError why, o.tag, []⟩ := by
  rw [serve_refuse, if_pos (by cases o.lane <;> rfl)]

theorem serve_primaryOnly_refuse (o : Origin) (why : Reason) (s : State) : serve o .primaryOnly (refuse why) s =
    s.report o.lane ⟨resultError (if o.lane = .primary then why else .notPermitted), o.tag, []⟩ := by
  rw [serve_refuse]
  cases o.lane <;> rfl

end Sys2Proof.Machine

section
open Sys2Proof Sys2Proof.Machine

/-- Settles O16: each thing a block can hold is one case of the parser, and each refusal an owner that refuses. -/
theorem parseErrorsAreReported : Obligations.ParseErrorsAreReported := by
  intro l fuel s report
  have hreport : ∀ v code tag, v.report l ⟨code, tag, []⟩ = report v code tag := fun v code tag => v.report_eq l code tag
  refine ⟨fun bytes h => parseBlock_length_fuel l h s, parseBlock_nil l fuel s, fun rest => parseBlock_skip l fuel rest s,
    fun b0 rest hb h => (parseBlock_truncated l fuel s hb h).trans (hreport ..), fun b0 b1 b2 chk rest hb => ?_⟩
  refine ⟨fun h => (parseBlock_broken l fuel rest s hb h).trans (hreport ..), fun code tag len corrected hcheck => ?_⟩
  intro v n payload right passes refused
  have hdispatched : ∀ reason : Byte, passes →
      dispatchPacket ⟨l, tag, corrected⟩ code payload v = v.report l ⟨0x40 + reason, tag, []⟩ → refused reason :=
    fun reason hpasses hrefuses => by
      rw [hreport] at hrefuses
      exact (parseBlock_passes l fuel hb hcheck hpasses).trans (congrArg _ hrefuses)
  refine ⟨fun hn hlength => ?_, fun hn hlength hwrong => ?_, fun hpasses hcode => ?_, fun hpasses hcode hp => ?_,
    fun hpasses hcode hp => ?_⟩
  · exact (parseBlock_badLength l fuel hb hcheck hn hlength).trans (hreport ..)
  · exact (parseBlock_badCrc l fuel hb hcheck hn hlength hwrong).trans (congrArg _ (hreport ..))
  · refine hdispatched _ hpasses ?_
    rw [dispatchPacket_unlisted hcode, serve_anyLane_refuse]; rfl
  · refine hdispatched _ hpasses ?_
    subst hcode
    have hserved := congrFun (servePortControl_malformed hp ⟨l, tag, corrected⟩) v
    rw [serve_primaryOnly_refuse] at hserved
    refine hserved.trans ?_
    cases l <;> rfl
  · refine hdispatched _ hpasses ?_
    subst hcode
    exact (congrFun (serveFreeze_malformed hp ⟨l, tag, corrected⟩) v).trans (serve_anyLane_refuse ..)

end
end

section
/-! Read Status and Read Parameters: the snapshot byte by byte, and the runs of values and of pairs (O20). -/

namespace Sys2Proof.Machine

/-! ### Vectors as lists -/

theorem vector_toList_eq_map {α : Type} {n : Nat} (v : Vector α n) : v.toList = (List.finRange n).map v.get :=
  List.ext_getElem (by simp) fun i _ _ => by simp [Vector.get]

/-! ### Runs of fields of one length -/

/-- In a run of fields of k bytes each, field i begins at byte k i. -/
theorem take_drop_flatMap {α β : Type} {k : Nat} {f : α → List β} (hf : ∀ x, (f x).length = k) (l : List α) (i : Nat)
    (h : i < l.length) : ((l.flatMap f).drop (k * i)).take k = f l[i] := by
  induction l generalizing i with
  | nil => exact absurd h (Nat.not_lt_zero i)
  | cons x l ih =>
    rw [List.flatMap_cons]
    cases i with
    | zero => exact List.take_left' (hf x)
    | succ i =>
      have hstart : k * (i + 1) = (f x).length + k * i := by rw [hf, Nat.mul_succ, Nat.add_comm]
      rw [hstart, List.drop_append, List.drop_of_length_le (Nat.le_add_right ..), Nat.add_sub_cancel_left]
      exact ih i (Nat.lt_of_succ_lt_succ h)

theorem length_flatMap_of_length {α β : Type} {k : Nat} {f : α → List β} (hf : ∀ x, (f x).length = k) (l : List α) :
    (l.flatMap f).length = k * l.length := by
  simp [List.length_flatMap, hf, Nat.mul_comm]

/-! ### The record counts of Read Status (R149) -/

/-- How many of the 192 records are in a state. -/
theorem State.countRecords_eq (s : State) (st : RecordState) :
    s.countRecords st = ((List.finRange 192).filter fun r => (s.record r).state = st).length := by
  rw [State.countRecords, vector_toList_eq_map, List.filter_map, List.length_map]; rfl

/-- Each record is in one of the five states, so the counts of a list of records sum to its length. -/
theorem recordCounts_sum (l : List Record) :
    (l.filter (·.state = .free)).length + (l.filter (·.state = .searching)).length +
      (l.filter (·.state = .attaching)).length + (l.filter (·.state = .active)).length +
      (l.filter (·.state = .bridging)).length = l.length := by
  induction l with
  | nil => rfl
  | cons rd l ih =>
    rw [List.length_cons, ← ih]
    cases h : rd.state <;> simp [h] <;> omega

theorem State.countRecords_sum (s : State) : s.countRecords .free + s.countRecords .searching +
    s.countRecords .attaching + s.countRecords .active + s.countRecords .bridging = 192 :=
  (recordCounts_sum s.records.toList).trans s.records.length_toList

/-! ### The packed bytes of Read Status (Table 12-7) -/

theorem packed_statusFlags : ∀ active requested lost : Bool, bit active ||| (bit requested <<< 1) ||| (bit lost <<< 2) =
    byteOf ((if active then 1 else 0) + (if requested then 2 else 0) + (if lost then 4 else 0)) := by decide

/-- The number of a port state (12.4). -/
def PortState.number : PortState → Fin 4
  | .off => 0
  | .dormant => 1
  | .active => 2
  | .isolated => 3

theorem PortState.code_eq (x : PortState) : x.code = byteOf x.number.val := by cases x <;> rfl

theorem packed_portStatus : ∀ (state : Fin 4) (back overload backup lost : Bool),
    byteOf state.val ||| (bit back <<< 2) ||| ((bit overload ||| (bit backup <<< 1) ||| (bit lost <<< 2)) <<< 4) =
      byteOf (state.val + (if back then 4 else 0) + (if overload then 16 else 0) + (if backup then 32 else 0) +
        (if lost then 64 else 0)) := by decide

/-- The byte of a port: its state, its return state and its condition flags (Table 12-7). -/
theorem portStatusByte_eq (p : Port) : portStatusByte p = byteOf (p.state.number.val +
    (match p.returnState with | .dormant => 0 | .active => 4) + (if p.flags.rfOverload then 16 else 0) +
    (if p.flags.backupPower then 32 else 0) + (if p.flags.referenceLost then 64 else 0)) := by
  have hback : (match p.returnState with | .dormant => 0 | .active => 4) =
      if decide (p.returnState = .active) = true then 4 else 0 := by cases p.returnState <;> rfl
  rw [hback, ← packed_portStatus, ← PortState.code_eq]; rfl

theorem State.portStatusBytes_eq (s : State) :
    s.ports.toList.map portStatusByte = (List.finRange 24).map fun p => portStatusByte (s.port p) := by
  rw [vector_toList_eq_map, List.map_map]; rfl

theorem statusBytes_length (s : State) : (statusBytes s).length = 43 := by
  simp [statusBytes, halfBytes, natBytes]

/-! ### Read Parameters (R154) -/

/-- A list of numbers is refused when it is too long or a number in it is no parameter's (R154). -/
theorem ownReadParameters_refuses {p : List Byte} (h : 18 < p.length ∨ ∃ b ∈ p, b.toNat = 0 ∨ 22 < b.toNat)
    (s : State) : ownReadParameters p s = refuse .badArgument s := by
  have hp : p ≠ [] := by rintro rfl; simp at h
  have hbad : 18 < p.length ∨ p.all isParam = false := h.imp_right fun ⟨b, hb, hout⟩ =>
    List.all_eq_false.mpr ⟨b, hb, by simp only [isParam, decide_eq_true_eq]; omega⟩
  rw [ownReadParameters, if_neg hp, if_pos hbad]

/-- A list of up to 18 numbers of parameters is answered with a pair for each (R154). -/
theorem ownReadParameters_pairs {p : List Byte} (hp : p ≠ []) (hlen : p.length ≤ 18)
    (hnum : ∀ b ∈ p, 1 ≤ b.toNat ∧ b.toNat ≤ 22) (s : State) :
    ownReadParameters p s = (.done (p.flatMap fun n => pairBytes n (s.params.value n.toNat)), s) := by
  have hall : p.all isParam = true := List.all_eq_true.mpr fun b hb => decide_eq_true (hnum b hb)
  have hgood : ¬(18 < p.length ∨ p.all isParam = false) := by simp [hall, hlen]
  rw [ownReadParameters, if_neg hp, if_neg hgood]; rfl

end Sys2Proof.Machine

section
open Sys2Proof Sys2Proof.Machine

/-- Settles O20: both commands are served from either lane, and their owners only read; the snapshot is the statement's
byte by byte, and a parameter's field is found at its place in the run. -/
theorem statusAndParametersAreRead : Obligations.StatusAndParametersAreRead := by
  refine ⟨fun o s hroom => ?_, fun o p s hroom => ?_⟩
  · have hserves : s.Serves o .anyLane := State.serves_anyLane hroom
    refine ⟨?_, fun p hp => congrArg Host.Outcome.next
      (serve_refused (owner := ownReadStatus p) (why := .badArgument) hserves (if_neg hp))⟩
    intro count portByte clock flags x
    have hcount : s.countRecords = count := funext s.countRecords_eq
    have hports : s.ports.toList.map portStatusByte = (List.finRange 24).map portByte :=
      s.portStatusBytes_eq.trans (List.map_congr_left fun p _ => (portStatusByte_eq (s.port p)).trans (by
        simp only [portByte]; cases (s.port p).state <;> rfl))
    have hclock : s.timer.clock.code = clock := by simp only [clock]; cases s.timer.clock <;> rfl
    have hflags : statusFlags s.freeze s.lostEvents = flags := packed_statusFlags ..
    have hx : statusBytes s = x := by
      rw [statusBytes, hcount, hports, hclock, hflags]; simp only [x, List.append_assoc]; rfl
    refine ⟨?_, hx ▸ statusBytes_length s, hcount ▸ s.countRecords_sum⟩
    rw [← hx]
    exact congrArg Host.Outcome.next (serve_done (owner := ownReadStatus []) hserves (if_pos rfl))
  · have hserves : s.Serves o .anyLane := State.serves_anyLane hroom
    refine ⟨?_, fun hp hlen hnum => ?_, fun hbad => congrArg Host.Outcome.next
      (serve_refused (why := .badArgument) hserves (ownReadParameters_refuses hbad s))⟩
    · rintro rfl
      have hvalue : ∀ i, (halfBytes (s.params.value (i + 1))).length = 2 := fun _ => rfl
      refine ⟨_, congrArg Host.Outcome.next (serve_done (owner := ownReadParameters []) hserves (if_pos rfl)),
        length_flatMap_of_length hvalue _, fun i hi => ?_⟩
      rw [take_drop_flatMap hvalue _ i (by simpa using hi), List.getElem_range]
    · have hpair : ∀ n : Byte, (pairBytes n (s.params.value n.toNat)).length = 3 := fun _ => rfl
      exact ⟨_, congrArg Host.Outcome.next (serve_done hserves (ownReadParameters_pairs hp hlen hnum s)),
        length_flatMap_of_length hpair p, take_drop_flatMap hpair p⟩

end
end

section
/-! Table loading: the runs of levels that Load Translate writes and Read Translate reads (O26). -/

namespace Sys2Proof.Machine

/-! ### Writing a run of levels (R159) -/

/-- Entry j of a table after a run of values is written from index i: the value that falls on j, or what was there. -/
theorem writeLevels_get (vs : List Byte) (t : Vector Level 256) (i : Nat) (j : Fin 256) :
    (writeLevels t i vs).get j = ((if i ≤ j.val then vs[j.val - i]? else none).map levelOf).getD (t.get j) := by
  induction vs generalizing t i with
  | nil => simp [writeLevels]
  | cons v vs ih =>
    rw [writeLevels]
    split
    · rename_i hi
      rw [ih, vset_get]
      rcases Nat.lt_trichotomy j.val i with hlt | heq | hgt
      · have hne : j ≠ ⟨i, hi⟩ := fun e => by simp [e] at hlt
        rw [if_neg (by omega), if_neg (by omega : ¬i ≤ j.val), if_neg hne]
      · have hj : j = ⟨i, hi⟩ := Fin.ext heq
        simp [hj]
      · have hne : j ≠ ⟨i, hi⟩ := fun e => by simp [e] at hgt
        have hback : j.val - i = j.val - (i + 1) + 1 := by omega
        rw [if_pos (Nat.succ_le_of_lt hgt), if_pos hgt.le, if_neg hne, hback, List.getElem?_cons_succ]
    · rw [if_neg (by omega)]; rfl

/-- Load Translate of a class named and 1 to 56 values (R159). -/
theorem ownLoadTranslate_loads (c : ClassId) (start : Byte) {vs : List Byte} (hvs : 1 ≤ vs.length) (hfit : vs.length ≤ 56)
    (s : State) : ownLoadTranslate (byteOf c.val :: start :: vs) s =
      (.done [byteOf (entriesFrom start.toNat vs.length)],
        { s with tables := vset s.tables c (writeLevels (s.tables.get c) start.toNat vs) }) := by
  cases vs with
  | nil => simp at hvs
  | cons v vs =>
    have hlen : ¬Config.maxCommandPayload < (byteOf c.val :: start :: v :: vs).length := by
      simp [Config.maxCommandPayload] at hfit ⊢; omega
    simp only [ownLoadTranslate, classOf_byteOf]
    exact if_neg hlen

/-- A Load Translate of another length, or with a class above 3, is refused (R159). -/
theorem ownLoadTranslate_refuses {p : List Byte}
    (hp : p.length < 3 ∨ 58 < p.length ∨ ∃ b rest, p = b :: rest ∧ 3 < b.toNat) (s : State) :
    ownLoadTranslate p s = refuse .badArgument s := by
  unfold ownLoadTranslate
  split
  · rename_i c start v vs
    split
    · rfl
    · rename_i k hk
      obtain hshort | hlong | ⟨b, rest, he, hb⟩ := hp
      · simp at hshort; omega
      · exact if_pos hlong
      · cases he; rw [classOf_none hb] at hk; cases hk
  · rfl

/-- The number of entries answered is the length of the run cut off behind index 255 (R159). -/
theorem entriesFrom_eq (start : Byte) (n : Nat) :
    entriesFrom start.toNat n = if start.toNat + n ≤ 256 then n else 256 - start.toNat := by
  unfold entriesFrom; split <;> omega

/-! ### Reading a run of levels (R160) -/

/-- The levels a Read Translate answers with (R160). -/
def State.levelBytes (s : State) (c : ClassId) (start n : Byte) : List Byte :=
  (((s.tables.get c).toList.drop start.toNat).take (readCount n)).map fun l => byteOf l.val

theorem ownReadTranslate_reads (c : ClassId) (start n : Byte) (s : State) :
    ownReadTranslate [byteOf c.val, start, n] s = (.done (s.levelBytes c start n), s) := by
  rw [ownReadTranslate, classOf_byteOf]; rfl

/-- A Read Translate of another length, or with a class above 3, is refused (R160). -/
theorem ownReadTranslate_refuses {p : List Byte} (hp : p.length ≠ 3 ∨ ∃ b rest, p = b :: rest ∧ 3 < b.toNat)
    (s : State) : ownReadTranslate p s = refuse .badArgument s := by
  unfold ownReadTranslate
  split
  · rename_i c start n
    obtain hlen | ⟨b, rest, he, hb⟩ := hp
    · exact absurd rfl hlen
    · cases he; rw [classOf_none hb]
  · rfl

theorem State.levelBytes_length (s : State) (c : ClassId) (start n : Byte) :
    (s.levelBytes c start n).length = min (readCount n) (256 - start.toNat) := by
  simp [State.levelBytes]

theorem State.levelBytes_getElem (s : State) (c : ClassId) (start n : Byte) (i : Nat)
    (h : i < (s.levelBytes c start n).length) (h' : start.toNat + i < 256) :
    (s.levelBytes c start n)[i].toNat = (s.level c ⟨start.toNat + i, h'⟩).val := by
  have hbyte : (s.levelBytes c start n)[i] = byteOf (s.level c ⟨start.toNat + i, h'⟩).val := by
    simp [State.levelBytes, State.level, Vector.get]; rfl
  rw [hbyte, byteOf, BitVec.toNat_ofNat]
  exact Nat.mod_eq_of_lt (by omega)

end Sys2Proof.Machine

section
open Sys2Proof Sys2Proof.Machine

/-- Settles O26: the owners' effects are those of `writeLevels` on the one table, and of the run read from it. -/
theorem translateTablesAreLoadedAndRead : Obligations.TranslateTablesAreLoadedAndRead := by
  intro o s ho hroom
  have hserves : s.Serves o .primaryOnly := State.serves_primary .primaryOnly ho hroom
  refine ⟨fun c start vs hvs hfit => ?_, fun p hp => congrArg Host.Outcome.next
    (serve_refused (why := .badArgument) hserves (ownLoadTranslate_refuses hp s)), fun c start n => ?_,
    fun p hp => congrArg Host.Outcome.next
      (serve_refused (why := .badArgument) hserves (ownReadTranslate_refuses hp s))⟩
  · rw [← entriesFrom_eq]
    refine ⟨_, congrArg Host.Outcome.next (serve_done hserves (ownLoadTranslate_loads c start hvs hfit s)), rfl,
      fun k i => ?_⟩
    by_cases hk : k = c
    · subst hk
      simp only [State.level, vset_get_same, writeLevels_get, true_and]
      cases (if start.toNat ≤ i.val then vs[i.val - start.toNat]? else none) <;> rfl
    · simp only [State.level, vset_get_other _ _ _ _ hk, hk, false_and, if_false]
  · exact ⟨_, congrArg Host.Outcome.next (serve_done hserves (ownReadTranslate_reads c start n s)),
      s.levelBytes_length c start n, fun i h h' => s.levelBytes_getElem c start n i h h'⟩

end
end

section
/-! The window of the Neighbour Matrix: its pointer goes through the visiting order and round it, and Read Window reads along
it (O28). -/

namespace Sys2Proof.Machine

/-! ### The place behind another in a list -/

/-- In a list, x stands with y directly behind it, or last when y is none. -/
def NextIn {α : Type} (l : List α) (x : α) (y : Option α) : Prop :=
  ∃ before after, l = before ++ x :: after ∧ after.head? = y

theorem NextIn.mem {α : Type} {l : List α} {x : α} {y : Option α} (h : NextIn l x y) : x ∈ l := by
  obtain ⟨before, after, rfl, -⟩ := h; simp

/-- Where no element stands twice, y is found one place behind x. -/
theorem NextIn.getElem? {α : Type} [BEq α] [LawfulBEq α] {l : List α} {x : α} {y : Option α} (h : NextIn l x y) (hl : l.Nodup) :
    l[l.idxOf x + 1]? = y := by
  obtain ⟨before, after, rfl, hy⟩ := h
  have hx : x ∉ before := fun hx => (List.nodup_append.mp hl).2.2 x hx x (by simp) rfl
  rw [List.idxOf_append_of_notMem hx, List.idxOf_cons_self, List.getElem?_append_right (by omega), ← hy,
    List.head?_eq_getElem?]
  simp

theorem NextIn.map {α β : Type} {l : List α} {x : α} {y : Option α} (h : NextIn l x y) (f : α → β) :
    NextIn (l.map f) (f x) (y.map f) := by
  obtain ⟨before, after, rfl, rfl⟩ := h
  exact ⟨before.map f, after.map f, by simp, by simp⟩

/-- An ascending list begins with its least element. -/
theorem head?_of_ascending {n : Nat} {l : List (Fin n)} (hl : l.Pairwise (· < ·)) {x : Fin n} (hx : x ∈ l)
    (hleast : ∀ a ∈ l, x ≤ a) : l.head? = some x := by
  cases l with
  | nil => cases hx
  | cons a l =>
    obtain rfl | hxl := List.mem_cons.mp hx
    · rfl
    · exact absurd ((List.pairwise_cons.mp hl).1 x hxl) (Fin.not_lt.mpr (hleast a (by simp)))

/-- In an ascending list the next element behind x is the least one above it. -/
theorem NextIn.of_ascending {n : Nat} {l : List (Fin n)} (hl : l.Pairwise (· < ·)) {x : Fin n} (hx : x ∈ l)
    {y : Option (Fin n)} (hnone : y = none → ∀ a ∈ l, a ≤ x)
    (hsome : ∀ z, y = some z → z ∈ l ∧ x < z ∧ ∀ a ∈ l, x < a → z ≤ a) : NextIn l x y := by
  obtain ⟨before, after, rfl⟩ := List.append_of_mem hx
  obtain ⟨-, hbehind, hbefore⟩ := List.pairwise_append.mp hl
  obtain ⟨habove, hafter⟩ := List.pairwise_cons.mp hbehind
  refine ⟨before, after, rfl, ?_⟩
  cases y with
  | none =>
    refine List.head?_eq_none_iff.mpr (List.eq_nil_iff_forall_not_mem.mpr fun a ha => ?_)
    exact absurd (habove a ha) (Fin.not_lt.mpr (hnone rfl a (by simp [ha])))
  | some z =>
    obtain ⟨hz, hxz, hleast⟩ := hsome z rfl
    refine head?_of_ascending hafter ?_ fun a ha => hleast a (by simp [ha]) (habove a ha)
    obtain hz | hz := List.mem_append.mp hz
    · exact absurd (hbefore z hz x (by simp)) (Fin.not_lt.mpr hxz.le)
    · exact (List.mem_cons.mp hz).resolve_left hxz.ne'

/-- In a product the second side moves first. -/
theorem NextIn.product_inner {α β : Type} {l : List α} {m : List β} {x : α} {u v : β} (hx : x ∈ l)
    (h : NextIn m u (some v)) : NextIn (l.product m) (x, u) (some (x, v)) := by
  obtain ⟨before, after, rfl⟩ := List.append_of_mem hx
  obtain ⟨before', after', rfl, hv⟩ := h
  refine ⟨before.product (before' ++ u :: after') ++ before'.map (Prod.mk x),
    after'.map (Prod.mk x) ++ after.product (before' ++ u :: after'), by simp [List.product], ?_⟩
  rw [List.head?_append, List.head?_map, hv]; rfl

/-- Behind a run of the second side the first side moves, and the second begins again. -/
theorem NextIn.product_outer {α β : Type} {l : List α} {m : List β} {x : α} {y : Option α} {u v : β} (h : NextIn l x y)
    (hu : NextIn m u none) (hv : m.head? = some v) : NextIn (l.product m) (x, u) (y.map fun z => (z, v)) := by
  obtain ⟨before, after, rfl, rfl⟩ := h
  obtain ⟨before', after', rfl, hnone⟩ := hu
  obtain rfl := List.head?_eq_none_iff.mp hnone
  refine ⟨before.product (before' ++ [u]) ++ before'.map (Prod.mk x), after.product (before' ++ [u]),
    by simp [List.product], ?_⟩
  cases after with
  | nil => rfl
  | cons z after => rw [List.product, List.flatMap_cons, List.head?_append, List.head?_map, hv]; rfl

/-! ### The sides of a window (R162) -/

/-- The numbers from one bound to the other, ascending: the rows or the columns of a window. -/
def windowSide (lo hi : Fin 24) : List (Fin 24) := (List.finRange 24).filter fun x => lo ≤ x ∧ x ≤ hi

theorem mem_windowSide {lo hi x : Fin 24} : x ∈ windowSide lo hi ↔ lo ≤ x ∧ x ≤ hi := by simp [windowSide]

theorem windowSide_ascending (lo hi : Fin 24) : (windowSide lo hi).Pairwise (· < ·) :=
  (List.pairwise_lt_finRange 24).filter _

theorem windowSide_nodup (lo hi : Fin 24) : (windowSide lo hi).Nodup := (List.nodup_finRange 24).filter _

theorem windowSide_head? {lo hi : Fin 24} (h : lo ≤ hi) : (windowSide lo hi).head? = some lo :=
  head?_of_ascending (windowSide_ascending lo hi) (mem_windowSide.mpr ⟨le_rfl, h⟩) fun _ ha => (mem_windowSide.mp ha).1

/-- Below its last number a side goes on with the next one. -/
theorem windowSide_next {lo hi x : Fin 24} (hlo : lo ≤ x) (hhi : x ≤ hi) :
    NextIn (windowSide lo hi) x (if x ≠ hi then some (nextIx x) else none) := by
  refine NextIn.of_ascending (windowSide_ascending lo hi) (mem_windowSide.mpr ⟨hlo, hhi⟩) (fun hnone a ha => ?_)
    fun z hz => ?_
  · have hx : x = hi := by simpa using hnone
    exact hx ▸ (mem_windowSide.mp ha).2
  · obtain ⟨hx, rfl⟩ : x ≠ hi ∧ nextIx x = z := by simpa using hz
    have habove : x < nextIx x ∧ ∀ a, x < a → nextIx x ≤ a := by
      refine ⟨?_, fun a ha => ?_⟩ <;> unfold nextIx <;> omega
    exact ⟨mem_windowSide.mpr (nextIx_between hlo hhi hx), habove.1, fun a _ => habove.2 a⟩

/-- The cells of a window, of which one side moves fast and the other slowly: where the fast side is not at its last number
it moves, else the slow side moves if it can. -/
theorem windowSides_next {lo hi x lo' hi' y : Fin 24} (hlo : lo ≤ x) (hhi : x ≤ hi) (hlo' : lo' ≤ y) (hhi' : y ≤ hi') :
    NextIn ((windowSide lo hi).product (windowSide lo' hi')) (x, y)
      (if y ≠ hi' then some (x, nextIx y) else if x ≠ hi then some (nextIx x, lo') else none) := by
  have hfast := windowSide_next hlo' hhi'
  have hslow := windowSide_next hlo hhi
  by_cases hy : y = hi'
  · rw [if_neg (not_not.mpr hy)] at hfast ⊢
    have h := hslow.product_outer hfast (windowSide_head? (hlo'.trans hhi'))
    rwa [apply_ite (Option.map _)] at h
  · rw [if_pos hy] at hfast ⊢
    exact hfast.product_inner hslow.mem

/-! ### The visiting order (R162) -/

theorem Window.order_eq (w : Window) : w.order =
    if w.mode = .columnMajor then ((windowSide w.cs w.ce).product (windowSide w.rs w.re)).map Prod.swap
    else (windowSide w.rs w.re).product (windowSide w.cs w.ce) := by
  have hswap : ((windowSide w.cs w.ce).product (windowSide w.rs w.re)).map Prod.swap =
      (windowSide w.cs w.ce).flatMap fun c => (windowSide w.rs w.re).map fun r => (r, c) := by
    simp [List.product, List.map_flatMap, Function.comp_def]
  rw [hswap]
  cases hm : w.mode <;> simp only [Window.order, hm] <;> rfl

theorem Window.order_nodup (w : Window) : w.order.Nodup := by
  have hproduct := fun lo hi lo' hi' => (windowSide_nodup lo hi).product (windowSide_nodup lo' hi')
  rw [Window.order_eq]
  split
  · exact (hproduct ..).map Prod.swap_injective
  · exact hproduct ..

/-- An advance moves nothing but the pointer. -/
theorem Window.advance_frame (w : Window) :
    w.advance.1 = { w with row := w.advance.1.row, col := w.advance.1.col } := by
  unfold Window.advance; repeat' split
  all_goals rfl

@[simp] theorem Window.advance_order (w : Window) : w.advance.1.order = w.order := by rw [w.advance_frame]; rfl

@[simp] theorem Window.advance_mode (w : Window) : w.advance.1.mode = w.mode := by rw [w.advance_frame]

/-- The visiting order begins at the first row and the first column. -/
theorem Window.ok.order_head? {w : Window} (h : w.ok) : w.order.head? = some (w.rs, w.cs) := by
  obtain ⟨hrows, hcols, -⟩ := h
  obtain ⟨rows, hr⟩ := List.head?_eq_some_iff.mp (windowSide_head? hrows)
  obtain ⟨cols, hc⟩ := List.head?_eq_some_iff.mp (windowSide_head? hcols)
  rw [Window.order_eq, hr, hc]
  split <;> rfl

/-- A pointer that wraps goes to the first cell. -/
theorem Window.advance_wraps {w : Window} (h : w.advance.2 = true) : w.advance.1 = { w with row := w.rs, col := w.cs } := by
  unfold Window.advance at h ⊢
  cases hm : w.mode <;> simp only [hm] at h ⊢ <;> split_ifs at h ⊢ <;> rfl

/-- A pointer that does not wrap goes to the cell next in the order; it wraps at the last one. -/
theorem Window.ok.advance_next {w : Window} (h : w.ok) : NextIn w.order (w.row, w.col)
    (if w.advance.2 = true then none else some (w.advance.1.row, w.advance.1.col)) := by
  obtain ⟨-, -, ⟨hrow, hrow'⟩, hcol, hcol'⟩ := h
  have hbyRows := windowSides_next hrow hrow' hcol hcol'
  have hbyCols := (windowSides_next hcol hcol' hrow hrow').map Prod.swap
  rw [Window.order_eq]
  unfold Window.advance
  cases w.mode
  case columnMajor =>
    simp only [if_true]
    convert hbyCols using 1
    · rfl
    · split
      · rfl
      · split <;> rfl
  all_goals
    simp only [reduceCtorEq, if_false]
    convert hbyRows using 1
    split
    · rfl
    · split <;> rfl

/-! ### The cells past the pointer (R162) -/

/-- The pointer's cell is in the visiting order, at its place. -/
theorem Window.ok.getElem?_place {w : Window} (h : w.ok) : w.order[w.place]? = some (w.row, w.col) :=
  List.getElem?_idxOf h.advance_next.mem

theorem Window.ok.place_lt {w : Window} (h : w.ok) : w.place < w.order.length :=
  List.idxOf_lt_length_of_mem h.advance_next.mem

/-- The place behind the pointer's is its next cell's, unless it wraps. -/
theorem Window.ok.getElem?_place_succ {w : Window} (h : w.ok) : w.order[w.place + 1]? =
    if w.advance.2 = true then none else some (w.advance.1.row, w.advance.1.col) :=
  h.advance_next.getElem? w.order_nodup

/-- The pointer wraps as it leaves the last place. -/
theorem Window.ok.advance_wraps_iff {w : Window} (h : w.ok) : w.advance.2 = true ↔ w.place + 1 = w.order.length := by
  have hplace := h.place_lt
  have hnext := h.getElem?_place_succ
  cases hwraps : w.advance.2 <;> rw [hwraps] at hnext
  · obtain ⟨hlt, -⟩ := List.getElem?_eq_some_iff.mp hnext
    simpa using hlt.ne
  · have hend : w.order.length ≤ w.place + 1 := List.getElem?_eq_none_iff.mp hnext
    exact iff_of_true rfl (by omega)

/-- An advance goes to the place behind, and from the last one to the first. -/
theorem Window.ok.advance_place {w : Window} (h : w.ok) : w.advance.1.place = (w.place + 1) % w.order.length := by
  have hcell : w.order[(w.place + 1) % w.order.length]? = some (w.advance.1.row, w.advance.1.col) := by
    have hwraps := h.advance_wraps_iff
    have hplace := h.place_lt
    cases hadv : w.advance.2 <;> rw [hadv] at hwraps
    · rw [Nat.mod_eq_of_lt (by simp at hwraps; omega)]
      simpa [hadv] using h.getElem?_place_succ
    · rw [← hwraps.mp rfl, Nat.mod_self, ← List.head?_eq_getElem?, h.order_head?, Window.advance_wraps hadv]
  obtain ⟨hlt, hcell⟩ := List.getElem?_eq_some_iff.mp hcell
  rw [Window.place, Window.advance_order, ← hcell]
  exact w.order_nodup.idxOf_getElem _ hlt

theorem Window.ok.cellPast_zero {w : Window} (h : w.ok) : w.cellPast 0 = some (w.row, w.col) := by
  rw [Window.cellPast, Nat.add_zero, Nat.mod_eq_of_lt h.place_lt, h.getElem?_place]

/-- The cells past the advanced pointer are those further past the pointer. -/
theorem Window.ok.advance_cellPast {w : Window} (h : w.ok) (k : Nat) : w.advance.1.cellPast k = w.cellPast (k + 1) := by
  rw [Window.cellPast, Window.cellPast, Window.advance_order, h.advance_place, Nat.mod_add_mod]
  congr 2; omega

/-! ### Read Window (R164) -/

theorem Neighbour.byte_eq (e : Neighbour) : e.byte =
    byteOf ((match e.relation with | .normal => 0 | .preferred => 1 | .barred => 2) + 16 * e.offset.toNat) := by
  obtain ⟨relation, offset⟩ := e
  cases relation <;> revert offset <;> decide

/-- Reading n cells gives the bytes of the cells past the pointer and moves the pointer past them. -/
theorem readCells_spec (n : Nat) {s : State} (h : s.window.ok) : ∃ row col, s.window.cellPast n = some (row, col) ∧
    (readCells n s).2 = { s with window := { s.window with row := row, col := col } } ∧
    (readCells n s).1.length = n ∧
    ∀ j, j < n → ∃ r c, s.window.cellPast j = some (r, c) ∧ (readCells n s).1.getD j 0 = (s.cell r c).byte := by
  induction n generalizing s with
  | zero => exact ⟨_, _, h.cellPast_zero, rfl, rfl, fun j hj => absurd hj j.not_lt_zero⟩
  | succ n ih =>
    obtain ⟨row, col, hpast, hstate, hlen, hread⟩ := ih (s := s.advance.1) h.advance
    refine ⟨row, col, (h.advance_cellPast n).symm.trans hpast, ?_, congrArg Nat.succ hlen, fun j hj => ?_⟩
    · refine hstate.trans ?_
      simp only [State.advance]
      rw [s.window.advance_frame]
    · cases j with
      | zero => exact ⟨_, _, h.cellPast_zero, rfl⟩
      | succ j =>
        obtain ⟨r, c, hcell, hbyte⟩ := hread j (Nat.lt_of_succ_lt_succ hj)
        exact ⟨r, c, (h.advance_cellPast j).symm.trans hcell, hbyte⟩

theorem ownReadWindow_refuses {p : List Byte} (hp : p.length ≠ 1) (s : State) :
    ownReadWindow p s = refuse .badArgument s := by
  unfold ownReadWindow
  split
  · exact absurd rfl hp
  · rfl

end Sys2Proof.Machine

section
open Sys2Proof Sys2Proof.Machine

/-- Settles O28, by induction on the count: an advance shifts the cells past the pointer by one. -/
theorem readWindowReturnsTheCells : Obligations.ReadWindowReturnsTheCells := by
  intro o s ho hroom hok read
  have hserves : s.Serves o .primaryOnly := State.serves_primary .primaryOnly ho hroom
  refine ⟨fun n => ?_, fun p hp => congrArg Host.Outcome.next
    (serve_refused (why := .badArgument) hserves (ownReadWindow_refuses hp s))⟩
  obtain ⟨row, col, hpast, hstate, hlen, hread⟩ := readCells_spec (readCount n) hok
  refine ⟨(readCells (readCount n) s).1, row, col, hlen, hlen.symm ▸ hpast, ?_, fun j hj => ?_⟩
  · rw [← hstate]
    exact congrArg Host.Outcome.next (serve_done (owner := ownReadWindow [n]) hserves rfl)
  · obtain ⟨r, c, hcell, hbyte⟩ := hread j (hlen ▸ hj)
    exact ⟨r, c, hcell, hbyte.trans (s.cell r c).byte_eq⟩

end
end

section
/-! The window set, and written along its visiting order (O27). -/

namespace Sys2Proof.Machine

/-! ### Set Window (R162) -/

theorem ownSetWindow_sets {rs re cs ce : Fin 24} (hrows : rs ≤ re) (hcols : cs ≤ ce) {mode : Byte} {m : OrderMode}
    (hm : OrderMode.ofByte mode = some m) (s : State) :
    ownSetWindow [byteOf rs.val, byteOf re.val, byteOf cs.val, byteOf ce.val, mode] s =
      (.done [], { s with window := ⟨rs, re, cs, ce, m, rs, cs⟩ }) := by
  simp only [ownSetWindow, hm, portOf_byteOf]
  exact if_pos ⟨hrows, hcols⟩

/-- A mode code above 2 names no mode, and is refused whatever the bounds (log 22). -/
theorem ownSetWindow_badMode (rs re cs ce : Byte) {mode : Byte} (hm : 2 < mode.toNat) (s : State) :
    ownSetWindow [rs, re, cs, ce, mode] s = refuse .badArgument s := by
  have hnone : OrderMode.ofByte mode = none := by
    have hne : ∀ b : Byte, b.toNat ≤ 2 → mode ≠ b := fun b hb e => by rw [e] at hm; omega
    rw [OrderMode.ofByte, if_neg (hne 0 (by decide)), if_neg (hne 1 (by decide)), if_neg (hne 2 (by decide))]
  rw [ownSetWindow, hnone]

theorem OrderMode.ofByte_some {mode : Byte} (hm : mode.toNat ≤ 2) : ∃ m, OrderMode.ofByte mode = some m := by
  have hcode : mode = 0 ∨ mode = 1 ∨ mode = 2 := by bv_omega
  obtain rfl | rfl | rfl := hcode
  exacts [⟨.rowMajor, rfl⟩, ⟨.columnMajor, rfl⟩, ⟨.mirrored, rfl⟩]

theorem portOf_eq_some {b : Byte} {p : PortId} (h : portOf b = some p) : b.toNat = p.val := by
  unfold portOf at h
  split at h <;> cases h
  rfl

/-- Bounds out of order or above 23 are refused under every mode named (R162). -/
theorem ownSetWindow_badBounds {rs re cs ce mode : Byte} (hm : mode.toNat ≤ 2)
    (hbad : re.toNat < rs.toNat ∨ ce.toNat < cs.toNat ∨ 23 < rs.toNat ∨ 23 < re.toNat ∨ 23 < cs.toNat ∨ 23 < ce.toNat)
    (s : State) : ownSetWindow [rs, re, cs, ce, mode] s = refuse .badWindow s := by
  obtain ⟨m, hm⟩ := OrderMode.ofByte_some hm
  simp only [ownSetWindow, hm]
  split
  · rename_i hrs hre hcs hce
    rw [portOf_eq_some hrs, portOf_eq_some hre, portOf_eq_some hcs, portOf_eq_some hce] at hbad
    refine if_neg fun ⟨hrows, hcols⟩ => ?_
    rw [Fin.le_def] at hrows hcols
    omega
  · rfl

theorem ownSetWindow_refuses {p : List Byte} (hp : p.length ≠ 5) (s : State) :
    ownSetWindow p s = refuse .badArgument s := by
  unfold ownSetWindow
  split
  · exact absurd rfl hp
  · rfl

/-! ### Writes along the window (R163) -/

/-- The relation of a written byte is its two low bits' and the offset its four high bits' (R161). -/
theorem Neighbour.ofByte_eq (b : Byte) : Neighbour.ofByte b =
    ⟨if b.toNat % 4 = 0 then .normal else if b.toNat % 4 = 1 then .preferred else .barred,
      BitVec.ofNat 4 (b.toNat / 16)⟩ := by
  have hlow : b.extractLsb' 0 2 = BitVec.ofNat 2 (b.toNat % 4) := BitVec.eq_of_toNat_eq (by simp)
  have hhigh : b.extractLsb' 4 4 = BitVec.ofNat 4 (b.toNat / 16) :=
    BitVec.eq_of_toNat_eq (by simp [Nat.shiftRight_eq_div_pow])
  have hcases : b.toNat % 4 = 0 ∨ b.toNat % 4 = 1 ∨ b.toNat % 4 = 2 ∨ b.toNat % 4 = 3 := by omega
  rw [Neighbour.ofByte, hlow, hhigh]
  obtain h | h | h | h := hcases <;> rw [h] <;> rfl

/-- The write of byte j, counted from the pointer, stores at cell (r, c): the cell is the one visited, or in Mirrored its
transpose (R163). -/
def Window.stores (w : Window) (r c : Fin 24) (j : Nat) : Bool :=
  w.cellPast j = some (r, c) ∨ w.mode = .mirrored ∧ w.cellPast j = some (c, r)

/-- The last of n writes that stores at cell (r, c). -/
def Window.lastStore (w : Window) (r c : Fin 24) (n : Nat) : Option Nat := (List.range n).reverse.find? (w.stores r c)

theorem Window.ok.advance_stores {w : Window} (h : w.ok) (r c : Fin 24) (j : Nat) :
    w.advance.1.stores r c j = w.stores r c (j + 1) := by
  simp only [Window.stores, h.advance_cellPast, Window.advance_mode]

/-- The last store of n + 1 writes is one of the n behind the first, or else the first. -/
theorem Window.ok.lastStore_succ {w : Window} (h : w.ok) (r c : Fin 24) (n : Nat) : w.lastStore r c (n + 1) =
    ((w.advance.1.lastStore r c n).map Nat.succ).or (if w.stores r c 0 then some 0 else none) := by
  have hshift : w.advance.1.stores r c = w.stores r c ∘ Nat.succ := funext (h.advance_stores r c)
  rw [Window.lastStore, Window.lastStore, hshift, List.range_succ_eq_map, List.reverse_cons, List.find?_append,
    ← List.map_reverse, List.find?_map, List.find?_singleton]

theorem State.setCell_cell (s : State) (r c r' c' : Fin 24) (e : Neighbour) :
    (s.setCell r c e).cell r' c' = if r' = r ∧ c' = c then e else s.cell r' c' := by
  simp only [State.cell, State.setCell, vset_get]
  by_cases hr : r' = r
  · subst hr; simp only [if_true, vset_get, true_and]
  · simp only [hr, if_false, false_and]

/-- One write moves the pointer on and changes nothing else but the matrix. -/
theorem writeCell_frame (s : State) (b : Byte) : writeCell s b =
    ({ s with matrix := (writeCell s b).1.matrix, window := s.window.advance.1 }, s.window.advance.2) := by
  unfold writeCell; dsimp only
  split <;> rfl

/-- One write stores its entry at the pointer's cell, and in Mirrored at the transposed cell (R163). -/
theorem writeCell_cell {s : State} (h : s.window.ok) (b : Byte) (r c : Fin 24) :
    (writeCell s b).1.cell r c = if s.window.stores r c 0 then Neighbour.ofByte b else s.cell r c := by
  have hat : ∀ x y : Fin 24, s.window.cellPast 0 = some (x, y) ↔ x = s.window.row ∧ y = s.window.col := fun x y => by
    rw [h.cellPast_zero, Option.some_inj, Prod.mk.injEq, eq_comm, @eq_comm _ y]
  have hstores : s.window.stores r c 0 = true ↔ (r = s.window.row ∧ c = s.window.col) ∨
      s.window.mode = .mirrored ∧ r = s.window.col ∧ c = s.window.row := by
    rw [Window.stores, decide_eq_true_iff, hat, hat, and_comm (a := c = _)]
  simp only [hstores]
  have hcell : ∀ u : State, u.advance.1.cell r c = u.cell r c := fun _ => rfl
  rw [writeCell, hcell]
  by_cases hm : s.window.mode = .mirrored
  · simp only [hm, if_true, true_and, State.setCell_cell]
    split_ifs <;> tauto
  · simp only [hm, if_false, false_and, or_false, State.setCell_cell]

/-- Two changes of matrix and window alone make one. -/
theorem State.matrix_window_frame_trans {s t u : State} {w w' : Window}
    (ht : t = { s with matrix := t.matrix, window := w }) (hu : u = { t with matrix := u.matrix, window := w' }) :
    u = { s with matrix := u.matrix, window := w' } := hu.trans (by rw [ht])

/-- The first of n + 1 advances wraps, or one of the others does, when the places of all go past the last. -/
theorem Window.ok.wraps_succ {w : Window} (h : w.ok) (n : Nat) :
    (w.advance.2 || decide (w.order.length ≤ w.advance.1.place + n)) =
      decide (w.order.length ≤ w.place + (n + 1)) := by
  have hplace := h.place_lt
  by_cases hlast : w.place + 1 = w.order.length
  · rw [h.advance_wraps_iff.mpr hlast, Bool.true_or, decide_eq_true (by omega)]
  · rw [Bool.eq_false_iff.mpr (mt h.advance_wraps_iff.mp hlast), Bool.false_or, h.advance_place,
      Nat.mod_eq_of_lt (by omega), Nat.add_right_comm, Nat.add_assoc]

/-- A run of writes moves the pointer past its cells; each cell holds what the last write of it stored (R163). -/
theorem writeCells_spec (bs : List Byte) {s : State} (h : s.window.ok) :
    ∃ row col, s.window.cellPast bs.length = some (row, col) ∧
      (writeCells bs s).1 =
        { s with matrix := (writeCells bs s).1.matrix, window := { s.window with row := row, col := col } } ∧
      (writeCells bs s).2 = decide (s.window.order.length ≤ s.window.place + bs.length) ∧
      ∀ r c, (writeCells bs s).1.cell r c =
        (s.window.lastStore r c bs.length).elim (s.cell r c) fun j => Neighbour.ofByte (bs.getD j 0) := by
  induction bs generalizing s with
  | nil =>
    refine ⟨_, _, h.cellPast_zero, rfl, ?_, fun r c => rfl⟩
    exact (decide_eq_false (Nat.not_le.mpr h.place_lt)).symm
  | cons b bs ih =>
    have hfirst := congrArg Prod.fst (writeCell_frame s b)
    have hwindow : (writeCell s b).1.window = s.window.advance.1 := congrArg State.window hfirst
    obtain ⟨row, col, hpast, hstate, hwrap, hcells⟩ := ih (s := (writeCell s b).1) (hwindow ▸ h.advance)
    rw [hwindow] at hpast hstate hwrap hcells
    rw [s.window.advance_frame] at hstate
    refine ⟨row, col, (h.advance_cellPast _).symm.trans hpast, State.matrix_window_frame_trans hfirst hstate, ?_,
      fun r c => ?_⟩
    · calc (writeCells (b :: bs) s).2
          = (s.window.advance.2 || (writeCells bs (writeCell s b).1).2) := by
            rw [← congrArg Prod.snd (writeCell_frame s b)]; rfl
        _ = _ := by rw [hwrap, Window.advance_order, h.wraps_succ]; rfl
    · refine (hcells r c).trans ?_
      rw [List.length_cons, h.lastStore_succ, writeCell_cell h]
      cases s.window.advance.1.lastStore r c bs.length with
      | some j => rfl
      | none => cases s.window.stores r c 0 <;> rfl

theorem ownWriteWindow_refuses {p : List Byte} (hp : p = [] ∨ 58 < p.length) (s : State) :
    ownWriteWindow p s = refuse .badArgument s := if_pos hp

end Sys2Proof.Machine

section
open Sys2Proof Sys2Proof.Machine

/-- Settles O27: the run of writes by induction, where an advance shifts the writes that store at a cell by one. -/
theorem windowIsSetAndWritten : Obligations.WindowIsSetAndWritten := by
  intro o s ho hroom stored
  have hserves : s.Serves o .primaryOnly := State.serves_primary .primaryOnly ho hroom
  refine ⟨fun rs re cs ce m hrows hcols => ?_, fun rs re cs ce m hm => congrArg Host.Outcome.next
      (serve_refused (why := .badArgument) hserves (ownSetWindow_badMode rs re cs ce hm s)),
    fun rs re cs ce m hm hbad => congrArg Host.Outcome.next
      (serve_refused (why := .badWindow) hserves (ownSetWindow_badBounds hm hbad s)),
    fun p hp => congrArg Host.Outcome.next
      (serve_refused (why := .badArgument) hserves (ownSetWindow_refuses hp s)),
    fun hok bytes hmin hmax => ?_, fun p hp => congrArg Host.Outcome.next
      (serve_refused (why := .badArgument) hserves (ownWriteWindow_refuses hp s))⟩
  · refine congrArg Host.Outcome.next (serve_done hserves (ownSetWindow_sets hrows hcols ?_ s))
    cases m <;> rfl
  · obtain ⟨row, col, hpast, hstate, hwrap, hcells⟩ := writeCells_spec bytes hok
    have hwindow : (writeCells bytes s).1.window = { s.window with row := row, col := col } := by rw [hstate]
    refine ⟨(writeCells bytes s).1, row, col, hpast, ?_, hstate, fun r c => ?_⟩
    · refine congrArg Host.Outcome.next (serve_done (owner := ownWriteWindow bytes) hserves ?_)
      have hlen : ¬(bytes = [] ∨ Config.maxCommandPayload < bytes.length) := by
        rintro (rfl | hlong)
        exacts [absurd hmin (by simp), absurd hmax (Nat.not_le.mpr hlong)]
      rw [ownWriteWindow, if_neg hlen]
      dsimp only
      rw [hwrap, hwindow]
      simp only [bit, decide_eq_true_eq]
    · rw [hcells]
      split
      · rename_i j hj
        have hlast : s.window.lastStore r c bytes.length = some j := hj
        rw [hlast]; exact Neighbour.ofByte_eq _
      · rename_i hnone
        have hlast : s.window.lastStore r c bytes.length = none := hnone
        rw [hlast]; rfl

end
end

section
/-! Counter Exchange-Add: the counters named, the value stored, and what the store leaves alone (O21). -/

namespace Sys2Proof.Machine

/-! ### The names of counters (Table 11-3) -/

/-- The group of a counter's owner (Table 11-3). -/
def CounterName.group : CounterName → Byte
  | .roam _ => 0
  | .ctl _ => 1
  | .port _ _ => 2
  | .lane _ _ => 3

/-- The index of a counter in its group: 8 places for each port, 4 for each lane (Table 11-3). -/
def CounterName.place : CounterName → Nat
  | .roam k => k.val
  | .ctl k => k.val
  | .port p k => 8 * p.val + k.val
  | .lane n k => 4 * n.val + k.val

/-- Group and index name a counter exactly when they are its group and its place. -/
theorem counterOf_eq_some {group index : Byte} {k : CounterName} :
    counterOf group index = some k ↔ group = k.group ∧ index.toNat = k.place := by
  constructor
  · intro h
    unfold counterOf at h
    dsimp only at h
    split_ifs at h with hroam _ hctl _ hport _ hlane _ <;> cases h
    · exact ⟨hroam, rfl⟩
    · exact ⟨hctl, rfl⟩
    · exact ⟨hport, (Nat.div_add_mod _ 8).symm⟩
    · exact ⟨hlane, (Nat.div_add_mod _ 4).symm⟩
  · rintro ⟨rfl, hplace⟩
    cases k with
    | roam i | ctl i => simp [counterOf, CounterName.group, CounterName.place, hplace]
    | port p i =>
      have hport : (8 * p.val + i.val) / 8 = p.val := by omega
      have hindex : (8 * p.val + i.val) % 8 = i.val := by omega
      simp [counterOf, CounterName.group, CounterName.place, hplace, hport, hindex]
    | lane n i =>
      have hlane : (4 * n.val + i.val) / 4 = n.val := by omega
      have hindex : (4 * n.val + i.val) % 4 = i.val := by omega
      simp [counterOf, CounterName.group, CounterName.place, hplace, hlane, hindex]

/-! ### The store (R170) -/

theorem exchangeValue_eq (v : Nat) (delta : Int) :
    (exchangeValue v delta : Int) = max 0 (min 65535 ((v : Int) + delta)) := by
  unfold exchangeValue Config.counterMax
  omega

/-- A counter set changes nothing but the four stores of counters. -/
theorem State.setCounter_eq (s : State) (k : CounterName) (v : Nat) :
    s.setCounter k v = { s with
      roamCounters := (s.setCounter k v).roamCounters
      ctlCounters := (s.setCounter k v).ctlCounters
      laneCounters := (s.setCounter k v).laneCounters
      ports := (s.setCounter k v).ports } := by
  cases k <;> rfl

/-- A counter set changes nothing of a port but its counters. -/
theorem State.setCounter_port (s : State) (k : CounterName) (v : Nat) (p : PortId) :
    { (s.setCounter k v).port p with counters := (s.port p).counters } = s.port p := by
  cases k with
  | port q i =>
    rw [State.setCounter, State.modPort_port]
    split
    · rename_i hq; rw [hq]
    · rfl
  | _ => rfl

/-! ### Counter Exchange-Add served (R138, R170) -/

/-- The primary lane may send any delta, the secondary lane a delta of 0 (R138, Table 8-3). -/
theorem State.serves_exchange {s : State} {o : Origin} (hroom : (s.lane o.lane).queue.length < 16)
    {group index a b c d : Byte} (h : o.lane = .primary ∨ [a, b, c, d] = [0, 0, 0, 0]) :
    s.Serves o (exchangePermission [group, index, a, b, c, d]) := by
  obtain hprimary | hzero := h
  · exact State.serves_primary _ hprimary hroom
  · cases hzero
    exact State.serves_anyLane hroom

theorem ownCounterExchangeAdd_stores {group index : Byte} {k : CounterName} (hk : counterOf group index = some k)
    (a b c d : Byte) (s : State) :
    ownCounterExchangeAdd [group, index, a, b, c, d] s =
      (.done ([group, index] ++ natBytes (s.counter k) ++ natBytes (exchangeValue (s.counter k) (signed32 a b c d))),
        s.setCounter k (exchangeValue (s.counter k) (signed32 a b c d))) := by
  simp only [ownCounterExchangeAdd, hk]

theorem ownCounterExchangeAdd_unnamed {group index : Byte} (hk : counterOf group index = none) (a b c d : Byte)
    (s : State) : ownCounterExchangeAdd [group, index, a, b, c, d] s = refuse .badArgument s := by
  simp only [ownCounterExchangeAdd, hk]

theorem ownCounterExchangeAdd_length {p : List Byte} (hp : p.length ≠ 6) (s : State) :
    ownCounterExchangeAdd p s = refuse .badArgument s := by
  unfold ownCounterExchangeAdd
  split
  · exact absurd rfl hp
  · rfl

end Sys2Proof.Machine

section
open Sys2Proof Sys2Proof.Machine

/-- Settles O21: group and index name at most one counter, and the store into it is a counter set. -/
theorem counterExchangeAddStoresTheSum : Obligations.CounterExchangeAddStoresTheSum := by
  intro o s hroom names
  have hnames : ∀ group index k, counterOf group index = some k ↔ names group index k := fun group index k =>
    counterOf_eq_some.trans (by cases k <;> rfl)
  refine ⟨by decide, fun group index a b c d k hk hlane => ?_,
    fun ho p hp => ?_, fun ho group index a b c d hk => ?_⟩
  · refine ⟨s.setCounter k (exchangeValue (s.counter k) (signed32 a b c d)), _, exchangeValue_eq .., ?_,
      fun k' => s.setCounter_counter k k' _, s.setCounter_eq k _, s.setCounter_port k _⟩
    exact congrArg Host.Outcome.next (serve_done (State.serves_exchange hroom hlane)
      (ownCounterExchangeAdd_stores ((hnames group index k).mpr hk) a b c d s))
  · exact congrArg Host.Outcome.next
      (serve_refused (why := .badArgument) (State.serves_primary _ ho hroom) (ownCounterExchangeAdd_length hp s))
  · have hnone : counterOf group index = none :=
      Option.eq_none_iff_forall_ne_some.mpr fun k h => hk k ((hnames group index k).mp h)
    exact congrArg Host.Outcome.next (serve_refused (why := .badArgument) (State.serves_primary _ ho hroom)
      (ownCounterExchangeAdd_unnamed hnone a b c d s))

end
end

section
namespace Sys2Proof.Machine

/-! The step by the queue it finds: one equation for each shape of the queue (log 1). -/

theorem step_of_pending_nil {s : State} (h : s.pending = []) : step s = .next s := by
  simp only [step, h]

theorem step_of_pending_cons {s : State} {c : Instr} {rest : List Instr} (h : s.pending = c :: rest) :
    step s = exec c { s with pending := rest } := by
  simp only [step, h]

end Sys2Proof.Machine

section
open Sys2Proof Sys2Proof.Machine

/-- Settles O1: the step's two equations, at a queue with a front command and at the empty queue. -/
theorem stepRunsTheFrontCommand : Obligations.StepRunsTheFrontCommand := by
  intro c rest s
  constructor
  · exact step_of_pending_cons (s := { s with pending := c :: rest }) rfl
  · exact step_of_pending_nil rfl

end
end

section
/-! Configure: the pairs accepted, and what a parameter's value is once they are stored (O22). -/

namespace Sys2Proof.Machine

/-! ### The values of parameters (Table 9-3) -/

theorem laneOf_eq_some {k : Nat} {n : LaneId} : laneOf k = some n ↔ n.val = k := by
  refine ⟨fun h => ?_, laneOf_eq⟩
  unfold laneOf at h; split at h
  · cases h; rfl
  · cases h

/-- Storing a parameter leaves the value of every other parameter as it is. -/
theorem Params.value_put_of_ne {n m : Nat} (h : n ≠ m) (v : Half) (p : Params) : (p.put n v).value m = p.value m := by
  unfold Params.put
  split
  all_goals
    unfold Params.value
    split
    all_goals first
      | rfl
      | exact absurd rfl h

/-- The All-Call lane is stored as parameter 22. -/
theorem Params.put_allCall (n : Nat) (v : Half) (p : Params) :
    (p.put n v).allCall = if n = 22 then laneOf v.toNat else p.allCall := by
  unfold Params.put
  split
  all_goals simp_all

/-- Between its bounds a value is brought by its two comparisons. -/
theorem clampTo_eq {lo hi : Nat} (h : lo ≤ hi) (v : Half) :
    clampTo lo hi v = if v.toNat < lo then lo else if hi < v.toNat then hi else v.toNat := by
  unfold clampTo; split_ifs <;> omega

theorem clampTrigger_eq (v : Half) : BitVec.ofNat 16 (clampTrigger v) =
    if v.toNat ≤ 7 then 4 else if v.toNat ≤ 11 then 8 else if v.toNat ≤ 13 then 12 else (14 : Half) := by
  unfold clampTrigger
  split_ifs <;> first | rfl | omega

/-- Info Events is off at 0 and on at any other value. -/
theorem infoEvents_value (v : Half) : (if decide (v ≠ 0) = true then 1 else 0 : Half) =
    BitVec.ofNat 16 (if v.toNat < 0 then 0 else if 1 < v.toNat then 1 else v.toNat) := by
  have hzero : v = 0 ↔ v.toNat = 0 := by bv_omega
  by_cases h : v = 0
  · simp [h]
  · have hpos : v.toNat ≠ 0 := mt hzero.mpr h
    have hone : (if 1 < v.toNat then 1 else v.toNat) = 1 := by split_ifs <;> omega
    simpa [hone] using h

theorem authority_value (v : Half) :
    BitVec.ofNat 16 (if v = 0 then Authority.noAuthority else if v = 1 then .freezeOnly else .full).code =
      BitVec.ofNat 16 (if v.toNat < 0 then 0 else if 2 < v.toNat then 2 else v.toNat) := by
  have hzero : v = 0 ↔ v.toNat = 0 := by bv_omega
  have hone : v = 1 ↔ v.toNat = 1 := by bv_omega
  congr 1
  rw [apply_ite Authority.code, apply_ite Authority.code]
  simp only [Authority.code, hzero, hone]
  split_ifs <;> omega

theorem clockSource_value (v : Half) :
    BitVec.ofNat 16 (if v = 0 then ClockSource.follow else .localSource).code =
      BitVec.ofNat 16 (if v.toNat < 0 then 0 else if 1 < v.toNat then 1 else v.toNat) := by
  have hzero : v = 0 ↔ v.toNat = 0 := by bv_omega
  congr 1
  rw [apply_ite ClockSource.code]
  simp only [ClockSource.code, hzero]
  split_ifs <;> omega

theorem allCall_value {v : Half} (h : v = 0xFFFF ∨ ∃ k : LaneId, k.val = v.toNat) (p : Params) :
    ({ p with allCall := laneOf v.toNat } : Params).value 22 = v := by
  rcases h with rfl | ⟨k, hk⟩
  · rfl
  · simp [Params.value, laneOf_eq hk, hk]

/-- The value stored for a value sent (R152). -/
theorem Params.value_put_self {n : Nat} (hlo : 1 ≤ n) (hhi : n ≤ 22) {v : Half}
    (hlane : n = 22 → v = 0xFFFF ∨ ∃ k : LaneId, k.val = v.toNat) (p : Params) :
    (p.put n v).value n = storedValue n v := by
  have hclamp : ∀ lo hi, lo ≤ hi → BitVec.ofNat 16 (clampTo lo hi v) =
      BitVec.ofNat 16 (if v.toNat < lo then lo else if hi < v.toNat then hi else v.toNat) := fun lo hi h => by
    rw [clampTo_eq h]
  interval_cases n
  iterate 17 exact hclamp _ _ (by decide)
  · exact clampTrigger_eq v
  · exact infoEvents_value v
  · exact authority_value v
  · exact clockSource_value v
  · exact allCall_value (hlane rfl) p

/-! ### The pairs (R80, R151) -/

/-- A value of All-Call Lane that is accepted names no lane, or an unbound lane of the fixed region (R80). -/
theorem acceptsAllCall_iff (s : State) (v : Half) : acceptsAllCall s v = true ↔
    v = 0xFFFF ∨ ∃ n : LaneId, n.val = v.toNat ∧ n.val < s.partition.fixed ∧ s.binding n = none := by
  unfold acceptsAllCall
  split
  · rename_i h; simp [h]
  rename_i h
  split
  · rename_i hnone
    refine ⟨nofun, ?_⟩
    rintro (e | ⟨n, hn, -⟩)
    exacts [absurd e h, by rw [laneOf_eq hn] at hnone; cases hnone]
  · rename_i n hsome
    have hn := laneOf_eq_some.mp hsome
    simp only [Bool.and_eq_true, decide_eq_true_eq, Option.isNone_iff_eq_none]
    refine ⟨fun hk => .inr ⟨n, hn, hk⟩, ?_⟩
    rintro (e | ⟨m, hm, hk⟩)
    · exact absurd e h
    · rwa [Fin.ext (hm.trans hn.symm)] at hk

/-- A pair is accepted when its number is a parameter's and its value, if it is All-Call Lane's, is accepted (R151). -/
def State.Accepts (s : State) (x : Byte × Half) : Prop :=
  (1 ≤ x.1.toNat ∧ x.1.toNat ≤ 22) ∧
    (x.1 = 22 → x.2 = 0xFFFF ∨ ∃ n : LaneId, n.val = x.2.toNat ∧ n.val < s.partition.fixed ∧ s.binding n = none)

theorem acceptsPair_iff (s : State) (x : Byte × Half) : acceptsPair s x = true ↔ s.Accepts x := by
  simp only [acceptsPair, isParam, State.Accepts, Bool.and_eq_true, Bool.or_eq_true, decide_eq_true_eq,
    acceptsAllCall_iff, ne_eq, imp_iff_not_or]

/-- The pairs as sent are read back. -/
theorem pairsOf_flatMap (pairs : List (Byte × Half)) :
    pairsOf (pairs.flatMap fun x => x.1 :: halfBytes x.2) = some pairs := by
  induction pairs with
  | nil => rfl
  | cons x pairs ih =>
    have hread : ∀ rest, pairsOf (x.1 :: halfBytes x.2 ++ rest) = (pairsOf rest).map (x :: ·) := fun rest => by
      simp [halfBytes, pairsOf, half_halfBytes]
    rw [List.flatMap_cons, hread, ih]; rfl

/-- Pairs are three bytes each. -/
theorem pairsOf_length {b : List Byte} {pairs : List (Byte × Half)} (h : pairsOf b = some pairs) :
    b.length = 3 * pairs.length := by
  induction b using pairsOf.induct generalizing pairs with
  | case1 => cases h; rfl
  | case2 n hi lo rest ih =>
    obtain ⟨tail, htail, rfl⟩ := Option.map_eq_some_iff.mp h
    simp only [List.length_cons, ih htail]; omega
  | case3 n rest hshort => simp [pairsOf] at h

/-! ### The pairs stored (R152) -/

theorem State.Accepts.stored {s : State} {x : Byte × Half} (h : s.Accepts x) (p : Params) :
    (p.put x.1.toNat x.2).value x.1.toNat = storedValue x.1.toNat x.2 :=
  Params.value_put_self h.1.1 h.1.2 (fun e => (h.2 (BitVec.eq_of_toNat_eq e)).imp_right fun ⟨n, hn, _⟩ => ⟨n, hn⟩) p

theorem storePairs_answer {s : State} {pairs : List (Byte × Half)} (h : ∀ x ∈ pairs, s.Accepts x) (p : Params) :
    (storePairs pairs p).2 = pairs.flatMap fun x => x.1 :: halfBytes (storedValue x.1.toNat x.2) := by
  induction pairs generalizing p with
  | nil => rfl
  | cons x pairs ih =>
    rw [List.forall_mem_cons] at h
    simp only [storePairs, List.flatMap_cons, pairBytes, h.1.stored, ih h.2]

/-- Of the pairs of one number the last stands. -/
theorem storePairs_value {s : State} {pairs : List (Byte × Half)} (h : ∀ x ∈ pairs, s.Accepts x) (p : Params)
    (m : Nat) : (storePairs pairs p).1.value m =
      match pairs.reverse.find? fun x => x.1.toNat = m with
      | some x => storedValue m x.2
      | none => p.value m := by
  induction pairs generalizing p with
  | nil => rfl
  | cons x pairs ih =>
    rw [List.forall_mem_cons] at h
    rw [storePairs, ih h.2, List.reverse_cons, List.find?_append]
    cases pairs.reverse.find? fun x => x.1.toNat = m with
    | some y => rfl
    | none =>
      by_cases hm : x.1.toNat = m
      · subst hm; simpa using h.1.stored p
      · simpa [hm] using Params.value_put_of_ne hm x.2 p

/-! ### Configure served -/

theorem ownConfigure_stores {s : State} {b : List Byte} {pairs : List (Byte × Half)} (hb : pairsOf b = some pairs)
    (hsome : pairs ≠ []) (hroom : b.length ≤ 54) (h : ∀ x ∈ pairs, s.Accepts x) :
    ownConfigure b s = (.done (storePairs pairs s.params).2, { s with params := (storePairs pairs s.params).1 }) := by
  have hall : pairs.all (acceptsPair s) = true := List.all_eq_true.mpr fun x hx => (acceptsPair_iff s x).mpr (h x hx)
  have hgood : ¬(pairs = [] ∨ Config.maxResponsePayload < b.length ∨ pairs.all (acceptsPair s) = false) := by
    simp [hsome, hall, Config.maxResponsePayload, hroom]
  simp only [ownConfigure, hb, if_neg hgood]

theorem ownConfigure_refused {s : State} {b : List Byte}
    (h : ∀ pairs, pairsOf b = some pairs → pairs = [] ∨ 54 < b.length ∨ ∃ x ∈ pairs, ¬s.Accepts x) :
    ownConfigure b s = refuse .badArgument s := by
  unfold ownConfigure
  split
  · rfl
  · rename_i pairs hb
    refine if_pos ((h pairs hb).imp_right (Or.imp_right fun ⟨x, hx, hbad⟩ => ?_))
    exact List.all_eq_false.mpr ⟨x, hx, by rwa [acceptsPair_iff]⟩

end Sys2Proof.Machine

section
open Sys2Proof Sys2Proof.Machine

/-- Settles O22: the pairs read back are stored one after the other when every one is accepted, and else refused. -/
theorem configureStoresValuesInRange : Obligations.ConfigureStoresValuesInRange := by
  intro o pairs s ho hroom
  have hserves := State.serves_primary .primaryOnly ho hroom
  have hrefused : ∀ {b : List Byte}, (∀ pairs, pairsOf b = some pairs → pairs = [] ∨ 54 < b.length ∨
      ∃ x ∈ pairs, ¬s.Accepts x) → exec (.configure o b) s = .next (s.refused o 7) := fun h =>
    congrArg Host.Outcome.next (serve_refused (why := .badArgument) hserves (ownConfigure_refused h))
  refine ⟨⟨fun hsome hlen hgood => ?_, fun hbad => hrefused fun ps hps => ?_⟩, fun b hb => hrefused fun ps hps => ?_⟩
  · have hsent := pairsOf_flatMap pairs
    have hfits : (pairs.flatMap fun x => x.1 :: halfBytes x.2).length ≤ 54 := by
      have := pairsOf_length hsent; omega
    refine ⟨_, congrArg Host.Outcome.next ?_, fun m _ _ => storePairs_value hgood s.params m⟩
    rw [← storePairs_answer hgood s.params]
    exact serve_done hserves (ownConfigure_stores hsent hsome hfits hgood)
  · cases (pairsOf_flatMap pairs).symm.trans hps
    exact .inr (.inr hbad)
  · have hlen := pairsOf_length hps
    by_cases hnil : ps = []
    · exact .inl hnil
    · have := List.length_pos_iff.mpr hnil
      exact .inr (.inl (by omega))

end
end

section
/-! SUPPORT. What most commands leave alone of the Admission Unit and the Lane Map (`State.Retains`), and the laws that are kept
where only a few commands are looked at (`AdmissionLaw`). -/

namespace Sys2Proof.Machine

/-! ### What is left alone -/

/-- The partition and its cursor, the parameters, the Registration Queue with Full Reported, and the Deny List. -/
def State.lists (s : State) : Partition × Nat × Params × List Registration × Bool × List Denial :=
  (s.partition, s.cursor, s.params, s.registrations, s.fullReported, s.denials)

/-- From s to t these stay as they are, lanes are at most unbound, and records at most give their IDs up. -/
structure State.Retains (s t : State) : Prop where
  lists : t.lists = s.lists
  lanes : ∀ n r, t.binding n = some r → s.binding n = some r
  unheld : ∀ x, s.findRecord x = none → t.findRecord x = none

theorem State.findRecord_eq_none (s : State) (x : HeadsetId) :
    s.findRecord x = none ↔ ∀ r, (s.record r).state = .free ∨ (s.record r).id ≠ some x := by
  rw [← Option.isNone_iff_eq_none, s.findRecord_isNone]

theorem State.Retains.refl (s : State) : s.Retains s := ⟨rfl, fun _ _ => id, fun _ => id⟩

section
variable {s t u : State}

theorem State.Retains.trans (h : s.Retains t) (h' : t.Retains u) : s.Retains u :=
  ⟨h'.lists.trans h.lists, fun n r => h.lanes n r ∘ h'.lanes n r, fun x => h'.unheld x ∘ h.unheld x⟩

/-- A change outside lists, lanes and records. -/
theorem State.Retains.same (h : s.Retains t) (hlists : u.lists = t.lists) (hlanes : u.bindings = t.bindings)
    (hrecords : u.records = t.records) : s.Retains u :=
  h.trans ⟨hlists, fun n r => by rw [State.binding, hlanes]; exact id,
    fun x => by unfold State.findRecord State.record; rw [hrecords]; exact id⟩

theorem State.Retains.foldl {α : Type} {f : State → α → State} (hf : ∀ (s : State) (a : α), s.Retains (f s a))
    (l : List α) (h : s.Retains t) : s.Retains (l.foldl f t) :=
  foldl_keeps (P := s.Retains) (fun u a hu => hu.trans (hf u a)) l h

/-- A change outside the roaming table that leaves the lists alone. -/
theorem State.SameTable.retains (h : s.SameTable t) (hlists : t.lists = s.lists) : s.Retains t :=
  (State.Retains.refl s).same hlists h.bindings h.records

theorem State.Worked.lists {l : List HoldRequest} (h : s.Worked t l) : t.lists = s.lists := by rw [h.frame]; rfl

/-- A turn of a record that stays FREE if it is FREE. -/
theorem State.Turn.retains {r : RecordIx} (h : s.Turn t r)
    (hfree : (s.record r).state = .free → (t.record r).state = .free) (hlists : t.lists = s.lists) : s.Retains t := by
  refine ⟨hlists, fun n q hn => ?_, fun x hx => ?_⟩
  · rcases h.held with ⟨-, -, hb⟩ | ⟨-, -, hb⟩
    · rwa [State.binding, hb] at hn
    · rw [hb] at hn
      split at hn
      exacts [(nomatch hn), hn]
  · rw [State.findRecord_eq_none] at hx ⊢
    intro q
    by_cases hq : q = r
    · subst hq
      refine (hx q).imp hfree fun hid => ?_
      rcases h.held with ⟨hi, -, -⟩ | ⟨hi, -, -⟩ <;> rw [hi]
      exacts [hid, nofun]
    · rw [h.others q hq]; exact hx q

/-- A turn of a record in use. -/
theorem State.Turn.retains_inUse {r : RecordIx} (h : s.Turn t r) (hst : (s.record r).state ≠ .free)
    (hlists : t.lists = s.lists) : s.Retains t := h.retains (fun e => absurd e hst) hlists

theorem State.Retains.modPort (h : s.Retains t) (p : PortId) (f : Port → Port) : s.Retains (t.modPort p f) :=
  h.same rfl rfl rfl

theorem State.Retains.post (h : s.Retains t) (c : EventClass) (k : EventKind) (p : Option PortId)
    (i : Option HeadsetId) (n : Option LaneId) (d : Byte) : s.Retains (t.post c k p i n d) :=
  h.same (by simp [State.lists]) (by simp) (by simp)

theorem State.Retains.setLane (h : s.Retains t) (l : CtlLane) (c : ControlLane) : s.Retains (t.setLane l c) :=
  h.same (by simp [State.lists]) (by simp) (by simp)

theorem State.Retains.respond (h : s.Retains t) (l : CtlLane) (x : Response) : s.Retains (t.respond l x) :=
  h.setLane ..

theorem State.Retains.shedOn (h : s.Retains t) (l : CtlLane) (tag : Byte) : s.Retains (t.shedOn l tag) :=
  h.same (by simp [State.lists]) (by simp) (by simp)

end

/-! ### Records -/

theorem closeRecord_retains (ev : List Evidence) (s : State) (r : RecordIx) : s.Retains (closeRecord ev s r) := by
  obtain ⟨l, hworked, -⟩ := closeRecord_worked ev s r
  exact (closeRecord_turn ev s r).retains (fun h => by rwa [closeRecord_of_free h]) hworked.lists

/-- The departure of a port leaves a FREE record as it is, whatever it names (R23, R24). -/
theorem treatDeparture_of_free {p : PortId} {toDormant : Bool} {s : State} {r : RecordIx}
    (h : (s.record r).state = .free) : (treatDeparture p toDormant s r).record r = s.record r := by
  unfold treatDeparture departServing departTarget
  cases toDormant <;> simp only [h, Bool.false_eq_true, if_false, if_true, State.lowerLoad_record, State.dropAt_record]
    <;> split_ifs <;> simp

theorem treatDeparture_retains (p : PortId) (toDormant : Bool) (s : State) (r : RecordIx) :
    s.Retains (treatDeparture p toDormant s r) :=
  (treatDeparture_turn p toDormant s r).retains (fun h => by rwa [treatDeparture_of_free h])
    (treatDeparture_worked p toDormant s r).lists

theorem missStage_retains (heard : Bool) (r : RecordIx) (s : State) : s.Retains (missStage heard r s) :=
  (missStage_turn heard r s).retains (fun h => by simp [missStage, Record.carried, h])
    (missStage_worked heard r s).lists

theorem bridgeTimerStage_retains (r : RecordIx) (s : State) : s.Retains (bridgeTimerStage r s).2 :=
  (bridgeTimerStage_turn r s).retains (fun h => by simp [bridgeTimerStage, h])
    (bridgeTimerStage_worked r s).lists

theorem attachTimerStage_retains (r : RecordIx) (s : State) : s.Retains (attachTimerStage r s).2 :=
  (attachTimerStage_turn r s).retains (fun h => by simp [attachTimerStage, h])
    (attachTimerStage_worked r s).lists

theorem orphanStage_retains (r : RecordIx) (s : State) : s.Retains (orphanStage r s) :=
  (orphanStage_turn r s).retains (fun h => by simp [orphanStage, Record.orphaned, h])
    (orphanStage_worked r s).lists

/-- An Acquire Result makes a turn of the record that holds its ID (R13, R14, R57, R58). -/
theorem takeAcquireResult_turn {s : State} {r : RecordIx} {x : HeadsetId} (h : s.findRecord x = some r) (p : PortId)
    (o : AcquireOutcome) : s.Turn (takeAcquireResult p x o s) r := by
  have haccept : (s.record r).state = .attaching ∨ (s.record r).state = .bridging →
      s.Turn (s.modRecord r fun rd => { rd with accepted := true }) r := fun hst =>
    State.turn_setRecord rfl rfl rfl rfl (fun hs => by rcases hst with hst | hst <;> simp_all [Record.shapeOk])
      fun h => h
  have hrefl := (State.SameTable.refl s).turn r
  have hlowered : s.Treated (s.lowerLoad p) r (s.record r) [p] :=
    ⟨(vset_self s.records r).symm, rfl, rfl, fun _ => rfl, fun _ q => by
      rw [State.lowerLoad_load]; by_cases hq : q = p <;> simp [hq]⟩
  unfold takeAcquireResult; rw [h]; dsimp only
  split
  · rename_i ht
    split
    · rename_i hst; exact haccept (.inl hst)
    · rename_i hst; exact haccept (.inr hst)
    · rename_i hst; exact failAttach_turn .noSlot hlowered hst ht
    · rename_i hst; exact failBridge_turn .noSlot ((s.treated_self r).drop (some p) _ (by simp)) hst ht
    · exact hrefl
  · exact hrefl

/-- An Acquire Result is taken by a record in use. -/
theorem takeAcquireResult_retains (p : PortId) (x : HeadsetId) (o : AcquireOutcome) (s : State) :
    s.Retains (takeAcquireResult p x o s) := by
  cases hfound : s.findRecord x with
  | none => unfold takeAcquireResult; rw [hfound]; exact .refl s
  | some r =>
    exact (takeAcquireResult_turn hfound p o).retains_inUse (State.findRecord_some hfound).1
      (takeAcquireResult_worked p x o s).lists

/-! ### Ports -/

section
variable {s t : State}

theorem State.Retains.departRecords (h : s.Retains t) (p : PortId) (toDormant : Bool) :
    s.Retains (departRecords p toDormant t) := h.foldl (treatDeparture_retains p toDormant) _

theorem State.Retains.enterDown (h : s.Retains t) (p : PortId) (new : PortState) :
    s.Retains (enterDown p new t) := by
  have hdown : ∀ {u : State}, s.Retains u → s.Retains ((u.modPort p Port.goDown).setLoad p 0) := fun hu =>
    hu.same rfl rfl rfl
  unfold Machine.enterDown; dsimp only
  split
  exacts [hdown ((h.modPort ..).departRecords ..), hdown (h.modPort ..)]

theorem State.Retains.activatePort (h : s.Retains t) (p : PortId) : s.Retains (activatePort p t) := by
  unfold Machine.activatePort; split
  exacts [h.modPort .., h.modPort .., h, h.modPort ..]

theorem State.Retains.makePortDormant (h : s.Retains t) (p : PortId) : s.Retains (makePortDormant p t) := by
  unfold Machine.makePortDormant enterDormant; split
  exacts [h.modPort .., h, ((h.modPort ..).departRecords ..).modPort .., h.modPort ..]

theorem State.Retains.turnPortOff (h : s.Retains t) (p : PortId) : s.Retains (turnPortOff p t) := by
  unfold Machine.turnPortOff; split
  exacts [h, (h.enterDown ..).modPort ..]

theorem State.Retains.ownPort (h : s.Retains t) (port : Byte) {act : PortId → State → State}
    (hact : ∀ p, s.Retains (act p t)) : s.Retains (ownPort port act t).2 := by
  unfold Machine.ownPort; split
  exacts [h, hact _]

theorem State.Retains.isolatePort (h : s.Retains t) (p : PortId) (ret : ReturnState) :
    s.Retains (isolatePort p ret t) := ((h.modPort ..).post ..).enterDown ..

/-- An uplink frame is held by its port and delivers its Acquire Results (R112 to R114). -/
theorem State.Retains.placeFrame (h : s.Retains t) (p : PortId) (f : Uplink) : s.Retains (placeFrame p f t) := by
  have haccepted : ∀ w, s.Retains (acceptFrame p w f t) := fun w => by
    have hheld : s.Retains (t.holdingFrame p w f) := by
      rw [t.holdingFrame_frame]; exact h.same rfl rfl rfl
    rw [acceptFrame_eq]; unfold deliverResults; split
    exacts [hheld.foldl (fun u (x : HeadsetId × AcquireOutcome) => takeAcquireResult_retains p x.1 x.2 u) _, hheld]
  have hplaced : ∀ w, s.Retains (if (t.port p).occupied w then t.bumpPort p .overruns
      else if (t.port p).settling then t.modPort p fun q => { q with settling := false } else acceptFrame p w f t) :=
    fun w => by
      repeat' split
      exacts [h.modPort .., h.modPort .., haccepted w]
  unfold Machine.placeFrame; dsimp only
  split
  exacts [h.modPort .., h.modPort .., hplaced _, hplaced _]

theorem State.Retains.examineRecovery (h : s.Retains t) (p : PortId) (bytes : List Byte) :
    s.Retains (examineRecovery p bytes t) := by
  unfold Machine.examineRecovery; dsimp only
  repeat' split
  exacts [h, (h.modPort ..).post .., h]

/-! ### The close and the voice path -/

theorem State.Retains.makePendingClose (h : s.Retains t) : s.Retains (makePendingClose t) := by
  cases hc : t.pendingClose with
  | none => unfold Machine.makePendingClose; rwa [hc]
  | some c =>
    have htreated : s.Retains t.treated :=
      State.Retains.foldl (closeRecord_retains _) _ (h.same (u := t.closeBegun) rfl rfl rfl)
    rw [makePendingClose_eq hc, handIntake_eq]
    generalize t.treated = done at htreated ⊢
    exact htreated.same rfl rfl rfl

theorem placeAt?_lists (p : Option PortId) (v : VoiceRecord) (s : State) : (placeAt? p v s).lists = s.lists := by
  cases p with
  | none => rfl
  | some p => show (placeAt p v s).lists = _; rw [placeAt_frame]; rfl

theorem distributeLane_retains (frame : List Byte) (s : State) (n : LaneId) :
    s.Retains (distributeLane frame s n) := by
  refine (distributeLane_same frame s n).retains ?_
  unfold distributeLane; split
  · rfl
  split
  · rfl
  split
  · rfl
  · unfold distributeBound; dsimp only
    repeat' split
    all_goals simp only [placeAt?_lists]

/-! ### Commands on records, counters and tables -/

/-- A record released is freed (R25). -/
theorem ownRelease_retains (payload : List Byte) (s : State) : s.Retains (ownRelease payload s).2 := by
  have hrelease : ∀ r, s.Retains (releaseRecord r s).2 := fun r => by
    unfold releaseRecord; dsimp only
    split
    · exact .refl s
    · rename_i hst
      exact (freeRecord_turn (s.treated_dropBoth r _) rfl fun _ p => (s.record r).mem_antennas p).retains_inUse hst
        ((((State.Worked.refl s).dropAndLower ..).dropAndLower ..).freeRecord r).lists
  unfold ownRelease
  repeat' split
  exacts [.refl s, .refl s, hrelease _, .refl s]

/-- A bridge is forced on an ACTIVE record (R67). -/
theorem ownForceHandoff_retains (payload : List Byte) (s : State) : s.Retains (ownForceHandoff payload s).2 := by
  have hforce : ∀ r antenna, s.Retains (forceRecord r antenna s).2 := fun r antenna => by
    unfold forceRecord; dsimp only
    split
    · exact .refl s
    rename_i hfree
    split
    · exact .refl s
    rename_i hst
    split
    · exact .refl s
    split
    · exact .refl s
    rename_i hin
    split
    · exact .refl s
    rename_i hroom
    split
    · exact .refl s
    rename_i hne
    exact (beginBridge_turn (by simpa using hst) (by simpa using hin) (by simpa using hroom) hne (.inl rfl)).retains_inUse
      hfree (beginBridge_worked ..).lists
  unfold ownForceHandoff
  repeat' split
  exacts [.refl s, .refl s, hforce .., .refl s]

/-- A Deny order asked of a port (R77). -/
theorem denyOrder_retains (x : HeadsetId) (e : Registration) (s : State) : s.Retains (denyOrder x e s).2 := by
  unfold denyOrder; split
  · exact (s.requestOrder_same ..).retains (by rw [s.requestOrder_frame]; rfl)
  · exact .refl s

theorem ownCounterExchangeAdd_retains (payload : List Byte) (s : State) :
    s.Retains (ownCounterExchangeAdd payload s).2 := by
  have hset : ∀ c v, s.Retains (s.setCounter c v) := fun c v => (s.setCounter_same c v).retains (by cases c <;> rfl)
  unfold ownCounterExchangeAdd
  repeat' split
  exacts [.refl s, hset .., .refl s]

theorem writeCells_retains (bs : List Byte) (s : State) : s.Retains (writeCells bs s).1 := by
  induction bs generalizing s with
  | nil => exact .refl s
  | cons b bs ih =>
    exact ((writeCell_same s b).retains (by rw [writeCell_frame]; rfl)).trans (ih _)

theorem readCells_retains (n : Nat) (s : State) : s.Retains (readCells n s).2 := by
  induction n generalizing s with
  | zero => exact .refl s
  | succ n ih => exact (s.advance_same.retains rfl).trans (ih _)

end

end Sys2Proof.Machine
end

section
/-! SUPPORT. A law of the Admission Unit and the Lane Map is kept by every command when the few commands that change these keep
it (`AdmissionLaw.lawKept`). -/

namespace Sys2Proof.Machine

/-- A law holds after reset, is kept where lists, lanes and records are left alone, and is kept by the operations that
change the lists, and by Configure, Set Partition, Restart, Admit and Deny. -/
structure AdmissionLaw (P : State → Prop) : Prop where
  reset : P State.reset
  retained : ∀ {s t : State}, s.Retains t → P s → P t
  ageRegistrations : ∀ {s : State}, P s → P (ageRegistrations s)
  countDenials : ∀ {s : State}, P s → P (countDenials s)
  expireDenial : ∀ {s : State} (x : HeadsetId), P s →
    P { s with denials := s.denials.filter fun d => !(d.id = x && d.remaining ≤ 1) }
  takeReport : ∀ {s : State} (g : CycleNo) (x : Report), P s → P (takeReport g s x)
  configure : ∀ {s : State} (b : List Byte), P s → P (ownConfigure b s).2
  setPartition : ∀ {s : State} (b : List Byte), P s → P (ownSetPartition b s).2
  restartBlocks : ∀ {s : State}, P s → P (restartBlocks s)
  admitHeadset : ∀ {s : State} (b : List Byte), P s → P (ownAdmit b s).2
  deny : ∀ {s : State} (b : List Byte), P s → P (ownDeny b s).2

section
variable {P : State → Prop}

/-- The owner of a packet keeps the law. -/
theorem AdmissionLaw.owner (hP : AdmissionLaw P) {o : Origin} {p : Permission} {own : State → Reply × State}
    (hown : Served o p own) {s : State} (h : P s) : P (own s).2 := by
  have hrefl := State.Retains.refl s
  cases hown with
  | refused why => exact h
  | echo b => rwa [ownEcho_state]
  | identify b => rwa [ownIdentify_state]
  | readStatus b => rwa [ownReadStatus_state]
  | configure b => exact hP.configure b h
  | readParameters b => rwa [ownReadParameters_state]
  | setPartition b => exact hP.setPartition b h
  | restart b =>
    unfold ownRestart; split
    · dsimp only; exact hP.retained ((State.Retains.refl _).post ..) (hP.restartBlocks h)
    · exact h
  | clearShed b =>
    unfold ownClearShed; split
    exacts [hP.retained (hrefl.setLane ..) h, h]
  | counterExchangeAdd b => exact hP.retained (ownCounterExchangeAdd_retains b s) h
  | activate port => exact hP.retained (hrefl.ownPort port hrefl.activatePort) h
  | makeDormant port => exact hP.retained (hrefl.ownPort port hrefl.makePortDormant) h
  | turnOff port => exact hP.retained (hrefl.ownPort port hrefl.turnPortOff) h
  | portReset port => exact hP.retained (hrefl.ownPort port fun p => hrefl.modPort p Port.reset) h
  | setClass port cls =>
    unfold ownSetClass portReply; split
    · dsimp only; exact hP.retained (hrefl.modPort ..) h
    · exact h
  | loadTranslate b =>
    unfold ownLoadTranslate; repeat' split
    exacts [h, h, hP.retained (hrefl.same rfl rfl rfl) h, h]
  | readTranslate b => rwa [ownReadTranslate_state]
  | setWindow b =>
    unfold ownSetWindow; repeat' split
    exacts [h, hP.retained (hrefl.same rfl rfl rfl) h, h, h, h]
  | writeWindow b =>
    unfold ownWriteWindow; split
    exacts [h, hP.retained (writeCells_retains b s) h]
  | readWindow b =>
    unfold ownReadWindow; split
    exacts [hP.retained (readCells_retains _ s) h, h]
  | fetchRegistrations b => rwa [ownFetchRegistrations_state]
  | admitHeadset b => exact hP.admitHeadset b h
  | deny b => exact hP.deny b h
  | release b => exact hP.retained (ownRelease_retains b s) h
  | readRecord b => rwa [ownReadRecord_state]
  | forceHandoff b => exact hP.retained (ownForceHandoff_retains b s) h
  | freezeOn d =>
    have hset : ∀ f, s.Retains { s with freeze := f } := fun _ => hrefl.same rfl rfl rfl
    unfold ownFreezeOn freezeReply; dsimp only
    split <;> dsimp only
    exacts [hP.retained ((hset _).post ..) h, hP.retained (hset _) h]
  | freezeOff =>
    unfold ownFreezeOff freezeReply; split <;> exact hP.retained (hrefl.same rfl rfl rfl) h
  | fetchEvents b =>
    unfold ownFetchEvents; split
    exacts [hP.retained (hrefl.same rfl rfl rfl) h, h]

/-- A row taken within one block keeps the law. -/
theorem AdmissionLaw.withinBlock (hP : AdmissionLaw P) {c : Instr} {s t : State} (hc : c.withinBlock = true)
    (he : exec c s = .next t) (h : P s) : P t := by
  have hrefl := State.Retains.refl s
  have hnext : ∀ {u : State}, (.next u : Out) = .next t → P u → P t := fun e hu => by cases e; exact hu
  have hretained : ∀ {u : State}, (.next u : Out) = .next t → s.Retains u → P t := fun e hu =>
    hnext e (hP.retained hu h)
  have hdue : ∀ {b : Bool} {u : State}, s.Retains u → s.Retains (if b then u else s) := fun hu => by
    split
    exacts [hu, hrefl]
  cases c with
  | denyListingExpiry x => exact hnext he (hP.expireDenial x h)
  | downlinkSend p =>
    unfold exec execDownlinkSend at he; dsimp only at he
    repeat' split at he
    exacts [hretained he (hrefl.same rfl rfl rfl), hretained he (hrefl.same rfl rfl rfl), hretained he hrefl]
  | linkLost r => exact hretained he (hdue (missStage_retains ..))
  | bridgeTimeout r => exact hretained he (hdue (bridgeTimerStage_retains ..))
  | attachTimeout r => exact hretained he (hdue (attachTimerStage_retains ..))
  | headsetDropped r => exact hretained he (hdue (orphanStage_retains ..))
  | barTimerExpiry r a =>
    exact hretained he ((turn_bars r s _ (expireBar_keeps a)).retains 
      (fun hst => by rwa [State.modRecord_eq, State.setRecord_record_same]) rfl)
  | portIsolated p =>
    have hmarked : s.Retains { s with isolationDue := vset s.isolationDue p false } := hrefl.same rfl rfl rfl
    unfold exec execPortIsolated at he; dsimp only at he
    split at he
    · split at he
      exacts [hretained he (hmarked.isolatePort ..), hretained he (hmarked.isolatePort ..), hretained he hmarked,
        hretained he hmarked]
    · exact hretained he hrefl
  | registrationIntake =>
    unfold exec execRegistrationIntake at he; dsimp only at he
    split at he
    · exact hnext he h
    · exact hnext he (foldl_keeps (fun _ x hu => hP.takeReport _ x hu) _ (hP.retained (hrefl.same rfl rfl rfl) h))
  | uplinkFrame p bytes =>
    have hchecked : ∀ u, (match parseUplink bytes with
        | none => (.next (s.bumpPort p .frameErrors) : Out)
        | some f => .next (Machine.placeFrame p f s)) = .next u → s.Retains u := fun u hu => by
      split at hu <;> cases hu
      exacts [hrefl.modPort .., hrefl.placeFrame ..]
    unfold exec execUplinkFrame at he; dsimp only at he
    split at he
    exacts [hretained he hrefl, hretained he (hrefl.examineRecovery ..), hP.retained (hchecked t he) h,
      hP.retained (hchecked t he) h]
  | _ => cases hc

/-- Every command keeps the law. -/
theorem AdmissionLaw.lawKept (hP : AdmissionLaw P) : LawKept P where
  reset := hP.reset
  pending {s} _ h := hP.retained ((State.Retains.refl s).same rfl rfl rfl) h
  served {o p own} hown s h := by
    rcases serve_cases o p own s with ⟨-, e⟩ | ⟨-, -, e⟩ | ⟨-, -, e⟩ <;> rw [e]
    exacts [hP.retained ((State.Retains.refl s).shedOn ..) h, hP.retained ((State.Retains.refl s).respond ..) h,
      hP.retained ((State.Retains.refl _).respond ..) (hP.owner hown h)]
  bumpCtl {s} _ h := hP.retained ((State.Retains.refl s).same rfl rfl rfl) h
  report {s} l x h := by
    unfold State.report; split
    exacts [hP.retained ((State.Retains.refl s).shedOn ..) h, hP.retained ((State.Retains.refl s).respond ..) h]
  distributeLane frame n h := hP.retained (distributeLane_retains frame _ n) h
  takeControlSize {s} h := by
    unfold takeControlSize; dsimp only
    split <;> exact hP.retained ((State.Retains.refl s).same rfl rfl rfl) h
  timer {s} _ h := hP.retained ((State.Retains.refl s).same rfl rfl rfl) h
  post {s} c k p i n d h := hP.retained ((State.Retains.refl s).post c k p i n d) h
  renumbered {s} _ h := hP.retained ((State.Retains.refl s).same rfl rfl rfl) h
  close {s} h := hP.retained (State.Retains.refl s).makePendingClose h
  freezeTick {s} h := by rw [freezeTick_eq]; exact hP.retained ((State.Retains.refl s).same rfl rfl rfl) h
  ageRegistrations := hP.ageRegistrations
  countDenials := hP.countDenials
  scheduleEvents {s} h := hP.retained ((State.Retains.refl s).same rfl rfl rfl) h
  transmit {s} h := by
    have hsame := transmit_same s
    have hframe := transmit_frame s
    generalize transmit s = t at hsame hframe ⊢
    exact hP.retained (hsame.retains (by rw [hframe]; rfl)) h
  holdRequests {s} _ h := hP.retained ((State.Retains.refl s).same rfl rfl rfl) h
  takeHoldRequest {s} q h := by
    rw [takeHoldRequest_frame]; exact hP.retained ((State.Retains.refl s).same rfl rfl rfl) h
  withinBlock := hP.withinBlock

end
end Sys2Proof.Machine
end

section
/-! The Lane Map: which commands change partition, cursor, All-Call lane and bindings, each lawfully (O7). -/

namespace Sys2Proof.Machine

section
variable {s t : State}

/-! ### What the law reads -/

/-- The law of the Lane Map reads the partition, its cursor, the All-Call lane and the lanes bound; unbinding a lane does
not hurt it. -/
theorem State.LaneMapOk.of_unbound (h : s.LaneMapOk) (hpart : t.partition = s.partition) (hcur : t.cursor = s.cursor)
    (hall : t.params.allCall = s.params.allCall) (hlanes : ∀ n r, t.binding n = some r → s.binding n = some r) :
    t.LaneMapOk where
  total := by rw [hpart]; exact h.total
  control := by rw [hpart]; exact h.control
  voice n r hn := by rw [hpart]; exact h.voice n r (hlanes n r hn)
  spared n r hn := by rw [hall]; exact h.spared n r (hlanes n r hn)
  allCall n hn := by rw [hpart]; exact h.allCall n (hall ▸ hn)
  cursorLow := by rw [hpart, hcur]; exact h.cursorLow
  cursorHigh := by rw [hpart, hcur]; exact h.cursorHigh

theorem State.Retains.laneMapOk (h : s.Retains t) (hs : s.LaneMapOk) : t.LaneMapOk := by
  have hlists := h.lists
  simp only [State.lists, Prod.mk.injEq] at hlists
  obtain ⟨hpart, hcur, hparams, -⟩ := hlists
  exact hs.of_unbound hpart hcur (by rw [hparams]) h.lanes

/-- The lists of the Admission Unit are no part of the Lane Map. -/
theorem State.LaneMapOk.withLists (h : s.LaneMapOk) (regs : List Registration) (full : Bool) (denials : List Denial) :
    State.LaneMapOk { s with registrations := regs, fullReported := full, denials := denials } :=
  h.of_unbound rfl rfl rfl fun _ _ => id

theorem State.LaneMapOk.removeRegistrations (h : s.LaneMapOk) (leaves : Registration → Bool) :
    (s.removeRegistrations leaves).LaneMapOk := by
  obtain ⟨full, e⟩ := s.removeRegistrations_frame leaves
  rw [e]; exact h.withLists _ _ _

theorem State.LaneMapOk.takeReport (h : s.LaneMapOk) (g : CycleNo) (x : Report) : (takeReport g s x).LaneMapOk := by
  unfold Machine.takeReport
  repeat' split
  exacts [h, h.withLists _ _ _, ((State.Retains.refl _).post ..).laneMapOk (h.withLists _ _ _), h,
    ((State.Retains.refl _).post ..).laneMapOk (h.withLists _ _ _)]

/-! ### Configure and Set Partition (R79, R80) -/

/-- A value of All-Call Lane that keeps the law: no lane, or an unbound lane of the fixed region. -/
def State.SparesLane (s : State) (a : Option LaneId) : Prop :=
  ∀ n, a = some n → n.val < s.partition.fixed ∧ s.binding n = none

theorem State.LaneMapOk.sparesAllCall (h : s.LaneMapOk) : s.SparesLane s.params.allCall := fun n hn =>
  ⟨h.allCall n hn, Option.eq_none_iff_forall_ne_some.mpr fun r hr => h.spared n r hr hn⟩

theorem State.LaneMapOk.withParams (h : s.LaneMapOk) {p : Params} (hp : s.SparesLane p.allCall) :
    State.LaneMapOk { s with params := p } :=
  { h with
    spared := fun n r hn ha => by
      have hfree := (hp n ha).2
      rw [show s.binding n = some r from hn] at hfree; cases hfree
    allCall := fun n ha => (hp n ha).1 }

/-- Accepted pairs store no All-Call lane but an unbound one of the fixed region (R80). -/
theorem storePairs_sparesLane {pairs : List (Byte × Half)} (h : ∀ x ∈ pairs, s.Accepts x) {p : Params}
    (hp : s.SparesLane p.allCall) : s.SparesLane (storePairs pairs p).1.allCall := by
  induction pairs generalizing p with
  | nil => exact hp
  | cons x pairs ih =>
    rw [List.forall_mem_cons] at h
    refine ih h.2 ?_
    rw [Params.put_allCall]; split
    · rename_i h22
      intro n hn
      have hval := laneOf_eq_some.mp hn
      rcases h.1.2 (BitVec.eq_of_toNat_eq h22) with hnone | ⟨m, hm, hgood⟩
      · rw [hnone] at hval
        have : n.val = 65535 := hval
        omega
      · rwa [Fin.ext (hval.trans hm.symm)]
    · exact hp

theorem State.LaneMapOk.ownConfigure (h : s.LaneMapOk) (b : List Byte) : (ownConfigure b s).2.LaneMapOk := by
  unfold Machine.ownConfigure
  split
  · exact h
  split
  · exact h
  · rename_i pairs _ hgood
    simp only [not_or, Bool.not_eq_false, List.all_eq_true, acceptsPair_iff] at hgood
    exact h.withParams (storePairs_sparesLane hgood.2.2 h.sparesAllCall)

/-- No lane is bound where no lane is found bound. -/
theorem State.anyBound_eq_false (s : State) : s.anyBound = false ↔ ∀ n, s.binding n = none := by
  simp [State.anyBound]

/-- A new partition finds every lane unbound; its cursor is its first pool lane (R79). -/
theorem State.LaneMapOk.ownSetPartition (h : s.LaneMapOk) (b : List Byte) : (ownSetPartition b s).2.LaneMapOk := by
  unfold Machine.ownSetPartition
  split
  · rename_i f p c
    split
    · exact h
    rename_i hsize
    split
    · exact h
    rename_i hfree
    rw [Bool.not_eq_true, State.anyBound_eq_false] at hfree
    simp only [ne_eq, not_or, not_and, Decidable.not_not] at hsize
    have hnone : ∀ n r, (storePartition ⟨f.toNat, p.toNat, c.toNat⟩ s).binding n ≠ some r := fun n r hn => by
      have hb : s.binding n = some r := hn
      rw [hfree n] at hb; cases hb
    refine ⟨hsize.1, ?_, fun n r hn => absurd hn (hnone n r), fun n r hn => absurd hn (hnone n r), fun n hn => ?_,
      le_rfl, ?_⟩
    · by_cases h1 : c = 1
      · exact .inl (by rw [h1]; rfl)
      · exact .inr (by rw [hsize.2 h1]; rfl)
    · exact of_decide_eq_true (Option.filter_eq_some_iff.mp hn).2
    · show f.toNat < f.toNat + p.toNat ∨ p.toNat = 0 ∧ f.toNat = f.toNat
      omega
  · exact h

/-! ### Restart and Admit (R82, R83, R155) -/

/-- A Restart unbinds every lane and puts the cursor at the first pool lane. -/
theorem State.LaneMapOk.restartBlocks (h : s.LaneMapOk) : (restartBlocks s).LaneMapOk := by
  have hnone : ∀ n r, (Machine.restartBlocks s).binding n ≠ some r := fun n r hn => by
    have hb : (Machine.restartBlocks s).binding n = none := replicate_get ..
    rw [hb] at hn; cases hn
  have hpool : s.partition.fixed < s.partition.fixed + s.partition.pool ∨
      s.partition.pool = 0 ∧ s.partition.fixed = s.partition.fixed := by omega
  exact ⟨h.total, h.control, fun n r hn => absurd hn (hnone n r), fun n r hn => absurd hn (hnone n r), h.allCall,
    le_rfl, hpool⟩

/-- The pool search goes round the pool (R82). -/
theorem poolLane_between {first size : Nat} (h : 0 < size) (cursor i : Nat) :
    first ≤ poolLane first size cursor i ∧ poolLane first size cursor i < first + size := by
  have := Nat.mod_lt (cursor - first + i) h
  unfold poolLane; omega

theorem searchPool_between {n : LaneId} (h : searchPool s = some n) :
    s.partition.fixed ≤ n.val ∧ n.val < s.partition.fixed + s.partition.pool := by
  obtain ⟨i, hi, hlane⟩ := List.exists_of_findSome?_eq_some h
  have hpool : 0 < s.partition.pool := Nat.zero_lt_of_lt (List.mem_range.mp hi)
  split at hlane
  · cases hlane
  · rename_i m hm
    split at hlane
    · cases hlane
      rw [laneOf_eq_some.mp hm]; exact poolLane_between hpool ..
    · cases hlane

/-- The lane an Admit takes is no control lane and not the All-Call lane, and the cursor it leaves is in the pool
(R81, R82). -/
theorem State.LaneMapOk.chooseLane (h : s.LaneMapOk) {sel : Byte} {n : LaneId} {cursor : Nat}
    (hc : chooseLane sel s = .ok (n, cursor)) :
    n.val < s.partition.fixed + s.partition.pool ∧ s.params.allCall ≠ some n ∧ s.partition.fixed ≤ cursor ∧
      (cursor < s.partition.fixed + s.partition.pool ∨ s.partition.pool = 0 ∧ cursor = s.partition.fixed) := by
  unfold Machine.chooseLane at hc
  split at hc
  · split at hc
    · rename_i m hm
      cases hc
      obtain ⟨hlo, hhi⟩ := searchPool_between hm
      refine ⟨hhi, fun ha => ?_, ?_, ?_⟩
      · have := h.allCall _ ha; omega
      all_goals unfold cursorAfter; split <;> omega
    · cases hc
  · repeat' split at hc
    · cases hc
    · cases hc
    · cases hc
    · rename_i hgood _
      cases hc
      rw [not_or] at hgood
      exact ⟨by omega, hgood.2, h.cursorLow, h.cursorHigh⟩

/-- The lane bound by an Admit is as it was chosen (R83). -/
theorem State.LaneMapOk.admitInto (h : s.LaneMapOk) (r : RecordIx) (x : HeadsetId) {n : LaneId} {cursor : Nat}
    (hn : n.val < s.partition.fixed + s.partition.pool) (ha : s.params.allCall ≠ some n)
    (hlow : s.partition.fixed ≤ cursor)
    (hhigh : cursor < s.partition.fixed + s.partition.pool ∨ s.partition.pool = 0 ∧ cursor = s.partition.fixed) :
    (admitInto r x n cursor s).LaneMapOk := by
  have hframe := seedAttach_frame r (s.enrolled r x n cursor)
  obtain ⟨hbinding, -, hcur, -, -, -, hrest⟩ := State.admitted_of (s := s) hframe.1 hframe.2
  rw [admitInto_eq]
  generalize (seedAttach r (s.enrolled r x n cursor)).unlist x = t at *
  have hpart : t.partition = s.partition := by rw [hrest]
  have hparams : t.params = s.params := by rw [hrest]
  refine ⟨by rw [hpart]; exact h.total, by rw [hpart]; exact h.control, fun m q hm => ?_, fun m q hm => ?_,
    by rw [hpart, hparams]; exact h.allCall, by rw [hpart, hcur]; exact hlow, by rw [hpart, hcur]; exact hhigh⟩
  all_goals
    rw [hbinding] at hm
    split at hm
  · rename_i hmn; rw [hpart, hmn]; exact hn
  · rw [hpart]; exact h.voice m q hm
  · rename_i hmn; rw [hparams, hmn]; exact ha
  · rw [hparams]; exact h.spared m q hm

theorem State.LaneMapOk.ownAdmit (h : s.LaneMapOk) (b : List Byte) : (ownAdmit b s).2.LaneMapOk := by
  unfold Machine.ownAdmit
  split
  · dsimp only
    repeat' split
    · exact h
    · exact h
    · exact h
    · exact h
    · rename_i hc
      obtain ⟨hn, ha, hlow, hhigh⟩ := h.chooseLane hc
      exact h.admitInto _ _ hn ha hlow hhigh
  · exact h

/-! ### Deny (R77) -/

theorem State.LaneMapOk.ownDeny (h : s.LaneMapOk) (b : List Byte) : (ownDeny b s).2.LaneMapOk := by
  have hdeny : ∀ x, (denyHeadset x s).2.LaneMapOk := fun x => by
    unfold denyHeadset
    cases s.registrations.find? (·.id = x) with
    | none => exact h.withLists _ _ _
    | some e => exact ((denyOrder_retains x e _).laneMapOk (h.removeRegistrations _)).withLists _ _ _
  unfold Machine.ownDeny; dsimp only
  repeat' split
  exacts [h, h, hdeny _, h]

end

/-! ### Every command -/

theorem State.laneMapOk_admissionLaw : AdmissionLaw State.LaneMapOk where
  reset := State.reset_laneMapOk
  retained := State.Retains.laneMapOk
  ageRegistrations h := h.removeRegistrations _
  countDenials h := h.withLists _ _ _
  expireDenial _ h := h.withLists _ _ _
  takeReport g x h := h.takeReport g x
  configure b h := h.ownConfigure b
  setPartition b h := h.ownSetPartition b
  restartBlocks h := h.restartBlocks
  admitHeadset b h := h.ownAdmit b
  deny b h := h.ownDeny b

end Sys2Proof.Machine

section
open Sys2Proof Sys2Proof.Machine

/-- Settles O7: Configure, Set Partition, Restart and Admit change the Lane Map lawfully, and every other command at most
unbinds lanes. -/
theorem laneMapStaysLawful : Obligations.LaneMapStaysLawful :=
  fun _ _ hs h => State.laneMapOk_admissionLaw.lawKept.step h hs

end
end

section
/-! The Registration Queue and the Deny List: which commands change them, each lawfully (O9). -/

namespace Sys2Proof.Machine

/-! ### The two lists alone (R70, R73, R76) -/

/-- A Registration Queue with its Full Reported: at most 16 entries, no ID twice, reported full only where it is full. -/
structure registrationsOk (q : List Registration) (full : Bool) : Prop where
  room : q.length ≤ Config.maxRegistrations
  distinct : (q.map (·.id)).Nodup
  armed : full = true → q.length = Config.maxRegistrations

/-- A Deny List: at most 8 entries, no ID twice, and counts from 1 to 15000. -/
structure denialsOk (ds : List Denial) : Prop where
  room : ds.length ≤ Config.maxDenials
  distinct : (ds.map (·.id)).Nodup
  counts : ∀ d ∈ ds, 1 ≤ d.remaining ∧ d.remaining ≤ 15000

theorem registrationsOk_nil : registrationsOk [] false := ⟨Nat.zero_le _, List.nodup_nil, nofun⟩

theorem denialsOk_nil : denialsOk [] := ⟨Nat.zero_le _, List.nodup_nil, nofun⟩

theorem denialsOk.sublist {ds ds' : List Denial} (h : denialsOk ds) (hs : ds'.Sublist ds) : denialsOk ds' :=
  ⟨hs.length_le.trans h.room, h.distinct.sublist (hs.map _), fun d hd => h.counts d (hs.subset hd)⟩

/-- An ID that is not listed takes the newest place of a list with room. -/
theorem denialsOk.append {ds : List Denial} (h : denialsOk ds) {d : Denial} (hroom : ds.length < Config.maxDenials)
    (hnew : ∀ e ∈ ds, e.id ≠ d.id) (hd : 1 ≤ d.remaining ∧ d.remaining ≤ 15000) : denialsOk (ds ++ [d]) := by
  refine ⟨by simpa using hroom, ?_, fun e he => ?_⟩
  · rw [List.map_append, List.nodup_append]
    refine ⟨h.distinct, by simp, fun a ha b hb => ?_⟩
    obtain ⟨e, he, rfl⟩ := List.mem_map.mp ha
    rw [List.mem_singleton.mp hb]; exact hnew e he
  · rcases List.mem_append.mp he with he | he
    · exact h.counts e he
    · rw [List.mem_singleton.mp he]; exact hd

/-- One cycle start lowers every count and takes out those that end (R76). -/
theorem denialsOk.tick {ds : List Denial} (h : denialsOk ds) : denialsOk (ds.filterMap Denial.tick) := by
  have htick : ∀ {d e : Denial}, d.tick = some e → e.id = d.id ∧ 1 ≤ e.remaining ∧ e.remaining ≤ d.remaining :=
    fun {d e} hde => by
      unfold Denial.tick at hde; split at hde <;> cases hde
      exact ⟨rfl, by dsimp only; omega, Nat.sub_le ..⟩
  have hids : ((ds.filterMap Denial.tick).map (·.id)).Sublist (ds.map (·.id)) := by
    clear h
    induction ds with
    | nil => exact .slnil
    | cons d ds ih =>
      cases hd : d.tick with
      | none => rw [List.filterMap_cons_none hd]; exact ih.cons _
      | some e => rw [List.filterMap_cons_some hd, List.map_cons, (htick hd).1]; exact ih.cons_cons _
  refine ⟨?_, h.distinct.sublist hids, fun e he => ?_⟩
  · exact (List.length_filterMap_le ..).trans h.room
  · obtain ⟨d, hd, hde⟩ := List.mem_filterMap.mp he
    have := h.counts d hd
    have := (htick hde).2
    omega

/-- An ID is listed in the newest place (R77). -/
theorem denialsOk.listDenial {ds : List Denial} (h : denialsOk ds) (x : HeadsetId) {n : Nat}
    (hn : 1 ≤ n ∧ n ≤ 15000) : denialsOk (listDenial x n ds) := by
  unfold Machine.listDenial
  split
  · rename_i hlisted
    obtain ⟨d, hd, hid⟩ := List.any_eq_true.mp hlisted
    have hshorter : (ds.filter (·.id ≠ x)).length < ds.length :=
      List.length_filter_lt_length_iff_exists.mpr ⟨d, hd, by simpa using hid⟩
    exact (h.sublist List.filter_sublist).append (hshorter.trans_le h.room)
      (fun e he => by simpa using (List.mem_filter.mp he).2) hn
  rename_i hnew
  simp only [List.any_eq_true, decide_eq_true_eq, not_exists, not_and] at hnew
  split
  · rename_i hroom; exact h.append hroom hnew hn
  · rename_i hfull
    refine (h.sublist (List.drop_sublist 1 ds)).append ?_ (fun e he => hnew e (List.mem_of_mem_drop he)) hn
    have := h.room
    rw [List.length_drop]; unfold Config.maxDenials at *; omega

/-! ### The law of the state -/

section
variable {s t : State}

theorem State.AdmissionOk.registrationsOk (h : s.AdmissionOk) : registrationsOk s.registrations s.fullReported :=
  ⟨h.room, h.distinct, h.armed⟩

theorem State.AdmissionOk.denialsOk (h : s.AdmissionOk) : denialsOk s.denials :=
  ⟨h.denialRoom, h.denialDistinct, h.counts⟩

theorem State.admissionOk_of (hq : Machine.registrationsOk s.registrations s.fullReported)
    (hun : ∀ e ∈ s.registrations, s.findRecord e.id = none) (hd : Machine.denialsOk s.denials) : s.AdmissionOk :=
  ⟨hq.room, hq.distinct, hun, hq.armed, hd.room, hd.distinct, hd.counts⟩

theorem State.Retains.admissionOk (h : s.Retains t) (hs : s.AdmissionOk) : t.AdmissionOk := by
  have hlists := h.lists
  simp only [State.lists, Prod.mk.injEq] at hlists
  obtain ⟨-, -, -, hregs, hfull, hdenials⟩ := hlists
  refine State.admissionOk_of ?_ (fun e he => h.unheld _ (hs.unheld e (hregs ▸ he))) ?_
  · rw [hregs, hfull]; exact hs.registrationsOk
  · rw [hdenials]; exact hs.denialsOk

/-- Entries taken out leave the queue lawful, and re-arm Registration Full (R73). -/
theorem registrationsOk.removeRegistrations (h : Machine.registrationsOk s.registrations s.fullReported)
    (leaves : Registration → Bool) : Machine.registrationsOk (s.removeRegistrations leaves).registrations
      (s.removeRegistrations leaves).fullReported := by
  have hkept : (s.registrations.filter fun x => !leaves x).Sublist s.registrations := List.filter_sublist
  have hle := hkept.length_le.trans h.room
  unfold State.removeRegistrations
  split
  · refine ⟨hle, h.distinct.sublist (hkept.map _), fun hfull => ?_⟩
    simp only [Bool.and_eq_true, decide_eq_true_eq] at hfull
    exact le_antisymm hle hfull.2
  · exact h

theorem State.AdmissionOk.removeRegistrations (h : s.AdmissionOk) (leaves : Registration → Bool) :
    (s.removeRegistrations leaves).AdmissionOk := by
  have hq := h.registrationsOk.removeRegistrations leaves
  obtain ⟨full, e⟩ := s.removeRegistrations_frame leaves
  rw [e] at hq ⊢
  exact State.admissionOk_of hq (fun e he => h.unheld e (List.mem_of_mem_filter he)) h.denialsOk

/-- A Deny List that is lawful in place of the former. -/
theorem State.AdmissionOk.withDenials (h : s.AdmissionOk) {ds : List Denial} (hd : Machine.denialsOk ds) :
    State.AdmissionOk { s with denials := ds } := State.admissionOk_of h.registrationsOk h.unheld hd

/-- Parameters, partition and cursor are no part of the law. -/
theorem State.AdmissionOk.withParams (h : s.AdmissionOk) (part : Partition) (cursor : Nat) (p : Params) :
    State.AdmissionOk { s with partition := part, cursor := cursor, params := p } :=
  State.admissionOk_of h.registrationsOk h.unheld h.denialsOk

theorem State.AdmissionOk.ownConfigure (h : s.AdmissionOk) (b : List Byte) : (ownConfigure b s).2.AdmissionOk := by
  unfold Machine.ownConfigure; repeat' split
  exacts [h, h, h.withParams ..]

theorem State.AdmissionOk.ownSetPartition (h : s.AdmissionOk) (b : List Byte) :
    (ownSetPartition b s).2.AdmissionOk := by
  unfold Machine.ownSetPartition; repeat' split
  exacts [h, h, h.withParams .., h]

/-! ### Reports (R72, R73) -/

theorem refresh_id (g : CycleNo) (x : Report) (e : Registration) : (refresh g x e).id = e.id := by
  unfold refresh; split_ifs <;> rfl

theorem State.AdmissionOk.takeReport (h : s.AdmissionOk) (g : CycleNo) (x : Report) :
    (takeReport g s x).AdmissionOk := by
  unfold Machine.takeReport
  split
  · exact h
  rename_i hout
  simp only [Bool.or_eq_true, not_or, Bool.not_eq_true, Option.isSome_eq_false_iff, Option.isNone_iff_eq_none] at hout
  split
  · refine State.admissionOk_of ⟨by simpa using h.room, ?_, by simpa using h.armed⟩ ?_ h.denialsOk
    · simpa [Function.comp_def, refresh_id] using h.distinct
    · intro e he
      obtain ⟨e', he', rfl⟩ := List.mem_map.mp he
      rw [refresh_id]; exact h.unheld e' he'
  rename_i hnew
  simp only [List.any_eq_true, decide_eq_true_eq, not_exists, not_and] at hnew
  split
  · rename_i hroom
    refine ((State.Retains.refl _).post ..).admissionOk (State.admissionOk_of ⟨by simpa using hroom, ?_, fun hf => ?_⟩
      (fun e he => ?_) h.denialsOk)
    · dsimp only
      rw [List.map_append, List.nodup_append]
      refine ⟨h.distinct, by simp, fun a ha b hb => ?_⟩
      obtain ⟨e, he, rfl⟩ := List.mem_map.mp ha
      rw [List.mem_singleton.mp hb]; exact hnew e he
    · exact absurd (h.armed hf) hroom.ne
    · rcases List.mem_append.mp he with he | he
      · exact h.unheld e he
      · rw [List.mem_singleton.mp he]; exact hout.1
  split
  · exact h
  · rename_i hfull _
    exact ((State.Retains.refl _).post ..).admissionOk (State.admissionOk_of
      ⟨h.room, h.distinct, fun _ => le_antisymm h.room (Nat.not_lt.mp hfull)⟩ h.unheld h.denialsOk)

/-! ### Admit and Deny (R77, R83) -/

/-- The record made holds the ID admitted, or none. -/
theorem seedAttach_enrolled_id (s : State) (r : RecordIx) (x : HeadsetId) (n : LaneId) (cursor : Nat) :
    ((seedAttach r (s.enrolled r x n cursor)).record r).id = some x ∨
      ((seedAttach r (s.enrolled r x n cursor)).record r).id = none := by
  have hmade := s.enrolled_record r x n cursor
  rcases (seedAttach_turn (r := r) (s := s.enrolled r x n cursor) (by rw [hmade]; rfl)).held with ⟨hid, -⟩ | ⟨hid, -⟩
  · rw [hid, hmade]; exact .inl rfl
  · exact .inr hid

/-- The ID admitted is on neither list any more, so no registration is of an ID held (R83). -/
theorem State.AdmissionOk.admitInto (h : s.AdmissionOk) (r : RecordIx) (x : HeadsetId) (n : LaneId) (cursor : Nat) :
    (admitInto r x n cursor s).AdmissionOk := by
  have hframe := seedAttach_frame r (s.enrolled r x n cursor)
  have hid := seedAttach_enrolled_id s r x n cursor
  obtain ⟨-, -, -, hregs, hdenials, hothers, -⟩ := State.admitted_of (s := s) hframe.1 hframe.2
  have hqueue : Machine.registrationsOk (seedAttach r (s.enrolled r x n cursor)).registrations
      (seedAttach r (s.enrolled r x n cursor)).fullReported := by rw [hframe.1]; exact h.registrationsOk
  have hkept := hqueue.removeRegistrations (·.id = x)
  have hrecord := ((seedAttach r (s.enrolled r x n cursor)).unlist_keeps x r).1
  rw [admitInto_eq]
  refine State.admissionOk_of hkept (fun e he => ?_) ?_
  · rw [hregs, List.mem_filter, decide_eq_true_eq] at he
    have hfree := (s.findRecord_eq_none e.id).mp (h.unheld e he.1)
    rw [State.findRecord_eq_none]
    intro q
    by_cases hq : q = r
    · subst hq
      rw [hrecord]
      rcases hid with hid | hid <;> rw [hid]
      exacts [.inr fun heq => he.2 (Option.some.inj heq).symm, .inr nofun]
    · rw [hothers q hq]; exact hfree q
  · rw [hdenials]; exact h.denialsOk.sublist List.filter_sublist

theorem State.AdmissionOk.ownAdmit (h : s.AdmissionOk) (b : List Byte) : (ownAdmit b s).2.AdmissionOk := by
  unfold Machine.ownAdmit; dsimp only
  repeat' split
  exacts [h, h, h, h, h.admitInto .., h]

theorem State.AdmissionOk.ownDeny (h : s.AdmissionOk) (hp : s.params.Ok) (b : List Byte) :
    (ownDeny b s).2.AdmissionOk := by
  have hold : 1 ≤ s.params.denyHold ∧ s.params.denyHold ≤ 15000 := ⟨by have := hp.denyHold.1; omega, hp.denyHold.2⟩
  have hlisted : ∀ {u : State} (x : HeadsetId), u.AdmissionOk →
      State.AdmissionOk { u with denials := listDenial x s.params.denyHold u.denials } := fun x hu =>
    hu.withDenials (hu.denialsOk.listDenial x hold)
  have hdeny : ∀ x, (denyHeadset x s).2.AdmissionOk := fun x => by
    unfold denyHeadset
    cases s.registrations.find? (·.id = x) with
    | none => exact hlisted x h
    | some e => exact hlisted x ((denyOrder_retains x e _).admissionOk (h.removeRegistrations _))
  unfold Machine.ownDeny; dsimp only
  repeat' split
  exacts [h, h, hdeny _, h]

end

/-! ### Every command -/

theorem State.Retains.paramsOk {s t : State} (h : s.Retains t) (hp : s.params.Ok) : t.params.Ok := by
  have hlists := h.lists
  simp only [State.lists, Prod.mk.injEq] at hlists
  rw [hlists.2.2.1]; exact hp

/-- With the parameters in range the lists stay lawful: the Deny Hold is the count an ID is listed with. -/
theorem State.admissionOk_admissionLaw : AdmissionLaw fun s => s.params.Ok ∧ s.AdmissionOk where
  reset := by
    obtain ⟨-, -, -, -, hadmission, -, -, -, -, -, -, hparams, -⟩ := resetMeetsEveryLaw
    exact ⟨hparams, hadmission⟩
  retained hst h := ⟨hst.paramsOk h.1, hst.admissionOk h.2⟩
  ageRegistrations h := ⟨by rw [ageRegistrations, (State.removeRegistrations_sameSettings ..).params]; exact h.1,
    h.2.removeRegistrations _⟩
  countDenials h := ⟨h.1, h.2.withDenials h.2.denialsOk.tick⟩
  expireDenial _ h := ⟨h.1, h.2.withDenials (h.2.denialsOk.sublist List.filter_sublist)⟩
  takeReport g x h := ⟨by rw [(takeReport_sameSettings ..).params]; exact h.1, h.2.takeReport g x⟩
  configure b h := ⟨((State.Bounded.refl _).ownConfigure b).params h.1, h.2.ownConfigure b⟩
  setPartition b h := ⟨((State.Bounded.refl _).ownSetPartition b).params h.1, h.2.ownSetPartition b⟩
  restartBlocks h := ⟨h.1, State.admissionOk_of registrationsOk_nil (fun _ he => nomatch he) denialsOk_nil⟩
  admitHeadset b h := ⟨by rw [(ownAdmit_sameSettings ..).params]; exact h.1, h.2.ownAdmit b⟩
  deny b h := ⟨by rw [(ownDeny_sameSettings ..).params]; exact h.1, h.2.ownDeny h.1 b⟩

end Sys2Proof.Machine

section
open Sys2Proof Sys2Proof.Machine

/-- Settles O9: reports, aging, Deny, Admit and Restart change the lists lawfully, and no other command lets a record take
an ID. -/
theorem admissionListsStayLawful : Obligations.AdmissionListsStayLawful :=
  fun _ _ hp hs h => (State.admissionOk_admissionLaw.lawKept.step h ⟨hp, hs⟩).2

end
end

section
/-! Set Partition and Fetch Registrations served, and the refusals of Admit in their order (O23, O36, O37). -/

namespace Sys2Proof.Machine

section
variable {s : State}

theorem byteOf_toNat (b : Byte) : byteOf b.toNat = b := by simp [byteOf]

/-! ### Set Partition (R79) -/

theorem State.anyBound_eq_true (s : State) : s.anyBound = true ↔ ∃ n r, s.binding n = some r := by
  simp [State.anyBound, Option.isSome_iff_exists]

/-- The sizes of a Set Partition fit: they make 64 lanes with 1 or 2 of control. -/
def SizesFit (f p c : Byte) : Prop := f.toNat + p.toNat + c.toNat = 64 ∧ (c = 1 ∨ c = 2)

theorem ownSetPartition_misfit {f p c : Byte} (h : ¬SizesFit f p c) :
    ownSetPartition [f, p, c] s = refuse .badArgument s := by
  refine if_pos ?_
  unfold SizesFit at h
  tauto

theorem ownSetPartition_fit {f p c : Byte} (h : SizesFit f p c) : ownSetPartition [f, p, c] s =
    if s.anyBound then refuse .busy s
    else (.done [f, p, c, f, laneByte? (s.params.allCall.filter fun n => n.val < f.toNat)],
      storePartition ⟨f.toNat, p.toNat, c.toNat⟩ s) := by
  refine (if_neg ?_).trans ?_
  · unfold SizesFit at h
    tauto
  · simp only [storePartition, byteOf_toNat]

theorem ownSetPartition_length {b : List Byte} (h : b.length ≠ 3) : ownSetPartition b s = refuse .badArgument s := by
  unfold ownSetPartition; split
  exacts [absurd rfl h, rfl]

/-! ### Fetch Registrations (R75) -/

theorem ownFetchRegistrations_start {start : Byte} (h : start.toNat ≤ 15) : ownFetchRegistrations [start] s =
    answer (.done ([byteOf s.registrations.length, byteOf ((s.registrations.drop start.toNat).take 4).length] ++
      ((s.registrations.drop start.toNat).take 4).flatMap Registration.bytes)) s := if_neg (Nat.not_lt.mpr h)

theorem ownFetchRegistrations_beyond {start : Byte} (h : 15 < start.toNat) :
    ownFetchRegistrations [start] s = refuse .badArgument s := if_pos h

theorem ownFetchRegistrations_length {b : List Byte} (h : b.length ≠ 1) :
    ownFetchRegistrations b s = refuse .badArgument s := by
  unfold ownFetchRegistrations; split
  exacts [absurd rfl h, rfl]

/-! ### The checks of Admit (R81) -/

/-- An ID that a record holds. -/
theorem State.findRecord_isSome (s : State) (x : HeadsetId) :
    (s.findRecord x).isSome = true ↔ ∃ r, (s.record r).state ≠ .free ∧ (s.record r).id = some x := by
  rw [← not_iff_not, Bool.not_eq_true, Option.isSome_eq_false_iff, s.findRecord_isNone]
  push Not
  exact forall_congr' fun r => by tauto

theorem State.findRecord_none_iff (s : State) (x : HeadsetId) :
    s.findRecord x = none ↔ ¬∃ r, (s.record r).state ≠ .free ∧ (s.record r).id = some x := by
  rw [← s.findRecord_isSome, Option.not_isSome_iff_eq_none]

theorem State.lowestFree_none_iff (s : State) : s.lowestFree = none ↔ ¬∃ r, (s.record r).state = .free := by
  simp [State.lowestFree]

theorem State.lowestFree_of_room (h : ∃ r, (s.record r).state = .free) : ∃ r, s.lowestFree = some r := by
  cases hr : s.lowestFree with
  | none => exact absurd h (s.lowestFree_none_iff.mp hr)
  | some r => exact ⟨r, rfl⟩

theorem chooseLane_unnamed {sel : Byte} (hsel : sel ≠ 0xFF)
    (h : ¬∃ n : LaneId, n.val = sel.toNat ∧ n.val < s.partition.fixed ∧ s.params.allCall ≠ some n) :
    chooseLane sel s = .error .badArgument := by
  rw [chooseLane, if_neg hsel]
  split
  · rfl
  · rename_i n hn
    refine if_pos ?_
    by_contra hgood
    rw [not_or, Nat.not_le] at hgood
    exact h ⟨n, laneOf_eq_some.mp hn, hgood⟩

theorem chooseLane_bound {sel : Byte} {n : LaneId} (hsel : sel ≠ 0xFF) (hn : n.val = sel.toNat)
    (hfix : n.val < s.partition.fixed) (hall : s.params.allCall ≠ some n) (hbound : s.binding n ≠ none) :
    chooseLane sel s = .error .busy := by
  have hgood : ¬(s.partition.fixed ≤ n.val ∨ s.params.allCall = some n) := not_or.mpr ⟨Nat.not_le.mpr hfix, hall⟩
  rw [chooseLane, if_neg hsel, laneOf_eq hn]
  dsimp only
  rw [if_neg hgood, if_pos (Option.isSome_iff_ne_none.mpr hbound)]

/-- With every pool lane bound the pool search finds none (R82). -/
theorem chooseLane_poolBound (h : ∀ n : LaneId, s.partition.fixed ≤ n.val →
    n.val < s.partition.fixed + s.partition.pool → s.binding n ≠ none) : chooseLane 0xFF s = .error .noLane := by
  have hnone : searchPool s = none := by
    refine List.findSome?_eq_none_iff.mpr fun i hi => ?_
    have hpool : 0 < s.partition.pool := Nat.zero_lt_of_lt (List.mem_range.mp hi)
    obtain ⟨hlo, hhi⟩ := poolLane_between hpool (first := s.partition.fixed) s.cursor i
    split
    · rfl
    · rename_i n hn
      rw [← laneOf_eq_some.mp hn] at hlo hhi
      exact if_neg (h n hlo hhi)
  rw [chooseLane, if_pos rfl, hnone]

section
variable {a b c sel : Byte}

theorem ownAdmit_notCanonical (hx : canonical (id24 a b c) = false) :
    ownAdmit [a, b, c, sel] s = refuse .badIdentifier s := if_pos (by rw [hx]; rfl)

theorem ownAdmit_held (hx : canonical (id24 a b c) = true) (hheld : (s.findRecord (id24 a b c)).isSome = true) :
    ownAdmit [a, b, c, sel] s = refuse .duplicate s := (if_neg (by rw [hx]; nofun)).trans (if_pos hheld)

/-- The checks of the ID passed, the records and then the lane decide. -/
theorem ownAdmit_new (hx : canonical (id24 a b c) = true) (hnew : s.findRecord (id24 a b c) = none) :
    ownAdmit [a, b, c, sel] s =
      match s.lowestFree with
      | none => refuse .tableFull s
      | some r =>
        match chooseLane sel s with
        | .error why => refuse why s
        | .ok (n, cursor) => (.done [byteOf r.val, byteOf n.val,
            ((admitInto r (id24 a b c) n cursor s).record r).state.code], admitInto r (id24 a b c) n cursor s) :=
  (if_neg (by rw [hx]; nofun)).trans (if_neg (by rw [hnew]; nofun))

theorem ownAdmit_tableFull (hx : canonical (id24 a b c) = true) (hnew : s.findRecord (id24 a b c) = none)
    (hfull : s.lowestFree = none) : ownAdmit [a, b, c, sel] s = refuse .tableFull s := by
  rw [ownAdmit_new hx hnew, hfull]

theorem ownAdmit_noLane (hx : canonical (id24 a b c) = true) (hnew : s.findRecord (id24 a b c) = none)
    (hroom : ∃ r, (s.record r).state = .free) {why : Reason} (hlane : chooseLane sel s = .error why) :
    ownAdmit [a, b, c, sel] s = refuse why s := by
  obtain ⟨r, hr⟩ := State.lowestFree_of_room hroom
  rw [ownAdmit_new hx hnew, hr, hlane]

end

theorem ownAdmit_length {b : List Byte} (h : b.length ≠ 4) : ownAdmit b s = refuse .badArgument s := by
  unfold ownAdmit; split
  exacts [absurd rfl h, rfl]

end
end Sys2Proof.Machine

section
open Sys2Proof Sys2Proof.Machine

/-- Settles O23: sizes that fit are stored where no lane is bound, and every other Set Partition is refused. -/
theorem setPartitionReplacesThePartition : Obligations.SetPartitionReplacesThePartition := by
  intro o f p c s ho hroom
  have hserves := State.serves_primary .primaryOnly ho hroom
  refine ⟨⟨fun h => ?_, fun h hbound => ?_, fun h hfree => ?_⟩, fun q hq => ?_⟩
  · exact congrArg Host.Outcome.next (serve_refused (why := .badArgument) hserves (ownSetPartition_misfit h))
  · exact congrArg Host.Outcome.next (serve_refused (why := .busy) hserves
      ((ownSetPartition_fit h).trans (if_pos (s.anyBound_eq_true.mpr hbound))))
  · have hstored := (ownSetPartition_fit (s := s) h).trans
      (if_neg (Bool.not_eq_true _ ▸ s.anyBound_eq_false.mpr hfree))
    refine (congrArg Host.Outcome.next (serve_done hserves hstored)).trans ?_
    unfold storePartition
    cases s.params.allCall with
    | none => rfl
    | some n => by_cases hn : n.val < f.toNat <;> simp [Option.filter, hn, laneByte?]
  · exact congrArg Host.Outcome.next (serve_refused (why := .badArgument) hserves (ownSetPartition_length hq))

/-- Settles O36: the answer is the queue's entries from the start position, four at most. -/
theorem fetchRegistrationsReadsFour : Obligations.FetchRegistrationsReadsFour := by
  intro o s ho hroom
  have hserves := State.serves_primary .primaryOnly ho hroom
  refine ⟨fun start hstart => ⟨(s.registrations.drop start.toNat).take 4, by simp, fun i hi => ?_, ?_⟩,
    fun start hstart => ?_, fun p hp => ?_⟩
  · rw [List.getElem_take, List.getElem_drop, List.getElem?_eq_getElem]
  · exact congrArg Host.Outcome.next (serve_done hserves (ownFetchRegistrations_start hstart))
  · exact congrArg Host.Outcome.next
      (serve_refused (why := .badArgument) hserves (ownFetchRegistrations_beyond hstart))
  · exact congrArg Host.Outcome.next (serve_refused (why := .badArgument) hserves (ownFetchRegistrations_length hp))

/-- Settles O37: each check in its order, the earlier ones passed. -/
theorem admitChecksInOrder : Obligations.AdmitChecksInOrder := by
  intro o a b c sel s ho hroom _ x run held room named
  have hrefused : ∀ {p : List Byte} {why : Reason}, ownAdmit p s = refuse why s →
      exec (.admitHeadset o p) s = .next (s.refused o why.code) := fun h =>
    congrArg Host.Outcome.next (serve_refused (State.serves_primary .primaryOnly ho hroom) h)
  have hnew : ¬held → s.findRecord x = none := (s.findRecord_none_iff x).mpr
  refine ⟨fun hx => ?_, fun hx hheld => ?_, fun hx hfree hfull => ?_, fun hx hfree hspace hsel hunnamed => ?_,
    fun hx hfree hspace hsel ⟨n, hn, hfix, hall⟩ hbound => ?_, fun hx hfree hspace hsel hpool => ?_, fun p hp => ?_⟩
  · exact hrefused (why := .badIdentifier) (ownAdmit_notCanonical hx)
  · exact hrefused (why := .duplicate) (ownAdmit_held hx ((s.findRecord_isSome x).mpr hheld))
  · exact hrefused (why := .tableFull) (ownAdmit_tableFull hx (hnew hfree) (s.lowestFree_none_iff.mpr hfull))
  · exact hrefused (why := .badArgument) (ownAdmit_noLane hx (hnew hfree) hspace (chooseLane_unnamed hsel hunnamed))
  · exact hrefused (why := .busy) (ownAdmit_noLane hx (hnew hfree) hspace
      (chooseLane_bound hsel hn hfix hall (hbound n hn)))
  · exact hrefused (why := .noLane) (ownAdmit_noLane hx (hnew hfree) hspace (hsel ▸ chooseLane_poolBound hpool))
  · exact hrefused (why := .badArgument) (ownAdmit_length hp)

end
end

section
/-! Deny: the ID listed, its registration removed, and the order asked of its best antenna's port (O39). -/

namespace Sys2Proof.Machine

/-! ### The Deny List (R77) -/

/-- The ID listed takes the newest place; where 8 others are listed the oldest of them goes. -/
theorem listDenial_eq {ds : List Denial} (h : denialsOk ds) (x : HeadsetId) (n : Nat) : listDenial x n ds =
    (if (ds.filter fun d => d.id ≠ x).length = 8 then (ds.filter fun d => d.id ≠ x).drop 1
      else ds.filter fun d => d.id ≠ x) ++ [⟨x, n⟩] := by
  have hroom : ds.length ≤ 8 := h.room
  unfold listDenial
  split
  · rename_i hlisted
    obtain ⟨d, hd, hid⟩ := List.any_eq_true.mp hlisted
    have hshorter : (ds.filter fun d => d.id ≠ x).length < ds.length :=
      List.length_filter_lt_length_iff_exists.mpr ⟨d, hd, by simpa using hid⟩
    rw [if_neg (by omega)]
  · rename_i hnew
    have hothers : (ds.filter fun d => d.id ≠ x) = ds := List.filter_eq_self.mpr fun d hd => by
      simpa using fun hid => hnew (List.any_eq_true.mpr ⟨d, hd, by simpa using hid⟩)
    rw [hothers]
    split <;> rename_i hlen <;> unfold Config.maxDenials at hlen
    · rw [if_neg (by omega)]
    · rw [if_pos (by omega)]

/-! ### The order asked (R77, R119) -/

section
variable {s : State} {x : HeadsetId} {e : Registration}

theorem denyOrder_frame (x : HeadsetId) (e : Registration) (s : State) : (denyOrder x e s).2 = { s with
    ports := (denyOrder x e s).2.ports
    events := (denyOrder x e s).2.events
    lostEvents := (denyOrder x e s).2.lostEvents } := by
  unfold denyOrder; split
  · exact s.requestOrder_frame ..
  · rfl

theorem denyOrder_outOfService (h : (s.port e.antenna).state = .off ∨ (s.port e.antenna).state = .isolated) :
    denyOrder x e s = (none, s) := if_neg fun hin => not_outOfService hin h

/-- An order that a port in service takes stands in its queue. -/
theorem denyOrder_taken (h : (s.port e.antenna).state = .active ∨ (s.port e.antenna).state = .dormant)
    {o : OrderOutcome} {q : List Order} (ht : takeOrder (s.port e.antenna).orders .deny x = (o, q))
    (ho : o.taken = true) :
    denyOrder x e s = (some e.antenna, s.setPort e.antenna { s.port e.antenna with orders := q }) := by
  have hkept : (takeOrder (s.port e.antenna).orders .deny x).1 ≠ .discarded := by rw [ht]; rintro rfl; cases ho
  rw [denyOrder, if_pos h, State.requestOrder_taken (not_outOfService h) hkept, ht]
  exact congrArg (·, _) (if_pos ho)

/-- An order that a full queue discards is counted and posted. -/
theorem denyOrder_lost (h : (s.port e.antenna).state = .active ∨ (s.port e.antenna).state = .dormant)
    (ht : (takeOrder (s.port e.antenna).orders .deny x).1 = .discarded) : denyOrder x e s =
      (none, (s.bumpPort e.antenna .orderDrops).post .warning .orderLost (some e.antenna) (some x) none 3) := by
  rw [denyOrder, if_pos h, State.requestOrder_lost (not_outOfService h) ht]; rfl

/-- The one thing that a request for a Deny meets in a queue is a Deny waiting already. -/
theorem meetsNothing_deny {q : List Order} (h : (⟨.deny, x⟩ : Order) ∉ q) : MeetsNothing q .deny x :=
  meetsNothing_iff.mpr ⟨fun hd => (nomatch hd.1), fun ha => (nomatch ha.1), h⟩

/-! ### The headset denied (R77) -/

/-- The part with the ID's registration removed, which re-arms Registration Full (R73). -/
def State.unregistered (s : State) (x : HeadsetId) : State :=
  { s with registrations := s.registrations.filter fun e => e.id ≠ x, fullReported := false }

theorem State.AdmissionOk.removeRegistrations_eq (h : s.AdmissionOk) (he : e ∈ s.registrations) (hid : e.id = x) :
    s.removeRegistrations (·.id = x) = s.unregistered x := by
  have hfull : (s.removeRegistrations (·.id = x)).fullReported = false := State.unlist_fullReported he hid h.room
  obtain ⟨full, hframe⟩ := s.removeRegistrations_frame (·.id = x)
  rw [hframe] at hfull ⊢
  cases (hfull : full = false)
  simp [State.unregistered]

/-- The state a Deny leaves, an order having been asked or none. -/
def State.listed (u : State) (x : HeadsetId) (n : Nat) : State := { u with denials := listDenial x n u.denials }

theorem denyFlags_unregistered : bit false ||| (bit false <<< 1) = 0 := by decide

theorem denyFlags_registered (taken : Bool) : bit true ||| (bit taken <<< 1) = if taken then 3 else 1 := by
  cases taken <;> decide

theorem denyHeadset_unregistered (h : ∀ e ∈ s.registrations, e.id ≠ x) : denyHeadset x s =
    (.done ([0, 0xFF] ++ natBytes s.params.denyHold), s.listed x s.params.denyHold) := by
  have hnone : s.registrations.find? (·.id = x) = none := List.find?_eq_none.mpr fun e he => by simpa using h e he
  simp only [denyHeadset, hnone, Option.isSome_none, denyFlags_unregistered]
  rfl

theorem denyHeadset_registered (h : s.AdmissionOk) (he : e ∈ s.registrations) (hid : e.id = x) : denyHeadset x s =
    (.done ([if (denyOrder x e (s.unregistered x)).1.isSome then 3 else 1,
        portByte? (denyOrder x e (s.unregistered x)).1] ++ natBytes s.params.denyHold),
      (denyOrder x e (s.unregistered x)).2.listed x s.params.denyHold) := by
  simp only [denyHeadset, h.find_registration he hid, h.removeRegistrations_eq he hid, Option.isSome_some,
    denyFlags_registered]
  rfl

/-! ### Deny served -/

section
variable {a b c : Byte}

theorem ownDeny_notCanonical (hx : canonical (id24 a b c) = false) :
    ownDeny [a, b, c] s = refuse .badIdentifier s := if_pos (by rw [hx]; rfl)

theorem ownDeny_held (hx : canonical (id24 a b c) = true) (hheld : (s.findRecord (id24 a b c)).isSome = true) :
    ownDeny [a, b, c] s = refuse .busy s := (if_neg (by rw [hx]; nofun)).trans (if_pos hheld)

theorem ownDeny_new (hx : canonical (id24 a b c) = true) (hnew : s.findRecord (id24 a b c) = none) :
    ownDeny [a, b, c] s = denyHeadset (id24 a b c) s :=
  (if_neg (by rw [hx]; nofun)).trans (if_neg (by rw [hnew]; nofun))

end

theorem ownDeny_length {p : List Byte} (h : p.length ≠ 3) : ownDeny p s = refuse .badArgument s := by
  unfold ownDeny; split
  exacts [absurd rfl h, rfl]

end
end Sys2Proof.Machine

section
open Sys2Proof Sys2Proof.Machine

/-- Settles O39: the checks in their order; then, for an ID without a registration and for one with it, what the state of
its antenna's port and the order queue make of the order. -/
theorem denyListsTheHeadset : Obligations.DenyListsTheHeadset := by
  intro o a b c s ho hroom hadm x run held others listed
  have hserves := State.serves_primary .primaryOnly ho hroom
  have hrefused : ∀ {p : List Byte} {why : Reason}, ownDeny p s = refuse why s →
      exec (.deny o p) s = .next (s.refused o why.code) := fun h =>
    congrArg Host.Outcome.next (serve_refused hserves h)
  have hdenied : canonical x = true → ¬held → ∀ {answer t}, denyHeadset x s = (.done answer, t) →
      run = .next (t.done o answer) := fun hx hfree _ _ h =>
    congrArg Host.Outcome.next (serve_done hserves ((ownDeny_new hx ((s.findRecord_none_iff x).mpr hfree)).trans h))
  have hlist := listDenial_eq hadm.denialsOk x s.params.denyHold
  refine ⟨fun hx => ?_, fun hx hheld => ?_, fun hx hfree hnone => ?_, fun hx hfree e he hid => ?_, fun p hp => ?_⟩
  · exact hrefused (why := .badIdentifier) (ownDeny_notCanonical hx)
  · exact hrefused (why := .busy) (ownDeny_held hx ((s.findRecord_isSome x).mpr hheld))
  · have hkept : (s.registrations.filter fun e => e.id ≠ x) = s.registrations :=
      List.filter_eq_self.mpr fun e he => by simpa using hnone e he
    exact ⟨s.listed x s.params.denyHold, ⟨hlist, hkept.symm, rfl⟩, rfl, rfl,
      hdenied hx hfree (denyHeadset_unregistered hnone)⟩
  · have hrun := hdenied hx hfree (denyHeadset_registered hadm he hid)
    have hframe := denyOrder_frame x e (s.unregistered x)
    generalize hasked : denyOrder x e (s.unregistered x) = asked at hrun hframe
    refine ⟨asked.2.listed x s.params.denyHold, ⟨?_, ?_, ?_⟩, ?_, ?_⟩
    · rw [hframe]; exact hlist
    · rw [hframe]; rfl
    · rw [hframe]; rfl
    · rw [hframe]; rfl
    intro p q queues
    have hqueued : ((s.port p).state = .active ∨ (s.port p).state = .dormant) → ∀ outcome q',
        takeOrder q .deny x = (outcome, q') → outcome.taken = true → queues q' := fun hin _ q' htake htaken => by
      cases hasked.symm.trans (denyOrder_taken (s := s.unregistered x) hin htake htaken)
      exact ⟨fun a => State.setPort_port (s.unregistered x) e.antenna a _, rfl, rfl, hrun⟩
    refine ⟨fun hout => ?_, fun hin => ⟨fun hwaits => ?_, fun hnew hspace => ?_, ?_, fun hfull hnone => ?_⟩⟩
    · cases hasked.symm.trans (denyOrder_outOfService (s := s.unregistered x) hout)
      exact ⟨rfl, rfl, hrun⟩
    · exact hqueued hin _ _ (takeOrder_already (by simp) (by simp) hwaits) rfl
    · exact hqueued hin _ _ (takeOrder_of_room (meetsNothing_deny hnew) hspace) rfl
    · intro hnew hfull before y after hq hy hbefore
      rw [hq] at hnew hfull hqueued
      exact hqueued hin _ _ (takeOrder_replaced (meetsNothing_deny hnew) hfull hy hbefore) rfl
    · have hlost := takeOrder_noPlace (meetsNothing_deny fun hm => hnone _ hm rfl) hfull hnone
      cases hasked.symm.trans (denyOrder_lost (s := s.unregistered x) hin (congrArg Prod.fst hlost))
      have hsame : s.SameEvents ((s.unregistered x).bumpPort p .orderDrops) := ⟨rfl, rfl, rfl, rfl⟩
      have hposted := hsame.post .warning .orderLost (some p) (some x) none 3
      exact ⟨State.post_ports .., hposted.1, hposted.2.1, hrun⟩
  · exact hrefused (why := .badArgument) (ownDeny_length hp)

end
end

section
/-! The registration intake: the reports of a cycle, each taken as an intake of its own, and the one Registration Full (O60). -/

namespace Sys2Proof.Machine

/-! ### One report (R71 to R73, R76) -/

/-- An ID that the intake disregards: a record holds it, or the Deny List lists it. -/
def State.Disregards (s : State) (x : HeadsetId) : Prop :=
  (∃ r, (s.record r).state ≠ .free ∧ (s.record r).id = some x) ∨ ∃ d ∈ s.denials, d.id = x

section
variable {s : State} {x : Report} {g : CycleNo}

theorem State.disregards_iff (s : State) (x : HeadsetId) :
    ((s.findRecord x).isSome || s.denials.any (·.id = x)) = true ↔ s.Disregards x := by
  simp [State.Disregards, s.findRecord_isSome]

theorem takeReport_disregarded (h : s.Disregards x.id) : takeReport g s x = s := if_pos ((s.disregards_iff _).mpr h)

theorem takeReport_regarded (h : ¬s.Disregards x.id) : takeReport g s x =
    if s.registrations.any (·.id = x.id) then { s with registrations := s.registrations.map (refresh g x) }
    else if s.registrations.length < Config.maxRegistrations then
      State.post { s with registrations := s.registrations ++ [⟨x.id, x.antenna, x.level, g, g⟩] }
        .notice .registrationPending (some x.antenna) (some x.id) none (byteOf x.level.val)
    else if s.fullReported then s
    else State.post { s with fullReported := true } .warning .registrationFull (some x.antenna) (some x.id) none 0 :=
  if_neg (mt (s.disregards_iff _).mp h)

theorem takeReport_refreshed (h : ¬s.Disregards x.id) (hqueued : ∃ e ∈ s.registrations, e.id = x.id) :
    takeReport g s x = { s with registrations := s.registrations.map (refresh g x) } :=
  (takeReport_regarded h).trans (if_pos (by simpa using hqueued))

/-- A report of an ID that is not queued is inserted, or ignored at a full queue. -/
theorem takeReport_new (h : ¬s.Disregards x.id) (hnew : ¬∃ e ∈ s.registrations, e.id = x.id) : takeReport g s x =
    if s.registrations.length < Config.maxRegistrations then
      State.post { s with registrations := s.registrations ++ [⟨x.id, x.antenna, x.level, g, g⟩] }
        .notice .registrationPending (some x.antenna) (some x.id) none (byteOf x.level.val)
    else if s.fullReported then s
    else State.post { s with fullReported := true } .warning .registrationFull (some x.antenna) (some x.id) none 0 :=
  (takeReport_regarded h).trans (if_neg (by simpa using hnew))

/-- A report leaves the intakes that wait. -/
theorem takeReport_intakes (g : CycleNo) (s : State) (x : Report) : (takeReport g s x).intakes = s.intakes := by
  unfold takeReport
  repeat' split
  all_goals simp

/-! ### Registration Full is posted once (R73, R166) -/

/-- How many events of Registration Full are queued. -/
def State.fullEvents (s : State) : Nat := (s.events.filter fun e => e.kind = .registrationFull).length

/-- An event placed stands among the others. -/
theorem placeEvent_perm (e : Event) (q : List Event) : (placeEvent e q).Perm (e :: q) := by
  induction q with
  | nil => exact .refl _
  | cons y ys ih =>
    rw [placeEvent]; split
    exacts [.refl _, (ih.cons y).trans (.swap ..)]

/-- Queuing an event adds none but that one. -/
theorem queueEvent_filter_length (q : List Event) (e : Event) (f : Event → Bool) :
    ((queueEvent q e).1.filter f).length ≤ (q.filter f).length + if f e then 1 else 0 := by
  have hplaced : ∀ q', ((placeEvent e q').filter f).length = (q'.filter f).length + if f e then 1 else 0 := fun q' => by
    rw [((placeEvent_perm e q').filter f).length_eq, List.filter_cons]
    split <;> simp
  have hlast : (q.dropLast.filter f).length ≤ (q.filter f).length := ((List.dropLast_sublist q).filter f).length_le
  unfold queueEvent
  split
  · exact (hplaced q).le
  split
  · exact Nat.le_add_right ..
  · split
    · exact (hplaced _).le.trans (Nat.add_le_add_right hlast _)
    · exact Nat.le_add_right ..

theorem State.post_fullEvents (s : State) (c : EventClass) (k : EventKind) (p : Option PortId) (i : Option HeadsetId)
    (n : Option LaneId) (d : Byte) :
    (s.post c k p i n d).fullEvents ≤ s.fullEvents + if k = .registrationFull then 1 else 0 := by
  rcases s.post_cases c k p i n d with ⟨-, -, e⟩ | e <;> rw [e]
  · exact Nat.le_add_right ..
  · simpa [State.fullEvents] using queueEvent_filter_length s.events ⟨c, k, s.timer.cycle, p, i, n, d⟩
      fun e => e.kind = .registrationFull

/-- The events of Registration Full queued, and the one that may yet be posted. -/
def State.fullBound (s : State) : Nat := s.fullEvents + if s.fullReported then 0 else 1

theorem takeReport_fullBound (g : CycleNo) (s : State) (x : Report) : (takeReport g s x).fullBound ≤ s.fullBound := by
  unfold takeReport
  split
  · exact le_rfl
  split
  · exact le_rfl
  split
  · have hposted := State.post_fullEvents { s with registrations := s.registrations ++ [⟨x.id, x.antenna, x.level, g, g⟩] }
      .notice .registrationPending (some x.antenna) (some x.id) none (byteOf x.level.val)
    rw [State.fullBound, State.post_fullReported]
    exact Nat.add_le_add_right hposted _
  split
  · exact le_rfl
  · rename_i hfull
    have hposted := State.post_fullEvents { s with fullReported := true }
      .warning .registrationFull (some x.antenna) (some x.id) none 0
    rw [State.fullBound, State.post_fullReported, State.fullBound, if_neg hfull]
    exact hposted

theorem takeReports_fullBound (g : CycleNo) (rs : List Report) (s : State) :
    (rs.foldl (takeReport g) s).fullBound ≤ s.fullBound :=
  foldl_keeps (P := fun u => u.fullBound ≤ s.fullBound) (fun u x hu => (takeReport_fullBound g u x).trans hu) rs le_rfl

end

/-! ### The reports of a cycle (R71) -/

/-- A report as the burst that gave it. -/
def Report.heard (x : Report) : Heard := ⟨x.antenna, x.id, x.level⟩

/-- Where an ID first appears among the bursts of a cycle. -/
def firstHeard (heard : List Heard) (x : HeadsetId) : Nat := heard.findIdx fun h => h.id = x

/-- Reports of a cycle's bursts: one for each ID in the order of first appearance, and each is the burst of its ID with the
highest level, from the lowest port that gave it. -/
structure ReportsOf (heard : List Heard) (rs : List Report) : Prop where
  order : rs.Pairwise fun x y => firstHeard heard x.id < firstHeard heard y.id
  covers : ∀ h ∈ heard, ∃ x ∈ rs, x.id = h.id
  given : ∀ x ∈ rs, x.heard ∈ heard
  best : ∀ x ∈ rs, ∀ h ∈ heard, h.id = x.id → h.level < x.level ∨ h.level = x.level ∧ x.antenna ≤ h.port

/-- A further burst leaves the first appearance of an ID heard before. -/
theorem firstHeard_append {heard : List Heard} {x : HeadsetId} (h : ∃ k ∈ heard, k.id = x) (b : Heard) :
    firstHeard (heard ++ [b]) x = firstHeard heard x := by
  have hlt : firstHeard heard x < heard.length := List.findIdx_lt_length_of_exists (by simpa using h)
  unfold firstHeard at *
  rw [List.findIdx_append, if_pos hlt]

/-- A new ID first appears behind every ID heard before. -/
theorem firstHeard_lt_new {heard : List Heard} {x : HeadsetId} {b : Heard} (hx : ∃ k ∈ heard, k.id = x)
    (hb : ∀ k ∈ heard, k.id ≠ b.id) : firstHeard (heard ++ [b]) x < firstHeard (heard ++ [b]) b.id := by
  have hlt : firstHeard heard x < heard.length := List.findIdx_lt_length_of_exists (by simpa using hx)
  have hlen : heard.findIdx (·.id = b.id) = heard.length := List.findIdx_eq_length_of_false (by simpa using hb)
  rw [firstHeard_append hx, firstHeard.eq_1 (heard ++ [b]), List.findIdx_append, hlen, if_neg (lt_irrefl _)]
  exact hlt.trans_le (Nat.le_add_left ..)

/-- A burst of the report's ID with a strictly higher level takes its place. -/
def raise (b : Heard) (x : Report) : Report :=
  if x.id = b.id ∧ x.level < b.level then { x with antenna := b.port, level := b.level } else x

theorem raise_id (b : Heard) (x : Report) : (raise b x).id = x.id := by unfold raise; split <;> rfl

theorem addReport_known {rs : List Report} {b : Heard} (h : ∃ x ∈ rs, x.id = b.id) :
    addReport rs b = rs.map (raise b) := if_pos (by simpa using h)

theorem addReport_unknown {rs : List Report} {b : Heard} (h : ¬∃ x ∈ rs, x.id = b.id) :
    addReport rs b = rs ++ [⟨b.id, b.port, b.level⟩] := if_neg (by simpa using h)

section
variable {heard : List Heard} {rs : List Report} (h : ReportsOf heard rs) {b : Heard}
include h

theorem ReportsOf.heard_id {x : Report} (hx : x ∈ rs) : ∃ k ∈ heard, k.id = x.id := ⟨_, h.given x hx, rfl⟩

/-- The order among the reports of earlier bursts stays. -/
theorem ReportsOf.order_append : rs.Pairwise fun x y => firstHeard (heard ++ [b]) x.id < firstHeard (heard ++ [b]) y.id :=
  h.order.imp_of_mem fun hx hy hxy => by rwa [firstHeard_append (h.heard_id hx), firstHeard_append (h.heard_id hy)]

/-- A burst of an ID that has a report raises that report, or leaves it. -/
theorem ReportsOf.map_raise (hport : ∀ k ∈ heard, k.port ≤ b.port) (hknown : ∃ x ∈ rs, x.id = b.id) :
    ReportsOf (heard ++ [b]) (rs.map (raise b)) where
  order := List.pairwise_map.mpr (by simpa only [raise_id] using h.order_append)
  covers k hk := by
    have hcovered : ∃ x ∈ rs, x.id = k.id := by
      obtain hk | rfl := by simpa using hk
      exacts [h.covers k hk, hknown]
    obtain ⟨x, hx, hid⟩ := hcovered
    exact ⟨raise b x, List.mem_map_of_mem hx, (raise_id b x).trans hid⟩
  given y hy := by
    obtain ⟨x, hx, rfl⟩ := List.mem_map.mp hy
    unfold raise; split
    next hraised => exact List.mem_append_right _ (by simp [Report.heard, hraised.1])
    next => exact List.mem_append_left _ (h.given x hx)
  best y hy k hk hid := by
    obtain ⟨x, hx, rfl⟩ := List.mem_map.mp hy
    rw [raise_id] at hid
    obtain hk | rfl := by simpa using hk
    · have hbest := h.best x hx k hk hid
      unfold raise; split
      next hraised => exact .inl (hbest.elim hraised.2.trans' fun he => he.1 ▸ hraised.2)
      next => exact hbest
    · unfold raise; split
      next => exact .inr ⟨rfl, le_rfl⟩
      next hkept =>
        have hle : k.level ≤ x.level := not_lt.mp fun hlt => hkept ⟨hid.symm, hlt⟩
        exact hle.lt_or_eq.imp_right fun he => ⟨he, hport _ (h.given x hx)⟩

/-- A burst of an ID without a report is a new report, the last. -/
theorem ReportsOf.append_new (hunknown : ¬∃ x ∈ rs, x.id = b.id) :
    ReportsOf (heard ++ [b]) (rs ++ [⟨b.id, b.port, b.level⟩]) := by
  have hnew : ∀ k ∈ heard, k.id ≠ b.id := fun k hk hid => hunknown (hid ▸ h.covers k hk)
  refine ⟨List.pairwise_append.mpr ⟨h.order_append, List.pairwise_singleton .., fun x hx y hy => ?_⟩, fun k hk => ?_,
    fun x hx => ?_, fun x hx k hk hid => ?_⟩
  · rw [List.mem_singleton.mp hy]
    exact firstHeard_lt_new (h.heard_id hx) hnew
  · obtain hk | rfl := by simpa using hk
    · obtain ⟨x, hx, hid⟩ := h.covers k hk
      exact ⟨x, List.mem_append_left _ hx, hid⟩
    · exact ⟨_, List.mem_append_right _ (List.mem_singleton_self _), rfl⟩
  · obtain hx | rfl := by simpa using hx
    exacts [List.mem_append_left _ (h.given x hx), List.mem_append_right _ (List.mem_singleton_self _)]
  · rw [List.mem_append, List.mem_singleton] at hx hk
    rcases hx with hx | rfl <;> rcases hk with hk | rfl
    · exact h.best x hx k hk hid
    · exact absurd ⟨x, hx, hid.symm⟩ hunknown
    · exact absurd hid (hnew k hk)
    · exact .inr ⟨rfl, le_rfl⟩

/-- A burst of a later port, or of the same one, is taken into the reports. -/
theorem ReportsOf.addReport (hport : ∀ k ∈ heard, k.port ≤ b.port) : ReportsOf (heard ++ [b]) (addReport rs b) := by
  by_cases hknown : ∃ x ∈ rs, x.id = b.id
  · rw [addReport_known hknown]; exact h.map_raise hport hknown
  · rw [addReport_unknown hknown]; exact h.append_new hknown

end

theorem reportsOf_reports {heard : List Heard} (h : heard.Pairwise fun x y => x.port ≤ y.port) :
    ReportsOf heard (reportsOf heard) := by
  induction heard using List.reverseRecOn with
  | nil => exact ⟨.nil, nofun, nofun, nofun⟩
  | append_singleton heard b ih =>
    rw [List.pairwise_append] at h
    rw [reportsOf, List.foldl_append]
    exact (ih h.1).addReport fun k hk => h.2.2 k hk b (by simp)

/-! ### The intake (log 23) -/

theorem registrationIntake_eq {s : State} {k : Intake} {rest : List Intake} (h : s.intakes = k :: rest) :
    exec .registrationIntake s = .next ((reportsOf k.heard).foldl (takeReport k.cycle) { s with intakes := rest }) := by
  show execRegistrationIntake s = _
  unfold execRegistrationIntake; rw [h]

/-- A burst is taken as a report of its own. -/
theorem registrationIntake_single {s : State} {g : CycleNo} {h : Heard} {rest : List Intake}
    (hs : s.intakes = ⟨g, [h]⟩ :: rest) :
    exec .registrationIntake s = .next (takeReport g { s with intakes := rest } ⟨h.id, h.port, h.level⟩) :=
  registrationIntake_eq hs

/-- The state an intake of one burst leaves. -/
def takeHeard (g : CycleNo) (rest : List Intake) (v : State) (h : Heard) : State :=
  match exec .registrationIntake { v with intakes := ⟨g, [h]⟩ :: rest } with
  | .next t => t
  | .fault _ => v
  | .refused _ => v

theorem takeHeard_eq (g : CycleNo) (rest : List Intake) (v : State) (x : Report) :
    takeHeard g rest v x.heard = takeReport g { v with intakes := rest } x := by
  unfold takeHeard; rw [registrationIntake_single rfl]; rfl

/-- Reports taken one after the other are intakes of one burst each. -/
theorem takeReports_eq_takeHeard (g : CycleNo) (rest : List Intake) (rs : List Report) {v : State}
    (hv : v.intakes = rest) : rs.foldl (takeReport g) v = (rs.map Report.heard).foldl (takeHeard g rest) v := by
  induction rs generalizing v with
  | nil => rfl
  | cons x rs ih =>
    have hsame : ({ v with intakes := rest } : State) = v := by rw [← hv]
    rw [List.map_cons, List.foldl_cons, List.foldl_cons, takeHeard_eq, hsame]
    exact ih ((takeReport_intakes g v x).trans hv)

end Sys2Proof.Machine

section
open Sys2Proof Sys2Proof.Machine

/-- Settles O60: one burst by what the lists hold; several as their reports, one after the other. -/
theorem registrationIntakeTakesEachReport : Obligations.RegistrationIntakeTakesEachReport := by
  refine ⟨fun s => ⟨fun hnone => ?_, fun g h rest hs _ => ?_⟩, fun s g heard rest hs hports => ?_⟩
  · show execRegistrationIntake s = _
    unfold execRegistrationIntake; rw [hnone]
  · have hrun := registrationIntake_single hs
    intro s' run out queued
    refine ⟨fun hout => ?_, fun hin hqueued => ?_, fun hin hnew hspace => ?_, fun hin hnew hfull => ?_⟩
    · exact hrun.trans (congrArg _ (takeReport_disregarded hout))
    · exact hrun.trans (congrArg _ (takeReport_refreshed hin hqueued))
    · exact hrun.trans (congrArg _ ((takeReport_new (s := s') (x := ⟨h.id, h.port, h.level⟩) hin hnew).trans (if_pos hspace)))
    · exact hrun.trans (congrArg _ ((takeReport_new (s := s') (x := ⟨h.id, h.port, h.level⟩) hin hnew).trans (if_neg hfull.not_lt)))
  · intro first one full
    have hreports := reportsOf_reports hports
    refine ⟨(reportsOf heard).map Report.heard, _, registrationIntake_eq hs, takeReports_eq_takeHeard g rest _ rfl,
      List.pairwise_map.mpr hreports.order, fun h hh => ?_, fun x hx => ?_, ?_⟩
    · obtain ⟨x, hx, hid⟩ := hreports.covers h hh
      exact ⟨x.heard, List.mem_map_of_mem hx, hid⟩
    · obtain ⟨y, hy, rfl⟩ := List.mem_map.mp hx
      exact ⟨hreports.given y hy, hreports.best y hy⟩
    · exact (Nat.le_add_right ..).trans (takeReports_fullBound g (reportsOf heard) { s with intakes := rest })

end
end
